-- ==== Sys2Proof/Word.lean ====
section
/-! DEFINITION. The word types of the part's byte paths and identifiers. -/

namespace Sys2Proof

/-- One byte of the command link, of either ingest path, or of a resource bank. -/
abbrev Byte := BitVec 8

/-- A two-byte field (R197). -/
abbrev Half := BitVec 16

/-- A four-byte field (R197). -/
abbrev Word := BitVec 32

/-- A composition id, licence id or key id: 64 bits (00_scope, "Conventions"). -/
abbrev Id64 := BitVec 64

/-- The 32 bytes of wrapped material that a request carries for a key (R76). -/
abbrev WrappedKey := BitVec 256

/-- Unwrapped key material. The manual calls it opaque (R71) and gives no width; 128 bits, which leave
room for the integrity check among the wrapped bytes, is the model's choice (DESIGN CHOICE, unsafe:
notes/assumptions/5.md). -/
abbrev Material := BitVec 128

end Sys2Proof
end

