-- ==== Sys2Proof/Records.lean ====
section
/-! DEFINITION. The records that requests carry, with the widths of R197. Their fields are what the
wire carries: the rules of the requests judge the values. -/

namespace Sys2Proof

/-- The two playout channels, numbered 0 and 1 in every message (00_scope, "Channels"). -/
inductive ChannelId where
  | a
  | b
deriving DecidableEq, Repr

/-- A track list entry of a composition record (R1): kind, tick rate, language tag of three bytes. -/
structure TrackEntry where
  kind : Byte
  tickRate : Half
  language : BitVec 24
deriving DecidableEq, Repr

/-- A reel list entry of a composition record (R1): duration and three key ids. -/
structure ReelEntry where
  duration : Word
  pictureKey : Id64
  soundKey : Id64
  subtitleKey : Id64
deriving DecidableEq, Repr

/-- A composition record (R1). -/
structure Composition where
  id : Id64
  title : Word
  frameRate : Byte
  sampleRate : Word
  sourceChannels : Byte
  logged : Byte
  tracks : List TrackEntry
  reels : List ReelEntry
deriving DecidableEq, Repr

/-- A show item (R7): composition slot, entry reel, pause-after flag. -/
structure ShowItem where
  slot : Byte
  entryReel : Byte
  pauseAfter : Byte
deriving DecidableEq, Repr

/-- A lane entry of SET-ROUTE (R169, R197): source (255 = SILENT), gain step (255 = MUTE), delay in
tenths of a millisecond. -/
structure LaneEntry where
  source : Byte
  gain : Byte
  delay : Half
deriving DecidableEq, Repr

/-- A key of LOAD-LICENCE (R76): key id, kind and 32 bytes of wrapped material. -/
structure KeyEntry where
  id : Id64
  kind : Byte
  wrapped : WrappedKey
deriving DecidableEq, Repr

/-- The body of LOAD-LICENCE (R76). -/
structure LicenceLoad where
  id : Id64
  matchValue : Word
  matchMask : Word
  windowStart : Word
  windowEnd : Word
  cap : Half
  percent : Byte
  keys : List KeyEntry
deriving DecidableEq, Repr

/-- A pair of CLEAR-NOTICES in LISTED mode (R193): kind code, and channel 0, 1 or 255 for none. -/
structure NoticePair where
  kind : Byte
  channel : Byte
deriving DecidableEq, Repr

end Sys2Proof
end

