-- ==== Sys2Proof/Syntax.lean ====
section
/-! DEFINITION. The commands of the block: one constructor per row of spec/opcode_table.json.
A request row carries the tag of its frame (R179) and the fields of its body in the order of R197.
The rows of the two byte receivers carry the bytes that arrive. -/

namespace Sys2Proof

/-- The 58 commands. -/
inductive Instr where
  /-- IDENTIFY (R188). -/
  | identify (tag : Byte)
  /-- STATUS (R188). -/
  | status (tag : Byte)
  /-- SOFT-RESET (R186). -/
  | softReset (tag : Byte)
  /-- CLEAR-RESET-CAUSE (R187). -/
  | clearResetCause (tag mask : Byte)
  /-- CONFIGURE-CHANNEL (R13, R14). -/
  | configureChannel (tag channel : Byte) (sampleRate : Word) (priming resume stallLimit : Half)
  /-- SET-TRACKS (R158). -/
  | setTracks (tag channel value mask : Byte)
  /-- SET-ROUTE (R169). -/
  | setRoute (tag channel : Byte) (lanes : List LaneEntry)
  /-- SET-STYLE (R157). -/
  | setStyle (tag channel style : Byte) (handle : Half) (minimum : Byte)
  /-- SET-SUBTITLE-OFFSET (R159). -/
  | setSubtitleOffset (tag channel track : Byte) (offset : Half)
  /-- CHANNEL-REPORT (R130). -/
  | channelReport (tag channel : Byte)
  /-- LOAD-COMPOSITION (R3, R4). -/
  | loadComposition (tag : Byte) (record : Composition)
  /-- DROP-COMPOSITION (R5). -/
  | dropComposition (tag slot : Byte)
  /-- READ-COMPOSITION (R6). -/
  | readComposition (tag slot : Byte)
  /-- LOAD-SHOW (R8, R9). -/
  | loadShow (tag channel : Byte) (items : List ShowItem)
  /-- CLEAR-SHOW (R10). -/
  | clearShow (tag channel : Byte)
  /-- CUE (R116, R117); item and reel 255 are absent (R195). -/
  | cue (tag channel item reel : Byte)
  /-- START (R119). -/
  | start (tag channel : Byte)
  /-- PAUSE (R124). -/
  | pause (tag channel : Byte)
  /-- RESUME (R125, R150). -/
  | resume (tag channel : Byte)
  /-- STOP (R129). -/
  | stop (tag channel : Byte)
  /-- JUMP (R134 to R138). -/
  | jump (tag channel item reel : Byte)
  /-- ACKNOWLEDGE-SUSPENSION (R149). -/
  | acknowledgeSuspension (tag channel : Byte)
  /-- LOAD-LICENCE (R76 to R78). -/
  | loadLicence (tag : Byte) (load : LicenceLoad)
  /-- REVOKE-LICENCE (R80). -/
  | revokeLicence (tag index : Byte)
  /-- DELETE-LICENCE (R82). -/
  | deleteLicence (tag index : Byte)
  /-- READ-LICENCE (R83). -/
  | readLicence (tag index : Byte)
  /-- COUNTER-OP with operation READ (R84). -/
  | counterOpRead (tag index : Byte) (value : Half)
  /-- COUNTER-OP with operation RAISE-CAP (R84, R85). -/
  | raiseCap (tag index : Byte) (value : Half)
  /-- COUNTER-OP with operation LOWER-CAP (R84, R85). -/
  | lowerCap (tag index : Byte) (value : Half)
  /-- SET-TIME (R87). -/
  | setTime (tag : Byte) (time : Word)
  /-- ADJUST-TIME (R88); the amount is two's complement (R195). -/
  | adjustTime (tag : Byte) (amount : Half)
  /-- READ-TIME (R89). -/
  | readTime (tag : Byte)
  /-- READ-LOG (R108). -/
  | readLog (tag count : Byte)
  /-- RELEASE-LOG (R109). -/
  | releaseLog (tag count : Byte) (oldest : Word)
  /-- READ-NOTICES (R192). -/
  | readNotices (tag : Byte)
  /-- CLEAR-NOTICES (R193). -/
  | clearNotices (tag mode : Byte) (pairs : List NoticePair)
  /-- MASK-NOTICES (R191). -/
  | maskNotices (tag : Byte) (value change : Half)
  /-- Bytes on the command link that bring a frame to its end (R180, R182). -/
  | commandFrameCompleted (bytes : List Byte)
  /-- The last byte of the executing request's reply is sent (R182). -/
  | replySent
  /-- Bytes on the command link that bring a LENGTH, CHECK or STRAY fault (R180). -/
  | frameFault (bytes : List Byte)
  /-- 5 ms of silence on the command link (R181). -/
  | partialFrameTimeout
  /-- Main power comes up after the retained domain was lost (00_scope "Resets"). -/
  | retainedLoss
  /-- Main power comes up with the retained domain intact (00_scope "Resets"). -/
  | mainPowerUp
  /-- The RESET pin is asserted (00_scope "Resets"). -/
  | pin
  /-- Main power falls (R91). -/
  | mainPowerDown
  /-- Bytes on the ingest forward path that bring a header to its judgment (R38). -/
  | segmentHeader (bytes : List Byte)
  /-- Bytes on the ingest forward path that bring a segment to its arrival (R39). -/
  | segmentArrival (bytes : List Byte)
  /-- The ingest port forms and sends the next waiting return-path message (R199). -/
  | returnMessageSend
  /-- The free unpacker chooses a channel and takes its head segment (R54). -/
  | segmentTake
  /-- The unpacking operation in work finishes (R52). -/
  | segmentFinish
  /-- The frame timer of a channel reaches its deadline (R19, R120). -/
  | deadline (channel : ChannelId)
  /-- The booth clock reaches a whole second (R86). -/
  | boothClockTick
  /-- The key unwrap of LOAD-LICENCE ends (R78, R79). `passes` says, for each key in request order, whether
  its integrity check passes where R78 does not state it: for 32 bytes that no issuer sealed (DESIGN CHOICE:
  notes/assumptions/4.md). -/
  | licenceUnwrapComplete (passes : List Bool)
  /-- An edge of a channel's sample clock (R16, R19). -/
  | sampleClockEdge (channel : ChannelId)
  /-- The SYNC byte 0xC5 on the command link, and the bytes that follow it (R180). -/
  | syncFound (bytes : List Byte)
  /-- Bytes on the ingest forward path that bring the marker (R38). -/
  | markerFound (bytes : List Byte)
  /-- The last byte of a BUSY reply or FRAME-FAULT report is sent (R184). -/
  | outgoingMessageSent
  /-- The subtitle port finishes sending one event (R162). -/
  | subtitlePortSend
deriving DecidableEq, Repr

end Sys2Proof
end

