-- ==== Sys2Proof/Decode.lean ====
section
/-! DEFINITION. The command that a word of spec/opcode_table.json spells. No row of the table gives bits
(every row's list of fields is empty), so no word spells a command. The byte forms that the manual does
give are read by the receivers of Machine/Link.lean and Machine/Ingest.lean. -/

namespace Sys2Proof

/-- The command that the table's bits spell: none, because no row has any. (DESIGN CHOICE, safe:
notes/assumptions/36.md). -/
def decodeTableWord (_nbits _w : Nat) : Option Instr := none

end Sys2Proof
end

