-- ==== Sys2Proof/Machine/Bytes.lean ====
section
/-! DEFINITION. Byte order and checks: little-endian fields (R195), the CRC-16 of command frames,
segment headers and return-path messages (R179, R34, R199), and the CRC-32 of payloads (R60). -/

namespace Sys2Proof.Machine

/-- A field of `width` bytes, least significant byte first (R195). -/
def leBytes : Nat → Nat → List Byte
  | 0, _ => []
  | width + 1, v => BitVec.ofNat 8 v :: leBytes width (v / 256)

/-- The number that bytes spell, least significant byte first (R195). -/
def leNat : List Byte → Nat
  | [] => 0
  | b :: bs => b.toNat + 256 * leNat bs

/-- The `width`-byte field at `offset` of a format (R195). -/
def fieldAt (bytes : List Byte) (offset width : Nat) : Nat :=
  leNat ((bytes.drop offset).take width)

/-- The byte at `offset`. -/
def byteAt (bytes : List Byte) (offset : Nat) : Byte := bytes.getD offset 0

/-- A one-byte field. -/
def byteOf (n : Nat) : Byte := BitVec.ofNat 8 n

/-- A flag or mark of a reply: 1 when set, 0 otherwise (R197). -/
def flagByte (b : Bool) : Byte := if b then 1 else 0

/-- An optional field other than a one-byte index: a presence byte, then the field, as zero bytes
when absent (R197). -/
def optionalField (width : Nat) : Option Nat → List Byte
  | some v => 1 :: leBytes width v
  | none => 0 :: leBytes width 0

/-- An optional one-byte index: 255 when absent (R195). -/
def optionalIndex : Option Nat → Byte
  | some v => byteOf v
  | none => 255

/-- One bit of the CRC-16: polynomial 0x1021, most significant bit first (R179). -/
def crc16Bit (crc : BitVec 16) : BitVec 16 :=
  if crc.msb then (crc <<< 1) ^^^ 0x1021 else crc <<< 1

/-- One byte of the CRC-16. -/
def crc16Byte (crc : BitVec 16) (b : Byte) : BitVec 16 :=
  (List.range 8).foldl (fun c _ => crc16Bit c) (crc ^^^ (b.setWidth 16 <<< 8))

/-- The CRC-16: initial value 0xFFFF, no reflection, no final exclusive-or (R179). -/
def crc16 (bytes : List Byte) : BitVec 16 := bytes.foldl crc16Byte 0xFFFF

/-- One bit of the CRC-32 with reflected input and output: polynomial 0x04C11DB7 read from its other
end (R60). -/
def crc32Bit (crc : BitVec 32) : BitVec 32 :=
  if crc.getLsbD 0 then (crc >>> 1) ^^^ 0xEDB88320 else crc >>> 1

/-- One byte of the CRC-32. -/
def crc32Byte (crc : BitVec 32) (b : Byte) : BitVec 32 :=
  (List.range 8).foldl (fun c _ => crc32Bit c) (crc ^^^ b.setWidth 32)

/-- The CRC-32: initial value and final exclusive-or 0xFFFFFFFF (R60). -/
def crc32 (bytes : List Byte) : BitVec 32 := bytes.foldl crc32Byte 0xFFFFFFFF ^^^ 0xFFFFFFFF

/-- A CRC-16 as it is sent, least significant byte first (R195, R196). -/
def checkBytes (bytes : List Byte) : List Byte := leBytes 2 (crc16 bytes).toNat

end Sys2Proof.Machine
end

