-- ==== Sys2Proof/Config.lean ====
section
/-! DEFINITION. What one part or one maker fixes and the manual does not state: uninterpreted
constants, so that no proof can rest on a value of theirs. The fixed figures of R188 stand beside
them. -/

namespace Sys2Proof.Config

/-- The content cipher (R60): what it makes of a plaintext of n bytes under a key's material. The
part only guarantees that decryption undoes it and that lengths agree; a permutation for every
material and length is exactly that (DEDUCED, safe: notes/assumptions/2.md). -/
opaque contentCipher (m : Material) (n : Nat) : Equiv.Perm (Fin n → Byte)

/-- How the issuer's sealing under the part's device key writes a material and its integrity check as 32
bytes (R76, R78): a rearrangement of the 256-bit words, of which the material followed by zeros is
sealed. Every sealing that can be undone has this form. Free value: notes/assumptions/4.md. -/
opaque keySealing : Equiv.Perm WrappedKey

/-- The material of 32 bytes that no sealing gave, should their check pass, which R78 does not state. Free
value: notes/assumptions/4.md. -/
opaque unsealedMaterial : WrappedKey → Material

/-- The revision code of the part less 1 (R188: 1 to 255, fixed for each revision). Free value:
notes/assumptions/3.md. -/
opaque revisionIndex : Fin 255

/-- The serial number (R188: fixed at manufacture). Free value: notes/assumptions/3.md. -/
opaque serialNumber : Id64

/-- The track that CUE-DROPPED names for the bytes after the last whole cue record (R153, R165 give
none). Free value: notes/assumptions/13.md. -/
opaque trailingTrack : List Byte → Byte

/-- The cue number that CUE-DROPPED names for those bytes. Free value: notes/assumptions/13.md. -/
opaque trailingCueNumber : List Byte → Half

/-- The device code (R188). -/
def deviceCode : Nat := 0x0B02

/-- The revision code, 1 to 255 (R188). -/
def revision : Nat := revisionIndex.val + 1

/-- The most bytes a resource bank holds (R152). -/
def bankBytes : Nat := 262144

/-- The ingest blocks of one channel's allotment (R37). -/
def allotment : Nat := 512

/-- The longest picture unit (R35). -/
def pictureLimit : Nat := 1310720

/-- The top of booth time, of sequence numbers and of frame counts (R86, R106, R93). -/
def top32 : Nat := 4294967295

/-- The period of the adjustment account (R88). -/
def adjustPeriod : Nat := 2592000

end Sys2Proof.Config
end

