-- ==== Sys2Proof/Machine/State.lean ====
section
/-! DEFINITION. Everything the spec gives the part to hold, as plain data, and its value right after
the start-up of a RETAINED LOSS. Each field names the rule that gives it. -/

namespace Sys2Proof.Machine

/-- No command makes the part stop: every fault report of the manual (INGEST-FAULT, LINK-FAULT,
FRAME-DAMAGED and so on) is a notice, an effect on State. Nothing raises a Fault (safe). -/
inductive Fault where
deriving DecidableEq, Repr

/-- The reasons a command can be refused by the model. -/
inductive Refusal where
  /-- Raised by an arm of `exec` whose command has no meaning yet; safe. No arm raises it now. -/
  | notModelled (mnemonic : String)
deriving DecidableEq, Repr

/-! ### Compositions and show lists (file 01) -/

/-- An occupied slot of the composition table: record and reference count (R2). -/
structure CompositionSlot where
  record : Composition
  refs : Nat
deriving DecidableEq, Repr

/-- The four configuration values of a channel (R13). -/
structure ChannelConfig where
  sampleRate : Nat
  priming : Nat
  resume : Nat
  stallLimit : Nat
deriving DecidableEq, Repr

/-- The nine channel states (R114), in the order of their codes 0 to 8 (R195). -/
inductive ChannelState where
  | idle
  | loaded
  | cueing
  | primed
  | playing
  | paused
  | holding
  | suspended
  | ended
deriving DecidableEq, Repr

/-! ### Frame timer (file 02) -/

/-- The timer states (R18). -/
inductive TimerState where
  | stopped
  | armed
  | running
deriving DecidableEq, Repr

/-- The frame timer of a channel (R18). `period = none` is NONE. -/
structure FrameTimer where
  state : TimerState
  count : Nat
  period : Option Nat
deriving DecidableEq, Repr

/-! ### Ingest port (file 03) -/

/-- The kinds of segment (R34). -/
inductive SegmentKind where
  | picture
  | sound
  | cues
  | resource
deriving DecidableEq, Repr

/-- A segment as the port passes it on: the header fields that some block judges, and the payload
(R34). -/
structure Segment where
  epoch : Byte
  kind : SegmentKind
  item : Nat
  reel : Nat
  fragmentIndex : Nat
  fragmentCount : Nat
  frame : Nat
  resourceOffset : Nat
  crc : Word
  payload : List Byte
deriving DecidableEq, Repr

/-- The states of the forward-path receiver (R38). -/
inductive PathState where
  | hunt
  | header
  | payload
deriving DecidableEq, Repr

/-- The forward-path receiver (R38): its state and the bytes in its receive area, oldest first. -/
structure ForwardPath where
  rx : PathState
  held : List Byte
deriving DecidableEq, Repr

/-- The messages of the return path (R199). -/
inductive ReturnMessage where
  | credit (channel : ChannelId) (blocks : Nat)
  | fetch (channel : ChannelId) (epoch : Byte) (item : Nat) (compositionId : Id64) (entryReel : Nat)
  | halt (channel : ChannelId) (epoch : Byte)
  | restart (channel : ChannelId) (epoch : Byte) (blocks : Nat)
deriving DecidableEq, Repr

/-! ### Unpacker (file 04) -/

/-- The damage causes of a slot's part (R64). -/
inductive DamageCause where
  | missing
  | keyUnusable
  | check
  | fragment
  | length
deriving DecidableEq, Repr

/-- A position: item, reel, frame (00_scope, "Conventions"). -/
structure Position where
  item : Nat
  reel : Nat
  frame : Nat
deriving DecidableEq, Repr

/-- The picture or sound part of a slot (R61, R62, R111): the fixed fragment count, the last fragment
index taken, the bytes joined, the damage cause, and whether the part is closed. -/
structure Part where
  fixedCount : Option Nat
  lastIndex : Nat
  bytes : List Byte
  damage : Option DamageCause
  closed : Bool
deriving DecidableEq, Repr

/-- The frame a slot holds (R111): position, admission record, picture part, and sound part (absent
when the composition has 0 source sound channels). -/
structure Frame where
  pos : Position
  record : Nat
  picture : Part
  sound : Option Part
deriving DecidableEq, Repr

/-- A frame slot (R111). -/
inductive Slot where
  | free
  | filling (frame : Frame)
  | ready (frame : Frame)
  | presenting (frame : Frame)
deriving DecidableEq, Repr

/-- The fetch cursor (R51, R55): START (reel), or the order key of the last segment taken. -/
inductive Cursor where
  | start (reel : Nat)
  | prologue (reel : Nat)
  | picture (reel frame : Nat)
  | sound (reel frame : Nat)
deriving DecidableEq, Repr

/-- The unpacker counts of a channel (R64). -/
structure UnpackCounts where
  order : Nat
  missing : Nat
  keyUnusable : Nat
  check : Nat
  assembly : Nat
deriving DecidableEq, Repr

/-- The assembly state of a channel (R51), less the unit in assembly, which is its FILLING slot. -/
structure Assembly where
  fetching : Option Nat
  cursor : Cursor
  complete : Bool
  counts : UnpackCounts
deriving DecidableEq, Repr

/-- The key chosen at the take of a segment (R58). -/
inductive KeyChoice where
  | plain
  | material (m : Material)
  | unusable
deriving DecidableEq, Repr

/-- The segment in work (R51): the head segment of `channel`'s queue, and the key chosen for it. -/
structure Work where
  channel : ChannelId
  key : KeyChoice
deriving DecidableEq, Repr

/-! ### Licences, keys, booth clock (file 05) -/

/-- The states of a licence that is not EMPTY (R72). -/
inductive LicenceState where
  | loaded
  | opened
  | closing
  | revoking
  | closed
  | revoked
deriving DecidableEq, Repr

/-- A licence record (R69). -/
structure Licence where
  id : Id64
  matchValue : Word
  matchMask : Word
  windowStart : Nat
  windowEnd : Nat
  cap : Nat
  percent : Nat
  charged : Nat
  reserved : Nat
  pins : Nat
  state : LicenceState
  keys : List Nat
deriving DecidableEq, Repr

/-- The kinds of key (R71). -/
inductive KeyKind where
  | picture
  | sound
  | subtitle
deriving DecidableEq, Repr

/-- A key record (R71). -/
structure KeyRecord where
  id : Id64
  kind : KeyKind
  owner : Nat
  material : Material
deriving DecidableEq, Repr

/-- The booth clock (R86). -/
structure BoothClock where
  set : Bool
  time : Nat
  phase : Nat
  periodStart : Option Nat
  used : Nat
deriving DecidableEq, Repr

/-! ### Admission and the showing log (file 06) -/

/-- An admission record (R93). `ident` is the model's own name for the record, by which slots, the
picture memory and the unpacker refer to it (DESIGN CHOICE: notes/assumptions/9.md); `logSeq` is the
sequence number of the log record referenced. -/
structure AdmissionRecord where
  ident : Nat
  item : Nat
  slot : Nat
  entryReel : Nat
  licence : Option Nat
  logSeq : Option Nat
  countPoint : Option Nat
  charged : Bool
  chargeable : Bool
  presented : Nat
  held : Nat
  damaged : Nat
deriving DecidableEq, Repr

/-- The outcomes of a log record (R106). -/
inductive LogOutcome where
  | completed
  | stopped
  | suspendedStopped
  | jumpedAway
  | interrupted
deriving DecidableEq, Repr

/-- A log record (R106). It is CLOSED exactly when `outcome` is present: both are set at close, and
`closed` is the State field of R106. (DESIGN CHOICE, safe: notes/assumptions/37.md). -/
structure LogRecord where
  seq : Nat
  channel : ChannelId
  compositionId : Id64
  title : Word
  licenceId : Option Id64
  entryReel : Nat
  admitted : Nat
  firstFrame : Option Nat
  counted : Option Nat
  ended : Option Nat
  presented : Nat
  held : Nat
  damaged : Nat
  outcome : Option LogOutcome
  closed : Bool
deriving DecidableEq, Repr

/-! ### Playout and jumps (files 07, 08) -/

/-- The channel's position with its presented mark (R126). -/
structure ChannelPosition where
  pos : Position
  presented : Bool
deriving DecidableEq, Repr

/-- The pending jump (R133): in phase COMMITTED with the committed frames remaining, or in phase
TARGET-WAIT, where none remain; with the target item and reel. -/
inductive PendingJump where
  | committed (remaining item reel : Nat)
  | targetWait (item reel : Nat)
deriving DecidableEq, Repr

/-- The messages of a picture link (R121). -/
inductive PictureMessage where
  | new (unit : List Byte)
  | repeated
  | black
deriving DecidableEq, Repr

/-! ### Subtitles (file 10) -/

/-- A reel context (R152). `serial` gives the order of creation. -/
structure Context where
  serial : Nat
  item : Nat
  reel : Nat
  bank : Nat
  left : Bool
  lastTick : List (Option Nat)
deriving DecidableEq, Repr

/-- A stored cue (R152, R155): its context, its raw frames ri, ro, fi (`fadeIn`) and fo (`fadeOut`), and the
fields of its record (R153). -/
structure Cue where
  context : Nat
  track : Nat
  number : Half
  ri : Nat
  ro : Nat
  fadeIn : Nat
  fadeOut : Nat
  tickIn : Nat
  tickOut : Nat
  fadeInTicks : Nat
  fadeOutTicks : Nat
  style : Nat
  region : Nat
  contentOffset : Nat
  contentLength : Nat
deriving DecidableEq, Repr

/-- A SHOWN cue with its fixed eo (R152). -/
structure ShownCue where
  cue : Cue
  eo : Nat
deriving DecidableEq, Repr

/-- A style (R157). -/
structure Style where
  handle : Half
  minimum : Nat
deriving DecidableEq, Repr

/-- The subtitle scheduler of a channel (R152). A bank is held by the context that names it. `shown`
lists the SHOWN cues of all tracks in show order: a track's shown set is its cues of that track. A
bank's content is a list of (offset, byte) pairs with rising offsets and no zero byte: a byte not
listed reads 0 (R156). `served` is the serial of the context matched to the frame last presented, if there was
one (R154, R160). -/
structure Subtitles where
  contexts : List Context
  nextContext : Nat
  pendingCues : List Cue
  shown : List ShownCue
  bank0 : List Host.Cell
  bank1 : List Host.Cell
  turn : Nat
  styles : List Style
  offsets : List Int
  enabled : BitVec 4
  jumpMark : Bool
  served : Option Nat
deriving DecidableEq, Repr

/-- The events of the subtitle port (R162). `kind` and `language` are those of the track entry. -/
inductive PortEvent where
  | showCue (channel : ChannelId) (track : Nat) (kind : Byte) (language : BitVec 24) (number : Half)
      (region : Nat) (handle : Half) (fadeIn fadeOut : Nat) (content : List Byte)
  | clear (channel : ChannelId) (track : Nat) (number : Half) (cut : Bool)
deriving DecidableEq, Repr

/-! ### Sound (file 11) -/

/-- A lane entry of the route map (R167). `source = none` is SILENT, `gain = none` is MUTE. -/
structure LaneSetting where
  source : Option Nat
  gain : Option Nat
  delay : Nat
deriving DecidableEq, Repr

/-- The gain factor of a lane (R167): steady, or a ramp across the running period. -/
inductive GainFactor where
  | steady (factor : Nat)
  | ramp (old new : Nat)
deriving DecidableEq, Repr

/-- A decay in progress (R29, R173): its input, its length N in samples, fixed where it begins, and the
index of its next sample. -/
structure DecaySpan where
  value : Int
  length : Nat
  next : Nat
deriving DecidableEq, Repr

/-- A lane of the sound router (R167). `rampIn` is the index j of the running period at which the
lane's ramp-in begins, if it has one; `sent` is the sample last sent on the lane. -/
structure Lane where
  setting : LaneSetting
  line : List Int
  last : Int
  effective : Option Nat
  gain : GainFactor
  decay : Option DecaySpan
  rampIn : Option Nat
  sent : Int
deriving DecidableEq, Repr

/-- The sound block of the running period (R168): its bytes, its source channel count, and whether
its end is known and ramps down (R172). -/
structure SoundBlock where
  bytes : List Byte
  channels : Nat
  knownEnd : Bool
deriving DecidableEq, Repr

/-- The sound mark (R167). -/
inductive SoundMark where
  | quiet
  | opened
deriving DecidableEq, Repr

/-- The sound router of a channel (R167). `rate` is the sample rate of its spans and lines, taken at
CUE (R177). -/
structure SoundRouter where
  lanes : List Lane
  pendingMap : Option (List LaneSetting)
  mark : SoundMark
  block : Option SoundBlock
  rate : Nat
deriving DecidableEq, Repr

/-! ### Command link and notices (file 12) -/

/-- The states of the command link receiver (R180). -/
inductive LinkState where
  | hunt
  | length
  | frame
deriving DecidableEq, Repr

/-- What the receiver knows of discarded bytes (R180): none; a LENGTH or CHECK fault just reported, with
no byte since; a run that belongs to that fault; a run still to be reported STRAY. (DEDUCED, unsafe:
notes/assumptions/34.md). -/
inductive StrayRun where
  | none
  | afterFault
  | faultRun
  | run
deriving DecidableEq, Repr

/-- A complete request frame (R179). -/
structure CommandFrame where
  tag : Byte
  kind : Byte
  body : List Byte
deriving DecidableEq, Repr

/-- What the request in the execution place is doing (R182): LOAD-LICENCE unwraps its keys (R78); its
reply is being sent; or the reply of an accepted SOFT-RESET is being sent (R186). -/
inductive ExecStage where
  | unwrapping (load : LicenceLoad)
  | replying
  | softReset
deriving DecidableEq, Repr

/-- The execution place (R182). -/
structure Executing where
  tag : Byte
  kind : Byte
  stage : ExecStage
deriving DecidableEq, Repr

/-- A message the part sends on the link (R184). `isReply` marks the reply of the request in
execution, which does not count among the 16 of the outgoing list. -/
structure LinkMessage where
  isReply : Bool
  tag : Byte
  kind : Byte
  body : List Byte
deriving DecidableEq, Repr

/-- The command link controller (R180, R182, R184). `outgoing` holds the messages produced and not
yet wholly sent, oldest first; `sent` keeps the bytes of the message sent last (DESIGN CHOICE:
notes/assumptions/7.md). -/
structure CommandLink where
  rx : LinkState
  held : List Byte
  stray : StrayRun
  executing : Option Executing
  waiting : Option CommandFrame
  outgoing : List LinkMessage
  sent : Option (List Byte)
deriving DecidableEq, Repr

/-- The notice kinds (R189), in the order of their codes 1 to 15. -/
inductive NoticeKind where
  | suspended
  | admissionRefused
  | clockUnset
  | resetOccurred
  | underrun
  | ingestOverrun
  | ingestFault
  | frameDamaged
  | logLow
  | linkFault
  | channelPrimed
  | licenceClosing
  | showEnded
  | cueDropped
  | showCounted
deriving DecidableEq, Repr

/-- The status codes (R197), in the order of their codes 0x00 to 0x12. -/
inductive Status where
  | ok
  | busy
  | unknownKind
  | badLength
  | badValue
  | wrongState
  | notFound
  | inUse
  | tableFull
  | clockUnset
  | adjustLimit
  | windowClosed
  | allowanceSpent
  | logFull
  | keyMissing
  | licenceMismatch
  | wrapFault
  | stallLatched
  | notReady
deriving DecidableEq, Repr

/-- The reset kinds (00_scope, "Resets"). -/
inductive ResetKind where
  | retainedLoss
  | mainPowerUp
  | pin
  | softReset
deriving DecidableEq, Repr

/-- The fault reasons of a segment header (R38). -/
inductive IngestFaultReason where
  | marker
  | headerCheck
  | channel
  | kind
  | length
deriving DecidableEq, Repr

/-- The fault reasons of the command link (R180, R181, R184). -/
inductive LinkFaultReason where
  | check
  | length
  | timeout
  | stray
  | reportDropped
deriving DecidableEq, Repr

/-- The frame an underrun awaits (R144). -/
inductive AwaitedKind where
  | nextFrame
  | nextItem
  | jumpTarget
deriving DecidableEq, Repr

/-- Why a show ended (R128, R129). -/
inductive EndReason where
  | completed
  | admissionRefused
  | stopped
deriving DecidableEq, Repr

/-- The reasons of CUE-DROPPED (R165), in the order of its counts. -/
inductive DropReason where
  | malformed
  | track
  | disabled
  | beyondReel
  | badReference
  | order
  | storeFull
  | bankBusy
  | resourceRange
  | missed
  | cut
  | stretched
deriving DecidableEq, Repr

/-- The reset-cause record (R187). -/
structure ResetCause where
  mainPower : Bool
  retainedLost : Bool
  pin : Bool
  command : Bool
deriving DecidableEq, Repr

/-- The fault a CUE-DROPPED raise reports (R165). -/
structure DropFault where
  reason : DropReason
  track : Byte
  number : Half
  item : Nat
  reel : Nat
deriving DecidableEq, Repr

/-- The detail of a notice entry, as its raising rule states it; a condition has none (R190). -/
inductive NoticeDetail where
  | none
  | suspended (pos : Position) (ready stallLimit : Nat)
  | admissionRefused (item : Nat) (status : Status)
  | resetOccurred (kind : ResetKind) (flags : ResetCause)
  | underrun (pos : Position) (awaited : AwaitedKind)
  | ingestOverrun (blocks granted : Nat)
  | ingestFault (reason : IngestFaultReason)
  | frameDamaged (pos : Position) (kind : SegmentKind) (cause : DamageCause)
  | linkFault (reason : LinkFaultReason)
  | channelPrimed (ready : Nat) (pos : Position)
  | licenceClosing (index : Nat) (id : Id64)
  | showEnded (reason : EndReason) (pos : Position)
  | cueDropped (first : DropFault) (counts : List Nat)
  | showCounted (item seq : Nat) (licence : Option Nat)
deriving DecidableEq, Repr

/-- An entry of the pending notice set (R190). Its level and type follow from its kind (R189). -/
structure Notice where
  kind : NoticeKind
  channel : Option ChannelId
  repeats : Nat
  detail : NoticeDetail
deriving DecidableEq, Repr

/-! ### The channel and the part -/

/-- Everything the part holds once per channel. -/
structure Channel where
  /-- Show list, absent or 1 to 16 items (R7). -/
  showList : Option (List ShowItem)
  /-- Configuration (R13). -/
  config : ChannelConfig
  /-- Channel state (R114). -/
  state : ChannelState
  /-- Frame timer (R18). -/
  timer : FrameTimer
  /-- Segment queue, head first (R37). -/
  queue : List Segment
  /-- Granted-unused credit in blocks (R37). -/
  granted : Nat
  /-- Epoch (R45). -/
  epoch : Byte
  /-- Restart epoch (R41). -/
  restartEpoch : Byte
  /-- Stale count (R41). -/
  stale : Nat
  /-- Assembly state (R51). -/
  assembly : Assembly
  /-- Admission records, oldest first (R93). -/
  records : List AdmissionRecord
  /-- Refusal mark (R99). -/
  refusal : Bool
  /-- The showing counter's report that no item follows (R94, R120). -/
  noNext : Bool
  /-- The model's own: the next admission record's `ident`. -/
  nextIdent : Nat
  /-- The ring of 96 frame slots (R112). -/
  slots : List Slot
  /-- Take pointer (R112). -/
  take : Nat
  /-- Present pointer (R112). -/
  present : Nat
  /-- Position (R126). -/
  position : Option ChannelPosition
  /-- The admission record of the frame last presented (R101, R135). -/
  lastRecord : Option Nat
  /-- Stall count (R143). -/
  stallCount : Nat
  /-- Stall latch (R143). -/
  latch : Bool
  /-- Pending jump (R133). -/
  jump : Option PendingJump
  /-- Picture memory: record of the last good picture (R122). -/
  lastGood : Option Nat
  /-- Screen mark: LIT is true, DARK is false (R122). -/
  lit : Bool
  /-- The picture message last sent (R121). -/
  picture : PictureMessage
  /-- Subtitle scheduler (R152). -/
  subs : Subtitles
  /-- Sound router (R167). -/
  sound : SoundRouter
deriving DecidableEq, Repr

/-- Everything the part holds. -/
structure State where
  /-- Main power (R86, R91). -/
  powered : Bool
  /-- Licence table, 64 slots, none = EMPTY (R69); retained. -/
  licences : List (Option Licence)
  /-- Key table, 256 slots, none = EMPTY (R71); retained. -/
  keys : List (Option KeyRecord)
  /-- Booth clock (R86); retained. -/
  clock : BoothClock
  /-- Showing log, oldest first (R106); retained. -/
  log : List LogRecord
  /-- Next sequence number (R106); retained. -/
  nextSeq : Nat
  /-- Reset-cause record (R187); retained. -/
  cause : ResetCause
  /-- Command link controller (R180 to R184). -/
  link : CommandLink
  /-- Pending notice set (R190). -/
  notices : List Notice
  /-- Mask marks, bit k - 1 for the kind of code k (R191). -/
  masks : BitVec 15
  /-- The ATTN pin (R191). -/
  attn : Bool
  /-- Composition table, 32 slots, none = EMPTY (R2). -/
  compositions : List (Option CompositionSlot)
  /-- Forward-path receiver (R38). -/
  path : ForwardPath
  /-- Waiting return-path messages, oldest first (R49). -/
  returns : List ReturnMessage
  /-- The model's own: the bytes of the return-path message formed last (R199). -/
  returnOut : Option (List Byte)
  /-- Segment in work (R51). -/
  work : Option Work
  /-- Last-served channel (R51). -/
  lastServed : ChannelId
  /-- Events handed to the subtitle port and not yet wholly sent, oldest first (R162). -/
  subtitlePort : List PortEvent
  /-- Channel A. -/
  chanA : Channel
  /-- Channel B. -/
  chanB : Channel
  /-- The model's own: the commands that wait, first in, first out. -/
  pending : List Instr
deriving DecidableEq, Repr

/-! ### Values after reset -/

/-- R13, R15. -/
def ChannelConfig.reset : ChannelConfig :=
  { sampleRate := 48000, priming := 48, resume := 12, stallLimit := 48 }

/-- R18. -/
def FrameTimer.reset : FrameTimer := { state := .stopped, count := 0, period := none }

/-- R51, R64. -/
def UnpackCounts.zero : UnpackCounts :=
  { order := 0, missing := 0, keyUnusable := 0, check := 0, assembly := 0 }

/-- R51. -/
def Assembly.reset : Assembly :=
  { fetching := none, cursor := .start 0, complete := false, counts := UnpackCounts.zero }

/-- R166. -/
def Subtitles.reset : Subtitles :=
  { contexts := [], nextContext := 0, pendingCues := [], shown := [], bank0 := [], bank1 := [],
    turn := 0, styles := List.replicate 16 { handle := 0, minimum := 0 },
    offsets := List.replicate 4 0, enabled := 15, jumpMark := false, served := none }

/-- R167: lane i plays source i at gain step 0 with delay 0, and sends 0. -/
def Lane.reset (i : Nat) : Lane :=
  { setting := { source := some i, gain := some 0, delay := 0 }, line := [], last := 0,
    effective := none, gain := .steady 32768, decay := none, rampIn := none, sent := 0 }

/-- R167. -/
def SoundRouter.reset : SoundRouter :=
  { lanes := (List.range 16).map Lane.reset, pendingMap := none, mark := .quiet, block := none,
    rate := 48000 }

/-- R15, R18, R50, R51, R93, R99, R112, R131, R133, R143, R166, R167. -/
def Channel.reset : Channel :=
  { showList := none, config := ChannelConfig.reset, state := .idle, timer := FrameTimer.reset,
    queue := [], granted := 512, epoch := 0, restartEpoch := 0, stale := 0,
    assembly := Assembly.reset, records := [], refusal := false, noNext := false, nextIdent := 0,
    slots := List.replicate 96 .free, take := 0, present := 0, position := none, lastRecord := none,
    stallCount := 0, latch := false, jump := none, lastGood := none, lit := false,
    picture := .black, subs := Subtitles.reset, sound := SoundRouter.reset }

/-- R180, R185. -/
def CommandLink.reset : CommandLink :=
  { rx := .hunt, held := [], stray := .none, executing := none, waiting := none, outgoing := [],
    sent := none }

/-- R92; the phase is a DESIGN CHOICE (notes/assumptions/6.md). -/
def BoothClock.lost : BoothClock :=
  { set := false, time := 0, phase := 0, periodStart := none, used := 0 }

/-- The RESTART messages that start-up sends first (R50). -/
def startupReturns : List ReturnMessage := [.restart .a 0 512, .restart .b 0 512]

/-- The eight CLEAR events of start-up (R166). -/
def startupClears : List PortEvent :=
  (List.range 4).map (fun t => .clear .a t 0 false) ++ (List.range 4).map (fun t => .clear .b t 0 false)

/-- The part right after the start-up of a RETAINED LOSS (R15, R50, R91, R92, R110, R131, R185, R187,
R194), with no command waiting. That it is this one of the four reset kinds is a DESIGN CHOICE
(notes/assumptions/1.md). -/
def State.reset : State :=
  { powered := true
    licences := List.replicate 64 none
    keys := List.replicate 256 none
    clock := BoothClock.lost
    log := []
    nextSeq := 1
    cause := { mainPower := true, retainedLost := true, pin := false, command := false }
    link := CommandLink.reset
    notices :=
      [{ kind := .resetOccurred, channel := none, repeats := 0,
         detail := .resetOccurred .retainedLoss
           { mainPower := true, retainedLost := true, pin := false, command := false } },
       { kind := .clockUnset, channel := none, repeats := 0, detail := .none }]
    masks := 0
    attn := true
    compositions := List.replicate 32 none
    path := { rx := .hunt, held := [] }
    returns := startupReturns
    returnOut := none
    work := none
    lastServed := .b
    subtitlePort := startupClears
    chanA := Channel.reset
    chanB := Channel.reset
    pending := [] }

end Sys2Proof.Machine
end

