-- ==== Sys2Proof/Machine/TimeBase.lean ====
section
/-! DEFINITION. The conversions of file 02, in exact integers with the roundings stated there. -/

namespace Sys2Proof.Machine

/-- Samples per frame: S / F (R17). -/
def samplesPerFrame (sampleRate frameRate : Nat) : Nat := sampleRate / frameRate

/-- The sample offset of frame n of a reel (R22). -/
def sampleOffset (frame spf : Nat) : Nat := frame * spf

/-- The quotient a / b rounded to nearest with ties away from zero (00_scope "Conventions", R23). -/
def roundDiv (a : Int) (b : Nat) : Int :=
  if 0 ≤ a then ((2 * a.toNat + b) / (2 * b) : Nat) else -(((2 * (-a).toNat + b) / (2 * b) : Nat) : Int)

/-- Stage 1 of the cue conversion: ticks to frames, rounded up (R24). -/
def frameOfTick (t frameRate tickRate : Nat) : Nat := (t * frameRate + tickRate - 1) / tickRate

/-- The greatest offset of a track in frames (R159). -/
def offsetLimit : Nat := 250

/-- The clamp of ro at load: at most D + 250 (R25). -/
def clampOut (ro duration : Nat) : Nat := min ro (duration + offsetLimit)

/-- What stage 2 makes of a cue (R26): dropped BEYOND-REEL, or [ei, eo) with the mark STRETCHED. -/
inductive Interval where
  | beyondReel
  | span (ei eo : Nat) (stretched : Bool)
deriving DecidableEq, Repr

/-- Stage 2: the effective interval (R26). -/
def effectiveInterval (ri ro : Nat) (offset : Int) (minimum duration : Nat) : Interval :=
  let ei := ((ri : Int) + offset).toNat
  if duration ≤ ei then .beyondReel
  else
    let eo := min (max ((ro : Int) + offset) ((ei : Int) + minimum)).toNat duration
    if eo ≤ ei then .span ei (ei + 1) true else .span ei eo false

/-- The fade-in of a SHOW: limited to half the span, less the frames by which the cue is late
(R27). -/
def showFadeIn (fade ei eo p : Nat) : Nat := min fade ((eo - ei) / 2) - (p - ei)

/-- The fade-out of a SHOW: limited to half the span (R27). -/
def showFadeOut (fade ei eo : Nat) : Nat := min fade ((eo - ei) / 2)

/-- A lane delay in samples, rounded half up (R28). -/
def laneDelaySamples (delay sampleRate : Nat) : Nat := (delay * sampleRate + 5000) / 10000

/-- The length N of a ramp or decay in samples (R29). -/
def rampLength (sampleRate : Nat) : Nat := sampleRate / 200

/-- A source-side value scaled by k / N (R29). -/
def scaleValue (x : Int) (k n : Nat) : Int := roundDiv (x * (k : Int)) n

/-- The fixed gain factors G(g) = round(32 768 x 10^(-g / 40)) for g = 0 to 120 (R30). -/
def gainTable : List Nat :=
  [32768, 30935, 29205, 27571, 26029, 24573, 23198, 21900, 20675, 19519, 18427] ++
  [17396, 16423, 15504, 14637, 13818, 13045, 12315, 11627, 10976, 10362] ++
  [9783, 9235, 8719, 8231, 7771, 7336, 6925, 6538, 6172, 5827] ++
  [5501, 5193, 4903, 4629, 4370, 4125, 3894, 3677, 3471, 3277] ++
  [3093, 2920, 2757, 2603, 2457, 2320, 2190, 2068, 1952, 1843] ++
  [1740, 1642, 1550, 1464, 1382, 1305, 1232, 1163, 1098, 1036] ++
  [978, 924, 872, 823, 777, 734, 693, 654, 617, 583] ++
  [550, 519, 490, 463, 437, 413, 389, 368, 347, 328] ++
  [309, 292, 276, 260, 246, 232, 219, 207, 195, 184] ++
  [174, 164, 155, 146, 138, 130, 123, 116, 110, 104] ++
  [98, 92, 87, 82, 78, 73, 69, 65, 62, 58] ++
  [55, 52, 49, 46, 44, 41, 39, 37, 35, 33]

/-- The factor of a gain step; none is MUTE, with factor 0 (R30). -/
def gainFactorOf : Option Nat → Nat
  | some g => gainTable.getD g 0
  | none => 0

/-- The factor at sample j of a period in which the gain ramps (R31): the change is rounded, as the
table of R31 rounds it (DEDUCED, unsafe: notes/assumptions/17.md). -/
def rampedFactor (old new j spf : Nat) : Nat :=
  ((old : Int) + roundDiv (((new : Int) - old) * ((j : Int) + 1)) spf).toNat

/-- The range of a signed 24-bit sample (R30). -/
def saturate24 (x : Int) : Int := max (-8388608) (min 8388607 x)

/-- What a lane sends for a value leaving its line under factor G (R30). -/
def applyGain (x : Int) (factor : Nat) : Int := saturate24 (roundDiv (x * (factor : Int)) 32768)

/-- The count point of an admission (R32). -/
def countPointOf (frames percent : Nat) : Nat := max 1 ((frames * percent + 99) / 100)

/-- The lead of a channel in milliseconds (R33). -/
def leadMs (ready frameRate : Nat) : Nat := ready * 1000 / frameRate

/-- The blocks of the ingest buffer that a payload of L bytes takes with its header (R36). -/
def blocksOf (payloadLength : Nat) : Nat := (32 + payloadLength + 4095) / 4096

/-- The sound block length B of a composition's frames in bytes (R62). -/
def soundBlockLength (spf sourceChannels : Nat) : Nat := spf * sourceChannels * 3

end Sys2Proof.Machine
end

