-- ==== Sys2Proof/Machine/Ops.lean ====
section
/-! DEFINITION. The named operations that the commands share: access to channels, composition slots,
licences and keys; the resource banks as byte memories; the return path's waiting messages. -/

namespace Sys2Proof

/-! ### Channels and compositions as records -/

/-- The number of a channel. -/
def ChannelId.number : ChannelId → Byte
  | .a => 0
  | .b => 1

/-- The other channel. -/
def ChannelId.other : ChannelId → ChannelId
  | .a => .b
  | .b => .a

/-- The composition frame rate as a number. -/
def Composition.rate (c : Composition) : Nat := c.frameRate.toNat

/-- Whether the composition has sound (R1). -/
def Composition.hasSound (c : Composition) : Bool := c.sourceChannels ≠ 0

/-- The duration of a reel, 0 when there is no such reel. -/
def Composition.duration (c : Composition) (reel : Nat) : Nat :=
  ((c.reels[reel]?).map (fun r => r.duration.toNat)).getD 0

/-- The sum of the reel durations from an entry reel on (R32). -/
def Composition.framesFrom (c : Composition) (entryReel : Nat) : Nat :=
  ((c.reels.drop entryReel).map (fun r => r.duration.toNat)).sum

/-- Whether a reel and frame are the last frame of the item's last reel (R66, R103). -/
def Composition.isLastFrame (c : Composition) (reel frame : Nat) : Bool :=
  reel + 1 = c.reels.length && frame + 1 = c.duration reel

end Sys2Proof

namespace Sys2Proof.Machine

/-! ### Channels -/

/-- The channel of a number, 0 or 1 (00_scope, "Channels"). -/
def channelOf (n : Byte) : Option ChannelId :=
  if n = 0 then some .a else if n = 1 then some .b else none

/-- The state of one channel. -/
def State.chan (s : State) : ChannelId → Channel
  | .a => s.chanA
  | .b => s.chanB

/-- The part with one channel's state replaced. -/
def State.setChan (s : State) (ch : ChannelId) (c : Channel) : State :=
  match ch with
  | .a => { s with chanA := c }
  | .b => { s with chanB := c }

/-- The part with one channel's state changed. -/
def State.modChan (s : State) (ch : ChannelId) (f : Channel → Channel) : State :=
  s.setChan ch (f (s.chan ch))

/-! ### Tables -/

/-- The composition slot of a number, when it is occupied (R2). -/
def State.compositionSlot (s : State) (n : Nat) : Option CompositionSlot := (s.compositions[n]?).join

/-- The composition record of a slot, when it is occupied. -/
def State.composition (s : State) (n : Nat) : Option Composition :=
  (s.compositionSlot n).map (·.record)

/-- The licence of an index, when its slot is not EMPTY (R69). -/
def State.licence (s : State) (i : Nat) : Option Licence := (s.licences[i]?).join

/-- The licence table with one licence changed; an EMPTY slot stays EMPTY. -/
def State.modLicence (s : State) (i : Nat) (f : Licence → Licence) : State :=
  match s.licence i with
  | some l => { s with licences := s.licences.set i (some (f l)) }
  | none => s

/-- The key record of an index, when its slot is occupied (R71). -/
def State.key (s : State) (i : Nat) : Option KeyRecord := (s.keys[i]?).join

/-- Link 4 of the chain: the key record that holds a key id (R11). -/
def State.findKey (s : State) (id : Id64) : Option KeyRecord :=
  (s.keys.filterMap (fun k => k)).find? (fun k => k.id = id)

/-- The key table with the slots of the given indices EMPTY, material and all (R71, R75). -/
def eraseKeySlots (keys : List (Option KeyRecord)) (indices : List Nat) : List (Option KeyRecord) :=
  indices.foldl (fun ks i => ks.set i none) keys

/-- The lowest-numbered EMPTY slot of a table. -/
def lowestEmpty {α : Type} (table : List (Option α)) : Option Nat := table.findIdx? (·.isNone)

/-- Link 1 of the chain: the show item of a number (R11). -/
def Channel.item (c : Channel) (n : Nat) : Option ShowItem := c.showList.bind (fun items => items[n]?)

/-- The length of the show list, 0 when it is absent. -/
def Channel.listLength (c : Channel) : Nat := (c.showList.map List.length).getD 0

/-- Links 1 and 2 of the chain: the composition of a channel's show item (R11). -/
def State.itemComposition (s : State) (ch : ChannelId) (item : Nat) : Option Composition :=
  ((s.chan ch).item item).bind (fun i => s.composition i.slot.toNat)

/-- The number of free records of the showing log (R107). -/
def State.freeLog (s : State) : Nat := 128 - s.log.length

/-! ### Resource banks as memories (R152, R156) -/

/-- What a byte of a bank reads as: 0 where nothing is listed (R156). (DEDUCED, safe:
notes/assumptions/38.md). -/
def Memory.read : List Host.Cell → Nat → Byte
  | [], _ => 0
  | (a, v) :: rest, x => if a = x then v else Memory.read rest x

/-- A bank with one byte written, in canonical form: rising offsets and no zero byte. -/
def Memory.write : List Host.Cell → Nat → Byte → List Host.Cell
  | [], a, v => if v = 0 then [] else [(a, v)]
  | (b, w) :: rest, a, v =>
    if a < b then (if v = 0 then (b, w) :: rest else (a, v) :: (b, w) :: rest)
    else if a = b then (if v = 0 then rest else (a, v) :: rest)
    else (b, w) :: Memory.write rest a v

/-- A bank with bytes written from an offset on. -/
def Memory.writeAll : List Host.Cell → Nat → List Byte → List Host.Cell
  | m, _, [] => m
  | m, a, v :: vs => Memory.writeAll (Memory.write m a v) (a + 1) vs

/-- The bytes of a bank from an offset on. -/
def Memory.readAll (m : List Host.Cell) (offset length : Nat) : List Byte :=
  (List.range length).map (fun i => Memory.read m (offset + i))

/-- The canonical form above a lower bound on offsets. -/
def Memory.wfAbove : Nat → List Host.Cell → Bool
  | _, [] => true
  | lo, (a, v) :: rest => lo ≤ a && v ≠ 0 && Memory.wfAbove (a + 1) rest

/-- The canonical form of a bank: offsets strictly rising, no zero byte. -/
def Memory.wf (m : List Host.Cell) : Bool := Memory.wfAbove 0 m

/-! ### The return path (R47 to R49) -/

/-- The channel a return-path message names. -/
def ReturnMessage.channel : ReturnMessage → ChannelId
  | .credit ch _ => ch
  | .fetch ch _ _ _ _ => ch
  | .halt ch _ => ch
  | .restart ch _ _ => ch

/-- A new CREDIT among the waiting messages, newest first: merged into the last message of its channel
when that is a CREDIT and the sum fits (R49). none means that it waits on its own. -/
def mergeCredit (ch : ChannelId) (blocks : Nat) : List ReturnMessage → Option (List ReturnMessage)
  | [] => none
  | m :: older =>
    if m.channel = ch then
      match m with
      | .credit _ n => if n + blocks ≤ 65535 then some (.credit ch (n + blocks) :: older) else none
      | _ => none
    else (mergeCredit ch blocks older).map (fun rest => m :: rest)

/-- CREDIT (channel, blocks) sent: merged or waiting as a message of its own (R49). -/
def addCredit (ch : ChannelId) (blocks : Nat) (waiting : List ReturnMessage) : List ReturnMessage :=
  match mergeCredit ch blocks waiting.reverse with
  | some merged => merged.reverse
  | none => waiting ++ [.credit ch blocks]

/-- CREDIT sent by the port (R44, R45, R41). -/
def State.sendCredit (s : State) (ch : ChannelId) (blocks : Nat) : State :=
  { s with returns := addCredit ch blocks s.returns }

/-- FETCH, HALT or RESTART sent by the port: it waits in order (R49). -/
def State.sendReturn (s : State) (m : ReturnMessage) : State := { s with returns := s.returns ++ [m] }

/-- The bytes of a return-path message, CRC included (R199). -/
def ReturnMessage.bytes (m : ReturnMessage) : List Byte :=
  let content : List Byte :=
    match m with
    | .credit ch n => [1, ch.number] ++ leBytes 2 n
    | .fetch ch e item cid reel =>
      [2, ch.number, e, byteOf item] ++ leBytes 8 cid.toNat ++ [byteOf reel]
    | .halt ch e => [3, ch.number, e]
    | .restart ch e n => [4, ch.number, e] ++ leBytes 2 n
  0xA3 :: content ++ checkBytes content

end Sys2Proof.Machine
end

