-- ==== Sys2Proof/Request.lean ====
section
/-! DEFINITION. A request frame after its tag, kind and body size have been judged (R183): the
request kinds of R197 with the fields of their bodies. COUNTER-OP is one kind with its operation
code, of which the opcode table names three rows. -/

namespace Sys2Proof

/-- The request kinds of R197. -/
inductive Request where
  | identify
  | status
  | softReset
  | clearResetCause (mask : Byte)
  | configureChannel (channel : Byte) (sampleRate : Word) (priming resume stallLimit : Half)
  | setTracks (channel value mask : Byte)
  | setRoute (channel : Byte) (lanes : List LaneEntry)
  | setStyle (channel style : Byte) (handle : Half) (minimum : Byte)
  | setSubtitleOffset (channel track : Byte) (offset : Half)
  | channelReport (channel : Byte)
  | loadComposition (record : Composition)
  | dropComposition (slot : Byte)
  | readComposition (slot : Byte)
  | loadShow (channel : Byte) (items : List ShowItem)
  | clearShow (channel : Byte)
  | cue (channel item reel : Byte)
  | start (channel : Byte)
  | pause (channel : Byte)
  | resume (channel : Byte)
  | stop (channel : Byte)
  | jump (channel item reel : Byte)
  | acknowledgeSuspension (channel : Byte)
  | loadLicence (load : LicenceLoad)
  | revokeLicence (index : Byte)
  | deleteLicence (index : Byte)
  | readLicence (index : Byte)
  | counterOp (index op : Byte) (value : Half)
  | setTime (time : Word)
  | adjustTime (amount : Half)
  | readTime
  | readLog (count : Byte)
  | releaseLog (count : Byte) (oldest : Word)
  | readNotices
  | clearNotices (mode : Byte) (pairs : List NoticePair)
  | maskNotices (value change : Half)
deriving DecidableEq, Repr

end Sys2Proof
end

