-- ==== Sys2Proof/Machine/Operands.lean ====
section
/-! DEFINITION. Operand forms: the codes of R195 and R197, the request kinds, the bodies of request
frames read and written (R183, R197), and the general form of replies (R183). -/

namespace Sys2Proof.Machine

/-! ### Codes -/

/-- The status codes (R197). -/
def Status.code : Status → Byte
  | .ok => 0x00
  | .busy => 0x01
  | .unknownKind => 0x02
  | .badLength => 0x03
  | .badValue => 0x04
  | .wrongState => 0x05
  | .notFound => 0x06
  | .inUse => 0x07
  | .tableFull => 0x08
  | .clockUnset => 0x09
  | .adjustLimit => 0x0A
  | .windowClosed => 0x0B
  | .allowanceSpent => 0x0C
  | .logFull => 0x0D
  | .keyMissing => 0x0E
  | .licenceMismatch => 0x0F
  | .wrapFault => 0x10
  | .stallLatched => 0x11
  | .notReady => 0x12

/-- The codes of the channel states (R195). -/
def ChannelState.code : ChannelState → Byte
  | .idle => 0
  | .loaded => 1
  | .cueing => 2
  | .primed => 3
  | .playing => 4
  | .paused => 5
  | .holding => 6
  | .suspended => 7
  | .ended => 8

/-- The codes of the licence states (R195); EMPTY is 0. -/
def LicenceState.code : LicenceState → Byte
  | .loaded => 1
  | .opened => 2
  | .closing => 3
  | .revoking => 4
  | .closed => 5
  | .revoked => 6

/-- The codes of the key kinds (R195). -/
def KeyKind.code : KeyKind → Byte
  | .picture => 1
  | .sound => 2
  | .subtitle => 3

/-- The key kind of a code (R195). -/
def keyKindOf (b : Byte) : Option KeyKind :=
  if b = 1 then some .picture else if b = 2 then some .sound else if b = 3 then some .subtitle else none

/-- The segment kind of a code (R34). -/
def segmentKindOf (b : Byte) : Option SegmentKind :=
  if b = 1 then some .picture else if b = 2 then some .sound
  else if b = 3 then some .cues else if b = 4 then some .resource else none

/-- The codes of the segment kinds (R34). -/
def SegmentKind.code : SegmentKind → Byte
  | .picture => 1
  | .sound => 2
  | .cues => 3
  | .resource => 4

/-- The codes of the link fault reasons (R196). -/
def LinkFaultReason.code : LinkFaultReason → Byte
  | .check => 1
  | .length => 2
  | .timeout => 3
  | .stray => 4
  | .reportDropped => 5

/-- The codes of the header fault reasons, from 0 in the order of R38 (R197). -/
def IngestFaultReason.code : IngestFaultReason → Byte
  | .marker => 0
  | .headerCheck => 1
  | .channel => 2
  | .kind => 3
  | .length => 4

/-- The codes of the damage causes, from 0 in the order of R64 (R197). -/
def DamageCause.code : DamageCause → Byte
  | .missing => 0
  | .keyUnusable => 1
  | .check => 2
  | .fragment => 3
  | .length => 4

/-- The codes of the kinds awaited, from 0 in the order of R144 (R197). -/
def AwaitedKind.code : AwaitedKind → Byte
  | .nextFrame => 0
  | .nextItem => 1
  | .jumpTarget => 2

/-- The codes of the reasons a show ended, from 0 in the order of R128 and R129 (R197). -/
def EndReason.code : EndReason → Byte
  | .completed => 0
  | .admissionRefused => 1
  | .stopped => 2

/-- The codes of the reset kinds, from 0 in the order of R187 (R197). -/
def ResetKind.code : ResetKind → Byte
  | .retainedLoss => 0
  | .mainPowerUp => 1
  | .pin => 2
  | .softReset => 3

/-- The codes of a log record's outcome; absent is 0 (R200). -/
def outcomeCode : Option LogOutcome → Byte
  | none => 0
  | some .completed => 1
  | some .stopped => 2
  | some .suspendedStopped => 3
  | some .jumpedAway => 4
  | some .interrupted => 5

/-! ### Request kinds -/

/-- The request kinds of R197. -/
inductive RequestKind where
  | identify
  | status
  | clearResetCause
  | softReset
  | configureChannel
  | setTracks
  | setRoute
  | setStyle
  | setSubtitleOffset
  | channelReport
  | loadComposition
  | dropComposition
  | readComposition
  | loadShow
  | clearShow
  | cue
  | start
  | pause
  | resume
  | stop
  | jump
  | acknowledgeSuspension
  | loadLicence
  | revokeLicence
  | deleteLicence
  | readLicence
  | counterOp
  | setTime
  | adjustTime
  | readTime
  | readLog
  | releaseLog
  | readNotices
  | clearNotices
  | maskNotices
deriving DecidableEq, Repr

/-- The KIND byte of a request kind (R197). -/
def RequestKind.code : RequestKind → Byte
  | .identify => 0x01
  | .status => 0x02
  | .clearResetCause => 0x03
  | .softReset => 0x04
  | .configureChannel => 0x10
  | .setTracks => 0x11
  | .setRoute => 0x12
  | .setStyle => 0x13
  | .setSubtitleOffset => 0x14
  | .channelReport => 0x15
  | .loadComposition => 0x20
  | .dropComposition => 0x21
  | .readComposition => 0x22
  | .loadShow => 0x23
  | .clearShow => 0x24
  | .cue => 0x30
  | .start => 0x31
  | .pause => 0x32
  | .resume => 0x33
  | .stop => 0x34
  | .jump => 0x35
  | .acknowledgeSuspension => 0x36
  | .loadLicence => 0x40
  | .revokeLicence => 0x41
  | .deleteLicence => 0x42
  | .readLicence => 0x43
  | .counterOp => 0x44
  | .setTime => 0x48
  | .adjustTime => 0x49
  | .readTime => 0x4A
  | .readLog => 0x50
  | .releaseLog => 0x51
  | .readNotices => 0x60
  | .clearNotices => 0x61
  | .maskNotices => 0x62

/-- All request kinds. -/
def RequestKind.all : List RequestKind :=
  [.identify, .status, .clearResetCause, .softReset, .configureChannel, .setTracks, .setRoute,
   .setStyle, .setSubtitleOffset, .channelReport, .loadComposition, .dropComposition,
   .readComposition, .loadShow, .clearShow, .cue, .start, .pause, .resume, .stop, .jump,
   .acknowledgeSuspension, .loadLicence, .revokeLicence, .deleteLicence, .readLicence, .counterOp,
   .setTime, .adjustTime, .readTime, .readLog, .releaseLog, .readNotices, .clearNotices,
   .maskNotices]

/-- The request kind of a KIND byte, when it is one (R183). -/
def requestKindOf (kind : Byte) : Option RequestKind :=
  RequestKind.all.find? (fun k => k.code = kind)

/-- The body size of a request kind of fixed body size (R197). -/
def RequestKind.fixedSize : RequestKind → Option Nat
  | .identify | .status | .softReset | .readTime | .readNotices => some 0
  | .clearResetCause | .channelReport | .dropComposition | .readComposition | .clearShow | .start
  | .pause | .resume | .stop | .acknowledgeSuspension | .revokeLicence | .deleteLicence
  | .readLicence | .readLog => some 1
  | .adjustTime => some 2
  | .setTracks | .cue | .jump => some 3
  | .setSubtitleOffset | .counterOp | .setTime | .maskNotices => some 4
  | .setStyle | .releaseLog => some 5
  | .configureChannel => some 11
  | .setRoute => some 65
  | .loadComposition | .loadShow | .loadLicence | .clearNotices => none

/-- The kind of a request. -/
def requestKind : Request → RequestKind
  | .identify => .identify
  | .status => .status
  | .softReset => .softReset
  | .clearResetCause _ => .clearResetCause
  | .configureChannel _ _ _ _ _ => .configureChannel
  | .setTracks _ _ _ => .setTracks
  | .setRoute _ _ => .setRoute
  | .setStyle _ _ _ _ => .setStyle
  | .setSubtitleOffset _ _ _ => .setSubtitleOffset
  | .channelReport _ => .channelReport
  | .loadComposition _ => .loadComposition
  | .dropComposition _ => .dropComposition
  | .readComposition _ => .readComposition
  | .loadShow _ _ => .loadShow
  | .clearShow _ => .clearShow
  | .cue _ _ _ => .cue
  | .start _ => .start
  | .pause _ => .pause
  | .resume _ => .resume
  | .stop _ => .stop
  | .jump _ _ _ => .jump
  | .acknowledgeSuspension _ => .acknowledgeSuspension
  | .loadLicence _ => .loadLicence
  | .revokeLicence _ => .revokeLicence
  | .deleteLicence _ => .deleteLicence
  | .readLicence _ => .readLicence
  | .counterOp _ _ _ => .counterOp
  | .setTime _ => .setTime
  | .adjustTime _ => .adjustTime
  | .readTime => .readTime
  | .readLog _ => .readLog
  | .releaseLog _ _ => .releaseLog
  | .readNotices => .readNotices
  | .clearNotices _ _ => .clearNotices
  | .maskNotices _ _ => .maskNotices

/-! ### Bodies written -/

/-- A track entry as bytes: kind, tick rate, language tag (R197). -/
def trackBytes (t : TrackEntry) : List Byte :=
  t.kind :: leBytes 2 t.tickRate.toNat ++ leBytes 3 t.language.toNat

/-- A reel entry as bytes: duration and the picture, sound and subtitle key ids (R197). -/
def reelBytes (r : ReelEntry) : List Byte :=
  leBytes 4 r.duration.toNat ++ leBytes 8 r.pictureKey.toNat ++ leBytes 8 r.soundKey.toNat ++
    leBytes 8 r.subtitleKey.toNat

/-- A composition record as bytes: header with both counts, tracks, reels (R197), in LOAD-COMPOSITION's body
and in READ-COMPOSITION's reply. (DESIGN CHOICE for the reply, unsafe: notes/assumptions/14.md). -/
def compositionBytes (c : Composition) : List Byte :=
  leBytes 8 c.id.toNat ++ leBytes 4 c.title.toNat ++ [c.frameRate] ++ leBytes 4 c.sampleRate.toNat ++
    [c.sourceChannels, c.logged, byteOf c.tracks.length, byteOf c.reels.length] ++
    (c.tracks.map trackBytes).flatten ++ (c.reels.map reelBytes).flatten

/-- A show item as bytes (R197). -/
def showItemBytes (i : ShowItem) : List Byte := [i.slot, i.entryReel, i.pauseAfter]

/-- A lane entry as bytes (R197). -/
def laneBytes (l : LaneEntry) : List Byte := [l.source, l.gain] ++ leBytes 2 l.delay.toNat

/-- A key entry as bytes: key id, kind, 32 bytes of wrapped material (R197). -/
def keyEntryBytes (k : KeyEntry) : List Byte :=
  leBytes 8 k.id.toNat ++ [k.kind] ++ leBytes 32 k.wrapped.toNat

/-- A licence load as bytes (R197). -/
def licenceLoadBytes (l : LicenceLoad) : List Byte :=
  leBytes 8 l.id.toNat ++ leBytes 4 l.matchValue.toNat ++ leBytes 4 l.matchMask.toNat ++
    leBytes 4 l.windowStart.toNat ++ leBytes 4 l.windowEnd.toNat ++ leBytes 2 l.cap.toNat ++
    [l.percent, byteOf l.keys.length] ++ (l.keys.map keyEntryBytes).flatten

/-- The body of a request (R197). -/
def requestBody : Request → List Byte
  | .identify | .status | .softReset | .readTime | .readNotices => []
  | .clearResetCause mask => [mask]
  | .configureChannel ch rate priming resume stall =>
    [ch] ++ leBytes 4 rate.toNat ++ leBytes 2 priming.toNat ++ leBytes 2 resume.toNat ++
      leBytes 2 stall.toNat
  | .setTracks ch value mask => [ch, value, mask]
  | .setRoute ch lanes => ch :: (lanes.map laneBytes).flatten
  | .setStyle ch style handle minimum => [ch, style] ++ leBytes 2 handle.toNat ++ [minimum]
  | .setSubtitleOffset ch track offset => [ch, track] ++ leBytes 2 offset.toNat
  | .channelReport ch => [ch]
  | .loadComposition c => compositionBytes c
  | .dropComposition slot => [slot]
  | .readComposition slot => [slot]
  | .loadShow ch items => [ch, byteOf items.length] ++ (items.map showItemBytes).flatten
  | .clearShow ch => [ch]
  | .cue ch item reel => [ch, item, reel]
  | .start ch => [ch]
  | .pause ch => [ch]
  | .resume ch => [ch]
  | .stop ch => [ch]
  | .jump ch item reel => [ch, item, reel]
  | .acknowledgeSuspension ch => [ch]
  | .loadLicence l => licenceLoadBytes l
  | .revokeLicence i => [i]
  | .deleteLicence i => [i]
  | .readLicence i => [i]
  | .counterOp i op value => [i, op] ++ leBytes 2 value.toNat
  | .setTime t => leBytes 4 t.toNat
  | .adjustTime d => leBytes 2 d.toNat
  | .readLog n => [n]
  | .releaseLog n oldest => n :: leBytes 4 oldest.toNat
  | .clearNotices mode pairs =>
    if mode = 0 && pairs.isEmpty then [mode]
    else [mode, byteOf pairs.length] ++ (pairs.map (fun p => [p.kind, p.channel])).flatten
  | .maskNotices value change => leBytes 2 value.toNat ++ leBytes 2 change.toNat

/-- The frame of a request. -/
def requestFrame (tag : Byte) (r : Request) : CommandFrame :=
  { tag := tag, kind := (requestKind r).code, body := requestBody r }

/-! ### Bodies read -/

/-- What the judgment of a body gives: the request, or the body of the reply that refuses it. -/
inductive Parsed where
  | request (r : Request)
  | refused (body : List Byte)
deriving DecidableEq, Repr

/-- The reply body of a refusal with the fields named (R183). -/
def refusal (st : Status) (fields : List Byte) : List Byte := st.code :: fields

/-- A BAD-LENGTH reply carries the status alone (R183). -/
def badLengthReply : List Byte := [Status.badLength.code]

/-- A fixed number of equal entries of `width` bytes from an offset on. -/
def entriesAt {α : Type} (body : List Byte) (offset width n : Nat) (read : List Byte → α) : List α :=
  (List.range n).map (fun i => read ((body.drop (offset + width * i)).take width))

/-- A track entry read. -/
def readTrack (b : List Byte) : TrackEntry :=
  { kind := byteAt b 0, tickRate := BitVec.ofNat 16 (fieldAt b 1 2),
    language := BitVec.ofNat 24 (fieldAt b 3 3) }

/-- A reel entry read. -/
def readReel (b : List Byte) : ReelEntry :=
  { duration := BitVec.ofNat 32 (fieldAt b 0 4), pictureKey := BitVec.ofNat 64 (fieldAt b 4 8),
    soundKey := BitVec.ofNat 64 (fieldAt b 12 8), subtitleKey := BitVec.ofNat 64 (fieldAt b 20 8) }

/-- A composition record read, with the counts at offsets 19 and 20 (R197). -/
def readComposition (b : List Byte) : Composition :=
  let tracks := (byteAt b 19).toNat
  { id := BitVec.ofNat 64 (fieldAt b 0 8), title := BitVec.ofNat 32 (fieldAt b 8 4),
    frameRate := byteAt b 12, sampleRate := BitVec.ofNat 32 (fieldAt b 13 4),
    sourceChannels := byteAt b 17, logged := byteAt b 18,
    tracks := entriesAt b 21 6 tracks readTrack,
    reels := entriesAt b (21 + 6 * tracks) 28 (byteAt b 20).toNat readReel }

/-- A key entry read. -/
def readKeyEntry (b : List Byte) : KeyEntry :=
  { id := BitVec.ofNat 64 (fieldAt b 0 8), kind := byteAt b 8,
    wrapped := BitVec.ofNat 256 (fieldAt b 9 32) }

/-- A licence load read, with the key count at offset 27 (R197). -/
def readLicenceLoad (b : List Byte) : LicenceLoad :=
  { id := BitVec.ofNat 64 (fieldAt b 0 8), matchValue := BitVec.ofNat 32 (fieldAt b 8 4),
    matchMask := BitVec.ofNat 32 (fieldAt b 12 4), windowStart := BitVec.ofNat 32 (fieldAt b 16 4),
    windowEnd := BitVec.ofNat 32 (fieldAt b 20 4), cap := BitVec.ofNat 16 (fieldAt b 24 2),
    percent := byteAt b 26, keys := entriesAt b 28 41 (byteAt b 27).toNat readKeyEntry }

/-- LOAD-COMPOSITION's judgment of its length and counts (R3). -/
def parseComposition (b : List Byte) : Parsed :=
  if b.length < 21 then .refused badLengthReply
  else
    let tracks := (byteAt b 19).toNat
    let reels := (byteAt b 20).toNat
    if reels < 1 ∨ 64 < reels ∨ 4 < tracks then .refused (refusal .badValue [255])
    else if b.length ≠ 21 + 6 * tracks + 28 * reels then .refused badLengthReply
    else .request (.loadComposition (readComposition b))

/-- LOAD-SHOW's judgment of its length (R8, check 1). -/
def parseShow (b : List Byte) : Parsed :=
  if b.length < 2 ∨ b.length ≠ 2 + 3 * (byteAt b 1).toNat then .refused badLengthReply
  else
    .request (.loadShow (byteAt b 0)
      (entriesAt b 2 3 (byteAt b 1).toNat
        (fun e => { slot := byteAt e 0, entryReel := byteAt e 1, pauseAfter := byteAt e 2 })))

/-- LOAD-LICENCE's judgment of its length and key count (R76). -/
def parseLicence (b : List Byte) : Parsed :=
  if b.length < 28 then .refused badLengthReply
  else
    let n := (byteAt b 27).toNat
    if n < 1 ∨ 16 < n then .refused (refusal .badValue [255, 0, 255])
    else if b.length ≠ 28 + 41 * n then .refused badLengthReply
    else .request (.loadLicence (readLicenceLoad b))

/-- CLEAR-NOTICES's judgment of its length and mode (R193, checks 1 to 3). -/
def parseClearNotices (b : List Byte) : Parsed :=
  if b.isEmpty then .refused badLengthReply
  else if byteAt b 0 = 0 then
    if b.length = 1 then .request (.clearNotices 0 []) else .refused badLengthReply
  else if byteAt b 0 = 1 then
    if b.length < 2 ∨ b.length ≠ 2 + 2 * (byteAt b 1).toNat then .refused badLengthReply
    else
      .request (.clearNotices 1
        (entriesAt b 2 2 (byteAt b 1).toNat (fun e => { kind := byteAt e 0, channel := byteAt e 1 })))
  else .refused (refusal .badValue [0, 0, 0])

/-- The request of a kind of fixed body size, its size already judged. -/
def parseFixed (kind : RequestKind) (b : List Byte) : Parsed :=
  match kind with
  | .identify => .request .identify
  | .status => .request .status
  | .softReset => .request .softReset
  | .clearResetCause => .request (.clearResetCause (byteAt b 0))
  | .configureChannel =>
    .request (.configureChannel (byteAt b 0) (BitVec.ofNat 32 (fieldAt b 1 4))
      (BitVec.ofNat 16 (fieldAt b 5 2)) (BitVec.ofNat 16 (fieldAt b 7 2))
      (BitVec.ofNat 16 (fieldAt b 9 2)))
  | .setTracks => .request (.setTracks (byteAt b 0) (byteAt b 1) (byteAt b 2))
  | .setRoute =>
    .request (.setRoute (byteAt b 0)
      (entriesAt b 1 4 16
        (fun e => { source := byteAt e 0, gain := byteAt e 1, delay := BitVec.ofNat 16 (fieldAt e 2 2) })))
  | .setStyle =>
    .request (.setStyle (byteAt b 0) (byteAt b 1) (BitVec.ofNat 16 (fieldAt b 2 2)) (byteAt b 4))
  | .setSubtitleOffset =>
    .request (.setSubtitleOffset (byteAt b 0) (byteAt b 1) (BitVec.ofNat 16 (fieldAt b 2 2)))
  | .channelReport => .request (.channelReport (byteAt b 0))
  | .loadComposition => parseComposition b
  | .dropComposition => .request (.dropComposition (byteAt b 0))
  | .readComposition => .request (.readComposition (byteAt b 0))
  | .loadShow => parseShow b
  | .clearShow => .request (.clearShow (byteAt b 0))
  | .cue => .request (.cue (byteAt b 0) (byteAt b 1) (byteAt b 2))
  | .start => .request (.start (byteAt b 0))
  | .pause => .request (.pause (byteAt b 0))
  | .resume => .request (.resume (byteAt b 0))
  | .stop => .request (.stop (byteAt b 0))
  | .jump => .request (.jump (byteAt b 0) (byteAt b 1) (byteAt b 2))
  | .acknowledgeSuspension => .request (.acknowledgeSuspension (byteAt b 0))
  | .loadLicence => parseLicence b
  | .revokeLicence => .request (.revokeLicence (byteAt b 0))
  | .deleteLicence => .request (.deleteLicence (byteAt b 0))
  | .readLicence => .request (.readLicence (byteAt b 0))
  | .counterOp =>
    .request (.counterOp (byteAt b 0) (byteAt b 1) (BitVec.ofNat 16 (fieldAt b 2 2)))
  | .setTime => .request (.setTime (BitVec.ofNat 32 (fieldAt b 0 4)))
  | .adjustTime => .request (.adjustTime (BitVec.ofNat 16 (fieldAt b 0 2)))
  | .readTime => .request .readTime
  | .readLog => .request (.readLog (byteAt b 0))
  | .releaseLog => .request (.releaseLog (byteAt b 0) (BitVec.ofNat 32 (fieldAt b 1 4)))
  | .readNotices => .request .readNotices
  | .clearNotices => parseClearNotices b
  | .maskNotices =>
    .request (.maskNotices (BitVec.ofNat 16 (fieldAt b 0 2)) (BitVec.ofNat 16 (fieldAt b 2 2)))

/-- The judgment of a body (R183, check 3). -/
def parseBody (kind : RequestKind) (b : List Byte) : Parsed :=
  match kind.fixedSize with
  | some n => if b.length = n then parseFixed kind b else .refused badLengthReply
  | none => parseFixed kind b

/-! ### Answers -/

/-- How a request in execution answers: with the reply body, status first; with the reply body of an
accepted SOFT-RESET, which acts when that reply has been sent (R186); or by beginning the unwrap of
LOAD-LICENCE, whose reply follows its completion (R78). -/
inductive Answer where
  | reply (body : List Byte)
  | replyThenReset (body : List Byte)
  | unwrap (load : LicenceLoad)
deriving DecidableEq, Repr

/-- The reply body OK with its fields. -/
def okReply (fields : List Byte) : Answer := .reply (Status.ok.code :: fields)

/-- The reply body of a refusal whose fixed fields are all 0 (R183). (DESIGN CHOICE, unsafe:
notes/assumptions/14.md). -/
def refuse (st : Status) (fixedFields : Nat) : Answer :=
  .reply (refusal st (List.replicate fixedFields 0))

/-- A request that names a channel: a number other than 0 or 1 is refused BAD-VALUE. -/
def onChannel (channel : Byte) (fixedFields : Nat) (s : State)
    (act : ChannelId → State × Answer) : State × Answer :=
  match channelOf channel with
  | some ch => act ch
  | none => (s, refuse .badValue fixedFields)

end Sys2Proof.Machine
end

