-- ==== Sys2Proof/Machine/Compositions.lean ====
section
/-! DEFINITION. The composition table, the show lists and the channel configuration (file 01):
LOAD-COMPOSITION, DROP-COMPOSITION, READ-COMPOSITION, LOAD-SHOW, CLEAR-SHOW, CONFIGURE-CHANNEL. -/

namespace Sys2Proof.Machine

/-- The composition frame rates (R1). -/
def frameRates : List Nat := [24, 25, 30, 48, 50, 60]

/-- A sample rate of R1 and R13. -/
def isSampleRate (r : Nat) : Bool := r = 48000 || r = 96000

/-- The counts of R3 within their ranges. -/
def countsInRange (c : Composition) : Bool :=
  1 ≤ c.reels.length && c.reels.length ≤ 64 && c.tracks.length ≤ 4

/-- The values of R3 that LOAD-COMPOSITION accepts. -/
def compositionValuesOk (c : Composition) : Bool :=
  c.id ≠ 0 && frameRates.contains c.rate && isSampleRate c.sampleRate.toNat &&
  c.sourceChannels.toNat ≤ 16 && c.logged.toNat ≤ 1 &&
  c.tracks.all (fun t => t.kind.toNat ≤ 1 && 1 ≤ t.tickRate.toNat && t.tickRate.toNat ≤ 1000) &&
  c.reels.all (fun r => 1 ≤ r.duration.toNat && r.duration.toNat ≤ 259200) &&
  c.framesFrom 0 ≤ 1000000 &&
  (c.hasSound || c.reels.all (fun r => r.soundKey = 0)) &&
  (!c.tracks.isEmpty || c.reels.all (fun r => r.subtitleKey = 0))

/-- Whether a composition id occupies a slot (R4, check 3). -/
def State.holdsComposition (s : State) (id : Id64) : Bool :=
  s.compositions.any (fun slot => slot.any (fun o => o.record.id = id))

/-- LOAD-COMPOSITION (R3, R4). -/
def doLoadComposition (c : Composition) (s : State) : State × Answer :=
  if !countsInRange c || !compositionValuesOk c then (s, .reply (refusal .badValue [255]))
  else if s.holdsComposition c.id then (s, .reply (refusal .inUse [255]))
  else
    match lowestEmpty s.compositions with
    | none => (s, .reply (refusal .tableFull [255]))
    | some i =>
      ({ s with compositions := s.compositions.set i (some { record := c, refs := 0 }) },
        okReply [byteOf i])

/-- DROP-COMPOSITION (R5). -/
def doDropComposition (slot : Byte) (s : State) : State × Answer :=
  if 32 ≤ slot.toNat then (s, refuse .badValue 1)
  else
    match s.compositionSlot slot.toNat with
    | none => (s, refuse .notFound 1)
    | some o =>
      if 0 < o.refs then (s, .reply (refusal .inUse [byteOf o.refs]))
      else ({ s with compositions := s.compositions.set slot.toNat none }, okReply [0])

/-- READ-COMPOSITION (R6): occupancy mark, reference count, record. -/
def doReadComposition (slot : Byte) (s : State) : State × Answer :=
  if 32 ≤ slot.toNat then (s, refuse .badValue 23)
  else
    match s.compositionSlot slot.toNat with
    | none => (s, okReply (List.replicate 23 0))
    | some o => (s, okReply ([1, byteOf o.refs] ++ compositionBytes o.record))

/-- How many items of a list name a slot (R2). -/
def namings (items : List ShowItem) (slot : Nat) : Nat := items.countP (fun i => i.slot.toNat = slot)

/-- The reference counts after a list gives up its references and another takes its own, as one
action (R9). -/
def moveReferences (old new : List ShowItem) (table : List (Option CompositionSlot)) :
    List (Option CompositionSlot) :=
  table.mapIdx (fun i o =>
    o.map (fun c => { c with refs := c.refs + namings new i - namings old i }))

/-- The checks on one show item (R8, check 5). -/
def showItemRefusal (s : State) (ch : ChannelId) (i : ShowItem) : Option Status :=
  if 32 ≤ i.slot.toNat then some .badValue
  else
    match s.composition i.slot.toNat with
    | none => some .notFound
    | some c =>
      if c.reels.length ≤ i.entryReel.toNat then some .badValue
      else if 1 < i.pauseAfter.toNat then some .badValue
      else if c.sampleRate.toNat ≠ (s.chan ch).config.sampleRate then some .badValue
      else none

/-- The first failing item of a list and its status (R8, check 5). -/
def firstBadItem (s : State) (ch : ChannelId) : Nat → List ShowItem → Option (Nat × Status)
  | _, [] => none
  | n, i :: rest =>
    match showItemRefusal s ch i with
    | some st => some (n, st)
    | none => firstBadItem s ch (n + 1) rest

/-- A state in which a show list may be replaced (R8, check 3). -/
def ChannelState.acceptsLoadShow : ChannelState → Bool
  | .idle | .loaded | .ended => true
  | _ => false

/-- An accepted LOAD-SHOW (R9). -/
def installShow (ch : ChannelId) (items : List ShowItem) (s : State) : State :=
  let old := ((s.chan ch).showList).getD []
  { s with compositions := moveReferences old items s.compositions }.modChan ch (fun c =>
    { c with showList := some items, state := .loaded, position := none, lastRecord := none })

/-- LOAD-SHOW (R8, R9). -/
def doLoadShow (channel : Byte) (items : List ShowItem) (s : State) : State × Answer :=
  match channelOf channel with
  | none => (s, .reply (refusal .badValue [0, 255]))
  | some ch =>
    if !(s.chan ch).state.acceptsLoadShow then (s, .reply (refusal .wrongState [0, 255]))
    else if items.length < 1 ∨ 16 < items.length then (s, .reply (refusal .badValue [0, 255]))
    else
      match firstBadItem s ch 0 items with
      | some (n, st) => (s, .reply (refusal st [0, byteOf n]))
      | none => (installShow ch items s, okReply [byteOf items.length])

/-- CLEAR-SHOW (R10). -/
def doClearShow (channel : Byte) (s : State) : State × Answer :=
  onChannel channel 0 s fun ch =>
    match (s.chan ch).state with
    | .loaded | .ended =>
      let old := ((s.chan ch).showList).getD []
      ({ s with compositions := moveReferences old [] s.compositions }.modChan ch (fun c =>
          { c with showList := none, state := .idle, position := none, lastRecord := none }),
        okReply [])
    | _ => (s, refuse .wrongState 0)

/-- A value clamped to a range (00_scope, "Conventions"). -/
def clampNat (lo hi n : Nat) : Nat := max lo (min hi n)

/-- The configuration after an accepted CONFIGURE-CHANNEL (R14). -/
def clampedConfig (sampleRate priming resume stallLimit : Nat) : ChannelConfig :=
  let p := clampNat 8 96 priming
  { sampleRate := sampleRate, priming := p, resume := clampNat 4 p resume,
    stallLimit := clampNat 1 250 stallLimit }

/-- A configuration as a reply carries it (R14, R130). -/
def configBytes (c : ChannelConfig) : List Byte :=
  leBytes 4 c.sampleRate ++ leBytes 2 c.priming ++ leBytes 2 c.resume ++ leBytes 2 c.stallLimit

/-- CONFIGURE-CHANNEL (R13, R14). -/
def doConfigureChannel (channel : Byte) (sampleRate : Word) (priming resume stallLimit : Half)
    (s : State) : State × Answer :=
  onChannel channel 10 s fun ch =>
    if !isSampleRate sampleRate.toNat then (s, refuse .badValue 10)
    else if sampleRate.toNat ≠ (s.chan ch).config.sampleRate ∧ (s.chan ch).state ≠ .idle then
      (s, refuse .wrongState 10)
    else
      let cfg := clampedConfig sampleRate.toNat priming.toNat resume.toNat stallLimit.toNat
      (s.modChan ch (fun c => { c with config := cfg }), okReply (configBytes cfg))

end Sys2Proof.Machine
end

