-- ==== Sys2Proof/Machine/Sound.lean ====
section
/-! DEFINITION. The sound router of a channel (file 11): what the lanes send at an edge, what a deadline
does to them, SET-ROUTE, suspension, STOP, the end of a show and CUE. -/

namespace Sys2Proof.Machine

/-! ### One edge (R168) -/

/-- A signed 24-bit sample read from its three bytes, least significant first (R168, R195). (DEDUCED,
unsafe: notes/assumptions/11.md). -/
def signed24 (n : Nat) : Int := if n < 8388608 then (n : Int) else (n : Int) - 16777216

/-- The sample of a source at index j of a block: the j-th sample frame's sample of that number
(R168). -/
def SoundBlock.sample (b : SoundBlock) (source j : Nat) : Int :=
  signed24 (fieldAt b.bytes ((j * b.channels + source) * 3) 3)

/-- The sample of a lane's effective source; a SILENT lane plays 0 (R168). -/
def SoundBlock.laneSample (b : SoundBlock) (source : Option Nat) (j : Nat) : Int :=
  match source with
  | some c => b.sample c j
  | none => 0

/-- A block's value on a lane at index j: within a ramp-in or the ramp-down of a known end it is scaled
(R29, R168, R172). `n` is the ramp length and `spf` the period. -/
def blockValue (b : SoundBlock) (l : Lane) (j n spf : Nat) : Int :=
  let x := b.laneSample l.effective j
  match l.rampIn with
  | some r =>
    if r ≤ j && j < r + n then scaleValue x (j - r + 1) n
    else if b.knownEnd && spf ≤ j + n then scaleValue x (spf - 1 - j) n
    else x
  | none => if b.knownEnd && spf ≤ j + n then scaleValue x (spf - 1 - j) n else x

/-- The source-side value of a lane (R168): its decay, over the decay's own length, or its block, or
0. -/
def Lane.sourceValue (l : Lane) (block : Option SoundBlock) (j n spf : Nat) : Int :=
  match l.decay with
  | some d => scaleValue d.value (d.length - 1 - d.next) d.length
  | none =>
    match block with
    | some b => blockValue b l j n spf
    | none => 0

/-- A decay after one more of its samples (R29): it ends with the last of its own length, also when CUE
has changed the rate since it began (R177). -/
def DecaySpan.advance (d : DecaySpan) : Option DecaySpan :=
  if d.next + 1 < d.length then some { d with next := d.next + 1 } else none

/-- A lane's factor at index j (R31, R174). -/
def GainFactor.at (g : GainFactor) (j spf : Nat) : Nat :=
  match g with
  | .steady f => f
  | .ramp old new => rampedFactor old new j spf

/-- A lane at one edge (R168): the value enters the line, another leaves it and is sent under the
gain factor. -/
def Lane.edge (l : Lane) (block : Option SoundBlock) (j n spf : Nat) : Lane :=
  let v := l.sourceValue block j n spf
  { l with
    last := v
    line := (l.line ++ [v]).drop 1
    decay := l.decay.bind DecaySpan.advance
    sent := applyGain ((l.line ++ [v]).headD v) (l.gain.at j spf) }

/-- Every lane at one edge of the channel's sample clock, at index j of a running period of `spf`
samples (R168, R178). -/
def SoundRouter.edge (r : SoundRouter) (j spf : Nat) : SoundRouter :=
  { r with lanes := r.lanes.map (fun l => l.edge r.block j (rampLength r.rate) spf) }

/-! ### A deadline (R170 to R173) -/

/-- A gain factor after its ramp (R174). -/
def GainFactor.settled : GainFactor → GainFactor
  | .steady f => .steady f
  | .ramp _ new => .steady new

/-- The mark at the end of a period (R171, R172): OPEN after a block that played to its end without a
ramp-down. -/
def markAfter (r : SoundRouter) : SoundMark :=
  match r.block with
  | some b => if b.knownEnd then .quiet else .opened
  | none => r.mark

/-- The running period ends (R171, R172, R174). -/
def SoundRouter.endPeriod (r : SoundRouter) : SoundRouter :=
  { r with
    mark := markAfter r
    block := none
    lanes := r.lanes.map (fun l => { l with gain := l.gain.settled, rampIn := none }) }

/-- The length of a lane's line for its delay (R28, R168). -/
def LaneSetting.lineLength (e : LaneSetting) (rate : Nat) : Nat := laneDelaySamples e.delay rate

/-- A line of a given length: emptied to it when the length differs (R170, R177). -/
def resizedLine (line : List Int) (length : Nat) : List Int :=
  if line.length = length then line else List.replicate length 0

/-- A factor that ramps from the one in force to that of a new gain step (R174). -/
def GainFactor.rampTo (g : GainFactor) (step : Option Nat) : GainFactor :=
  match g with
  | .steady f => .ramp f (gainFactorOf step)
  | .ramp _ f => .ramp f (gainFactorOf step)

/-- A lane given a new map entry (R170), and whether its delay changed. -/
def Lane.route (l : Lane) (e : LaneSetting) (rate : Nat) : Lane × Bool :=
  ({ l with
      setting := e
      gain := if e.gain = l.setting.gain then l.gain else l.gain.rampTo e.gain
      line := resizedLine l.line (e.lineLength rate) },
    l.line.length ≠ e.lineLength rate)

/-- The lanes after the pending image, if any, took effect, each with its delay-change mark (R170). -/
def SoundRouter.routedLanes (r : SoundRouter) : List (Lane × Bool) :=
  match r.pendingMap with
  | some image => r.lanes.zipWith (fun l e => l.route e r.rate) image
  | none => r.lanes.map (fun l => (l, false))

/-- The source a lane plays of a block with a number of source channels (R168). -/
def LaneSetting.effective (e : LaneSetting) (channels : Nat) : Option Nat :=
  match e.source with
  | some c => if c < channels then some c else none
  | none => none

/-- A decay of `n` samples from the last source-side value (R29). -/
def Lane.startDecay (l : Lane) (n : Nat) : Lane :=
  { l with decay := some { value := l.last, length := n, next := 0 } }

/-- A lane at a deadline with a block (R171). `changed` is the delay-change mark of R170, `target` says
that the block is a jump target's first frame (R140). (DEDUCED, unsafe: notes/assumptions/22.md). -/
def Lane.leadIn (l : Lane) (changed : Bool) (mark : SoundMark) (target : Bool) (channels n : Nat) :
    Lane :=
  let eff := l.setting.effective channels
  let differs := changed || eff ≠ l.effective
  let l := { l with effective := eff }
  match mark with
  | .quiet => { l with decay := none, rampIn := some 0 }
  | .opened =>
    if differs || target then { l.startDecay n with rampIn := some n }
    else { l with decay := none, rampIn := none }

/-- A deadline that gives the router a block (R170, R171, R172). -/
def SoundRouter.beginBlock (r : SoundRouter) (b : SoundBlock) (target : Bool) : SoundRouter :=
  let r := r.endPeriod
  { r with
    lanes := r.routedLanes.map (fun x => x.1.leadIn x.2 r.mark target b.channels (rampLength r.rate))
    pendingMap := none
    block := some b }

/-- A deadline without a block: every lane decays, and its effective source becomes SILENT (R173). -/
def SoundRouter.beginQuiet (r : SoundRouter) : SoundRouter :=
  let r := r.endPeriod
  { r with
    lanes := r.routedLanes.map (fun x => { x.1.startDecay (rampLength r.rate) with effective := none })
    pendingMap := none
    mark := .quiet }

/-- A lane silenced at once (R175). -/
def Lane.silenced (l : Lane) : Lane :=
  { l with line := List.replicate l.line.length 0, last := 0, effective := none, decay := none,
           rampIn := none }

/-- A suspending deadline (R175): a pending image takes effect under R170, and every lane is silenced
at once. -/
def SoundRouter.suspend (r : SoundRouter) : SoundRouter :=
  let r := r.endPeriod
  { r with lanes := r.routedLanes.map (fun x => x.1.silenced), pendingMap := none, mark := .quiet }

/-- Every gain ramp becomes steady, because the frame timer stops (R174). -/
def SoundRouter.settleGains (r : SoundRouter) : SoundRouter :=
  { r with lanes := r.lanes.map (fun l => { l with gain := l.gain.settled }) }

/-- The deadline at which a show ends (R173, R174, R176). -/
def SoundRouter.endShow (r : SoundRouter) : SoundRouter := r.beginQuiet.settleGains

/-- An accepted STOP (R176): the block is abandoned, and every lane decays from the next edge. (DEDUCED,
unsafe: notes/assumptions/24.md). -/
def SoundRouter.stop (r : SoundRouter) : SoundRouter :=
  { r with
    block := none
    mark := .quiet
    lanes := r.lanes.map (fun l =>
      { l.startDecay (rampLength r.rate) with rampIn := none, gain := l.gain.settled }) }

/-- An accepted CUE (R177): the rate of the spans to come and of the lines; a decay still running keeps
its length. (DEDUCED, unsafe: notes/assumptions/10.md). -/
def SoundRouter.cue (r : SoundRouter) (rate : Nat) : SoundRouter :=
  { r with
    rate := rate
    mark := .quiet
    lanes := r.lanes.map (fun l => { l with line := resizedLine l.line (l.setting.lineLength rate) }) }

/-! ### SET-ROUTE (R169) -/

/-- A lane entry whose source and gain step are in range (R169). -/
def LaneEntry.ok (e : LaneEntry) : Bool :=
  (e.source.toNat ≤ 15 || e.source = 255) && (e.gain.toNat ≤ 120 || e.gain = 255)

/-- A lane entry as stored, its delay clamped (R169). -/
def LaneEntry.setting (e : LaneEntry) : LaneSetting :=
  { source := if e.source = 255 then none else some e.source.toNat
    gain := if e.gain = 255 then none else some e.gain.toNat
    delay := min 1000 e.delay.toNat }

/-- SET-ROUTE (R169). A map that is not of 16 lanes is a body of another size (R183). The 16 delays of the
reply stand without a number byte. (DESIGN CHOICE, unsafe: notes/assumptions/43.md). -/
def doSetRoute (channel : Byte) (lanes : List LaneEntry) (s : State) : State × Answer :=
  if lanes.length ≠ 16 then (s, .reply badLengthReply)
  else
    onChannel channel 33 s fun ch =>
      if !lanes.all LaneEntry.ok then (s, refuse .badValue 33)
      else
        let image := lanes.map LaneEntry.setting
        (s.modChan ch (fun c => { c with sound := { c.sound with pendingMap := some image } }),
          okReply ((image.map (fun e => leBytes 2 e.delay)).flatten ++
            [flagByte (s.chan ch).sound.pendingMap.isSome]))

end Sys2Proof.Machine
end

