-- ==== Sys2Proof/Machine/Flags.lean ====
section
/-! DEFINITION. The part's flags: the pending notice set, its masks and ATTN (R189 to R194), and the
reset-cause flags (R187). -/

namespace Sys2Proof.Machine

/-- The code of a notice kind (R189). -/
def NoticeKind.code : NoticeKind → Nat
  | .suspended => 1
  | .admissionRefused => 2
  | .clockUnset => 3
  | .resetOccurred => 4
  | .underrun => 5
  | .ingestOverrun => 6
  | .ingestFault => 7
  | .frameDamaged => 8
  | .logLow => 9
  | .linkFault => 10
  | .channelPrimed => 11
  | .licenceClosing => 12
  | .showEnded => 13
  | .cueDropped => 14
  | .showCounted => 15

/-- The level of a notice kind (R189). -/
def NoticeKind.level : NoticeKind → Nat
  | .suspended => 7
  | .admissionRefused => 6
  | .clockUnset => 6
  | .resetOccurred => 6
  | .underrun => 5
  | .ingestOverrun => 5
  | .ingestFault => 5
  | .frameDamaged => 4
  | .logLow => 4
  | .linkFault => 4
  | .channelPrimed => 3
  | .licenceClosing => 3
  | .showEnded => 2
  | .cueDropped => 2
  | .showCounted => 1

/-- Whether a kind is latched; the others are conditions (R189). -/
def NoticeKind.latched : NoticeKind → Bool
  | .clockUnset => false
  | .logLow => false
  | _ => true

/-- The mask mark of a kind: bit k - 1 for the kind of code k (R191). -/
def maskedBy (masks : BitVec 15) (k : NoticeKind) : Bool := masks.getLsbD (k.code - 1)

/-- What ATTN is for a set and its masks: asserted while an entry of an unmasked kind is pending
(R191). -/
def attnOf (masks : BitVec 15) (notices : List Notice) : Bool :=
  notices.any (fun n => !maskedBy masks n.kind)

/-- The set replaced; ATTN follows (R191). -/
def State.setNotices (s : State) (notices : List Notice) : State :=
  { s with notices := notices, attn := attnOf s.masks notices }

/-- The number of the unmasked pending entries (R188, R191). -/
def State.unmaskedCount (s : State) : Nat :=
  (s.notices.filter (fun n => !maskedBy s.masks n.kind)).length

/-- The place of a reason among the counts of CUE-DROPPED (R165). -/
def DropReason.index : DropReason → Nat
  | .malformed => 0
  | .track => 1
  | .disabled => 2
  | .beyondReel => 3
  | .badReference => 4
  | .order => 5
  | .storeFull => 6
  | .bankBusy => 7
  | .resourceRange => 8
  | .missed => 9
  | .cut => 10
  | .stretched => 11

/-- The reason counts with one reason's count raised, stopping at 65 535 (R165). -/
def bumpReason (counts : List Nat) (r : DropReason) : List Nat :=
  counts.modify r.index (fun n => min 65535 (n + 1))

/-- The detail of an entry after a further raise: kept, but CUE-DROPPED counts the reason of the new
raise (R165, R190). -/
def repeatedDetail (kept raised : NoticeDetail) : NoticeDetail :=
  match kept, raised with
  | .cueDropped first counts, .cueDropped again _ => .cueDropped first (bumpReason counts again.reason)
  | _, _ => kept

/-- Whether an entry is the one of a kind and channel. -/
def Notice.isOf (n : Notice) (kind : NoticeKind) (channel : Option ChannelId) : Bool :=
  n.kind = kind && n.channel = channel

/-- The set after a raise of a latched kind (R190). -/
def raised (notices : List Notice) (kind : NoticeKind) (channel : Option ChannelId)
    (detail : NoticeDetail) : List Notice :=
  if notices.any (fun n => n.isOf kind channel) then
    notices.map (fun n =>
      if n.isOf kind channel then
        { n with repeats := min 255 (n.repeats + 1), detail := repeatedDetail n.detail detail }
      else n)
  else notices ++ [{ kind := kind, channel := channel, repeats := 0, detail := detail }]

/-- A raise of a latched kind (R190). -/
def State.raise (s : State) (kind : NoticeKind) (channel : Option ChannelId) (detail : NoticeDetail) :
    State :=
  s.setNotices (raised s.notices kind channel detail)

/-- The set with a condition kind present or absent (R190). -/
def withCondition (notices : List Notice) (kind : NoticeKind) (holds : Bool) : List Notice :=
  if holds then
    if notices.any (fun n => n.isOf kind none) then notices
    else notices ++ [{ kind := kind, channel := none, repeats := 0, detail := .none }]
  else notices.filter (fun n => !n.isOf kind none)

/-- LOG-LOW is present exactly while 16 or fewer log records are free (R107). -/
def State.refreshLogLow (s : State) : State :=
  s.setNotices (withCondition s.notices .logLow (s.freeLog ≤ 16))

/-- CLOCK-UNSET is present exactly while the booth clock is UNSET (R90). -/
def State.refreshClockUnset (s : State) : State :=
  s.setNotices (withCondition s.notices .clockUnset (!s.clock.set))

/-- The twelve reason counts of a fresh CUE-DROPPED entry (R165). -/
def freshReasonCounts (r : DropReason) : List Nat := bumpReason (List.replicate 12 0) r

/-- A raise of CUE-DROPPED for one fault (R165). -/
def State.raiseDrop (s : State) (ch : ChannelId) (fault : DropFault) : State :=
  s.raise .cueDropped (some ch) (.cueDropped fault (freshReasonCounts fault.reason))

/-- Raises of CUE-DROPPED for the faults of one action, in order. (DESIGN CHOICE, unsafe:
notes/assumptions/16.md). -/
def State.raiseDrops (s : State) (ch : ChannelId) (faults : List DropFault) : State :=
  faults.foldl (fun st f => st.raiseDrop ch f) s

/-! ### Reset-cause flags (R187) -/

/-- The flags as a mask, from the lowest bit: MAIN-POWER, RETAINED-LOST, PIN, COMMAND (R187). -/
def ResetCause.byte (c : ResetCause) : Byte :=
  (if c.mainPower then 1 else 0) + (if c.retainedLost then 2 else 0) + (if c.pin then 4 else 0) +
    (if c.command then 8 else 0)

/-- The flags with those of a mask cleared (R187). -/
def ResetCause.clear (c : ResetCause) (mask : Byte) : ResetCause :=
  { mainPower := c.mainPower && !mask.getLsbD 0
    retainedLost := c.retainedLost && !mask.getLsbD 1
    pin := c.pin && !mask.getLsbD 2
    command := c.command && !mask.getLsbD 3 }

/-- The flags after the start-up of a reset (R187). -/
def ResetCause.after (c : ResetCause) : ResetKind → ResetCause
  | .retainedLoss => { mainPower := true, retainedLost := true, pin := false, command := false }
  | .mainPowerUp => { c with mainPower := true }
  | .pin => { c with pin := true }
  | .softReset => { c with command := true }

end Sys2Proof.Machine
end

