-- ==== Sys2Proof/Machine/Ingest.lean ====
section
/-! DEFINITION. The ingest port (file 03): the forward-path receiver, the judgment of arrivals, the
queues and their credit, and the epochs. -/

namespace Sys2Proof.Machine

/-! ### The receiver (R38, R40) -/

/-- The segment marker (R198). -/
def segmentMarker : List Byte := [0xE7, 0x3C, 0x91, 0x0D]

/-- The hunt over bytes not yet discarded (R38): bytes at which no marker begins are discarded; a
marker found opens a header; a partial match at the end stays held. -/
def huntScan : List Byte → ForwardPath
  | [] => { rx := .hunt, held := [] }
  | b :: bs =>
    if segmentMarker.isPrefixOf (b :: bs) then { rx := .header, held := b :: bs }
    else if (b :: bs).isPrefixOf segmentMarker then { rx := .hunt, held := b :: bs }
    else huntScan bs

/-- The payload length a header announces (R198). -/
def headerPayloadLength (h : List Byte) : Nat := fieldAt h 20 4

/-- The judgment of a header's 32 bytes: the first failing check (R38). -/
def judgeHeader (h : List Byte) : Option IngestFaultReason :=
  if !segmentMarker.isPrefixOf h then some .marker
  else if fieldAt h 30 2 ≠ (crc16 (h.take 30)).toNat then some .headerCheck
  else if (channelOf (byteAt h 4)).isNone then some .channel
  else if (segmentKindOf (byteAt h 6)).isNone then some .kind
  else if 65536 < headerPayloadLength h then some .length
  else none

/-- The channel of a header. -/
def headerChannel (h : List Byte) : ChannelId := (channelOf (byteAt h 4)).getD .a

/-- The segment that a judged header and its payload make (R34, R198). -/
def segmentOf (bytes : List Byte) : Segment :=
  { epoch := byteAt bytes 5, kind := (segmentKindOf (byteAt bytes 6)).getD .picture,
    item := (byteAt bytes 7).toNat, reel := (byteAt bytes 8).toNat,
    fragmentIndex := (byteAt bytes 9).toNat, fragmentCount := (byteAt bytes 10).toNat,
    frame := fieldAt bytes 12 4, resourceOffset := fieldAt bytes 16 4,
    crc := BitVec.ofNat 32 (fieldAt bytes 24 4), payload := bytes.drop 32 }

/-- The blocks of a segment (R36). -/
def Segment.blocks (g : Segment) : Nat := blocksOf g.payload.length

/-- The blocks held in a queue (R37). -/
def blocksHeld (queue : List Segment) : Nat := (queue.map Segment.blocks).sum

/-! ### Arrival (R39, R41, R42) -/

/-- Whether a stale segment's epoch is met counting forward from the restart epoch before the current
epoch is reached (R41). -/
def epochMet (epoch restart current : Byte) : Bool := (epoch - restart).toNat < (current - restart).toNat

/-- A stale segment (R41). -/
def State.arriveStale (s : State) (ch : ChannelId) (g : Segment) : State :=
  let counted := s.modChan ch (fun c => { c with stale := min 65535 (c.stale + 1) })
  if epochMet g.epoch (s.chan ch).restartEpoch (s.chan ch).epoch then counted.sendCredit ch g.blocks
  else counted

/-- The judgment of an arrived segment (R39). -/
def State.arrive (s : State) (ch : ChannelId) (g : Segment) : State :=
  if g.epoch ≠ (s.chan ch).epoch then s.arriveStale ch g
  else if (s.chan ch).granted < g.blocks then
    s.raise .ingestOverrun (some ch) (.ingestOverrun g.blocks (s.chan ch).granted)
  else
    s.modChan ch (fun c => { c with queue := c.queue ++ [g], granted := c.granted - g.blocks })

/-- The receiver replaced. -/
def State.setPath (s : State) (p : ForwardPath) : State := { s with path := p }

/-- The bytes of a whole segment are held: it arrives, and the receiver enters HEADER (R38). -/
def State.arriveHeld (s : State) (bytes : List Byte) : State :=
  (s.setPath { rx := .header, held := [] }).arrive (headerChannel bytes) (segmentOf bytes)

/-- One byte of the forward path (R38, R40). -/
def State.takePathByte (s : State) (b : Byte) : State :=
  let bytes := s.path.held ++ [b]
  match s.path.rx with
  | .hunt => s.setPath (huntScan bytes)
  | .header =>
    if bytes.length < 32 then s.setPath { rx := .header, held := bytes }
    else
      match judgeHeader bytes with
      | some reason =>
        (s.setPath (huntScan (bytes.drop 1))).raise .ingestFault none (.ingestFault reason)
      | none =>
        if headerPayloadLength bytes = 0 then s.arriveHeld bytes
        else s.setPath { rx := .payload, held := bytes }
  | .payload =>
    if bytes.length < 32 + headerPayloadLength bytes then s.setPath { rx := .payload, held := bytes }
    else s.arriveHeld bytes

/-- Bytes of the forward path, in order. -/
def State.takePathBytes (s : State) (bytes : List Byte) : State := bytes.foldl State.takePathByte s

/-! ### Queues, credit and epochs (R44 to R46) -/

/-- The segment in work is abandoned when it is of a channel (R45, R46, R52). -/
def State.abandonWork (s : State) (ch : ChannelId) : State :=
  match s.work with
  | some w => if w.channel = ch then { s with work := none } else s
  | none => s

/-- The finish with a channel's head segment (R44). -/
def State.finishHead (s : State) (ch : ChannelId) : State :=
  match (s.chan ch).queue with
  | [] => s
  | g :: rest =>
    (s.modChan ch (fun c => { c with queue := rest, granted := c.granted + g.blocks })).sendCredit ch
      g.blocks

/-- JUMP or STOP raises the epoch (R45): the queue is emptied and its blocks return in one CREDIT. -/
def State.raiseEpoch (s : State) (ch : ChannelId) : State :=
  let sum := blocksHeld (s.chan ch).queue
  let emptied := (s.abandonWork ch).modChan ch (fun c =>
    { c with epoch := c.epoch + 1, queue := [], granted := c.granted + sum })
  if 0 < sum then emptied.sendCredit ch sum else emptied

/-- CUE raises the epoch and restarts the channel's credit (R46, steps 1 to 4). -/
def State.restartIngest (s : State) (ch : ChannelId) : State :=
  let restarted := (s.abandonWork ch).modChan ch (fun c =>
    { c with epoch := c.epoch + 1, restartEpoch := c.epoch + 1, queue := [],
             granted := Config.allotment, stale := 0 })
  restarted.sendReturn (.restart ch (restarted.chan ch).epoch Config.allotment)

/-- FETCH for an admission record (R47): the composition id is that of the record in the admission
record's composition slot. -/
def State.sendFetch (s : State) (ch : ChannelId) (item slot entryReel : Nat) : State :=
  s.sendReturn (.fetch ch (s.chan ch).epoch item (((s.composition slot).map (·.id)).getD 0) entryReel)

/-- RETURN_MESSAGE_SEND: the port takes the first waiting message and forms it, CRC included (R49, R199).
(DESIGN CHOICE, safe: notes/assumptions/7.md). -/
def State.sendNextReturn (s : State) : State :=
  match s.returns with
  | [] => s
  | m :: rest => { s with returns := rest, returnOut := some m.bytes }

end Sys2Proof.Machine
end

