-- ==== Sys2Proof/Machine/Licences.lean ====
section
/-! DEFINITION. Licences, keys and booth time (file 05): covers, window evaluation, the four
operations of the showing counter, key erasure, and the requests on licences and on the clock. -/

namespace Sys2Proof.Machine

/-- Whether a licence covers a title number (R70). -/
def covers (matchValue matchMask title : Word) : Bool :=
  (title ^^^ matchValue) &&& ~~~matchMask = 0

/-- Whether a time lies in a licence's window [start, end) (R69). -/
def Licence.inWindow (l : Licence) (now : Nat) : Bool := l.windowStart ≤ now && now < l.windowEnd

/-! ### Window evaluation (R73) -/

/-- A licence after the evaluation of its window at a booth time. -/
def Licence.evaluated (l : Licence) (now : Nat) : Licence :=
  match l.state with
  | .loaded =>
    if l.windowEnd ≤ now then { l with state := .closed }
    else if l.windowStart ≤ now then { l with state := .opened }
    else l
  | .opened =>
    if l.windowEnd ≤ now then
      if l.pins = 0 then { l with state := .closed } else { l with state := .closing }
    else l
  | _ => l

/-- Whether the evaluation of a licence raises LICENCE-CLOSING. -/
def Licence.raisesClosing (l : Licence) (now : Nat) : Bool :=
  l.state = .opened && l.windowEnd ≤ now && l.pins ≠ 0

/-- The licences whose evaluation raises LICENCE-CLOSING, in index order. -/
def closingLicences (licences : List (Option Licence)) (now : Nat) : List (Nat × Id64) :=
  (licences.mapIdx (fun i o =>
    o.bind (fun l => if l.raisesClosing now then some (i, l.id) else none))).filterMap (fun x => x)

/-- Window evaluation of every licence (R73). With the clock UNSET nothing changes. -/
def State.evaluateWindows (s : State) : State :=
  if s.clock.set then
    (closingLicences s.licences s.clock.time).foldl
      (fun st x => st.raise .licenceClosing none (.licenceClosing x.1 x.2))
      { s with licences := s.licences.map (fun o => o.map (fun l => l.evaluated s.clock.time)) }
  else s

/-! ### The showing counter's operations (R74, R75) -/

/-- Reserve and pin. -/
def Licence.reserveAndPin (l : Licence) : Licence :=
  { l with reserved := l.reserved + 1, pins := l.pins + 1 }

/-- Charge: an uncharged chargeable showing holds a reservation (R100), which becomes the charge. (DESIGN
CHOICE, safe: notes/assumptions/39.md). -/
def Licence.charge (l : Licence) : Licence :=
  if l.reserved = 0 then l else { l with reserved := l.reserved - 1, charged := l.charged + 1 }

/-- Release. -/
def Licence.release (l : Licence) : Licence := { l with reserved := l.reserved - 1 }

/-- Erasure of a licence's keys on its entry into REVOKED (R75): its key records become EMPTY, its
key list empty. -/
def State.revokeNow (s : State) (i : Nat) : State :=
  match s.licence i with
  | some l =>
    { s with
      licences := s.licences.set i (some { l with state := .revoked, keys := [] })
      keys := eraseKeySlots s.keys l.keys }
  | none => s

/-- What a licence does when its pin count reaches 0 (R75). -/
def State.lastUnpin (s : State) (i : Nat) : State :=
  match s.licence i with
  | some l =>
    match l.state with
    | .closing => s.modLicence i (fun l => { l with state := .closed })
    | .revoking => s.revokeNow i
    | _ => s
  | none => s

/-- Unpin (R74), with the last unpin of R75. -/
def State.unpin (s : State) (i : Nat) : State :=
  let s' := s.modLicence i (fun l => { l with pins := l.pins - 1 })
  match s'.licence i with
  | some l => if l.pins = 0 then s'.lastUnpin i else s'
  | none => s'

/-! ### LOAD-LICENCE (R76 to R79) -/

/-- The values of R76 that do not concern one key. -/
def licenceValuesOk (l : LicenceLoad) : Bool :=
  l.id ≠ 0 && l.windowStart.toNat < l.windowEnd.toNat && l.cap ≠ 0 &&
  1 ≤ l.percent.toNat && l.percent.toNat ≤ 100

/-- A key of R76 with a good id and kind. -/
def keyValuesOk (k : KeyEntry) : Bool := k.id ≠ 0 && (keyKindOf k.kind).isSome

/-- Whether a licence id is in the table (R77, check 2). -/
def State.holdsLicence (s : State) (id : Id64) : Bool :=
  s.licences.any (fun o => o.any (fun l => l.id = id))

/-- The first key of a request whose id is in the key table or repeats an earlier key of the request
(R77, check 2): the later of the two is named. Which key is named when several are used, and that a used
licence id is judged before the keys, the rule leaves open. (DESIGN CHOICE, unsafe:
notes/assumptions/41.md). -/
def firstUsedKey (s : State) : Nat → List Id64 → List KeyEntry → Option Nat
  | _, _, [] => none
  | n, earlier, k :: rest =>
    if (s.findKey k.id).isSome || earlier.contains k.id then some n
    else firstUsedKey s (n + 1) (k.id :: earlier) rest

/-- The number of EMPTY slots of a table. -/
def emptySlots {α : Type} (table : List (Option α)) : Nat := table.countP (·.isNone)

/-- A refused LOAD-LICENCE: licence index 255, and the position of the key that caused it, or 255
(R77). The OK reply's state field is 0 (R183). -/
def licenceRefusal (st : Status) (position : Option Nat) : List Byte :=
  refusal st [255, 0, optionalIndex position]

/-- LOAD-LICENCE, checks 1 to 4, and the begin of its unwrap (R76, R77, R78). Of several failing values the
licence's own are named first (position 255), then the lowest failing key. (DESIGN CHOICE, unsafe:
notes/assumptions/41.md). -/
def doLoadLicence (l : LicenceLoad) (s : State) : State × Answer :=
  if l.keys.length < 1 ∨ 16 < l.keys.length then (s, .reply (licenceRefusal .badValue none))
  else if !licenceValuesOk l then (s, .reply (licenceRefusal .badValue none))
  else
    match l.keys.findIdx? (fun k => !keyValuesOk k) with
    | some n => (s, .reply (licenceRefusal .badValue (some n)))
    | none =>
      if s.holdsLicence l.id then (s, .reply (licenceRefusal .inUse none))
      else
        match firstUsedKey s 0 [] l.keys with
        | some n => (s, .reply (licenceRefusal .inUse (some n)))
        | none =>
          if (lowestEmpty s.licences).isNone || emptySlots s.keys < l.keys.length then
            (s, .reply (licenceRefusal .tableFull none))
          else if s.clock.set && l.windowEnd.toNat ≤ s.clock.time then
            (s, .reply (licenceRefusal .windowClosed none))
          else (s, .unwrap l)

/-- A material sealed under the part's device key by its issuer (R76, R78). -/
def sealKey (m : Material) : WrappedKey := Config.keySealing (m.setWidth 256)

/-- Whether 32 bytes are a key sealed under the device key (R78). -/
def isSealed (w : WrappedKey) : Bool := (Config.keySealing.symm w).toNat < 2 ^ 128

/-- The unwrap of one key (R78): a key sealed under the device key gives its material. Of any other 32 bytes
the manual does not state whether the check passes: `passes` says so, and what they give is a free value.
(DESIGN CHOICE, safe: notes/assumptions/4.md). -/
def unwrapKey (w : WrappedKey) (passes : Bool) : Option Material :=
  if isSealed w then some ((Config.keySealing.symm w).setWidth 128)
  else if passes then some (Config.unsealedMaterial w)
  else none

/-- What the unwraps of a load's keys give, in request order (R78). -/
def unwrappedMaterials (l : LicenceLoad) (passes : List Bool) : List (Option Material) :=
  l.keys.mapIdx (fun n k => unwrapKey k.wrapped (passes.getD n false))

/-- The first key, in request order, whose unwrap fails: `results` holds each key's material, or none
for a failed integrity check; a key without a result failed (R78). -/
def firstFailedUnwrap (keys : Nat) (results : List (Option Material)) : Option Nat :=
  (List.range keys).find? (fun i => (results[i]?).join.isNone)

/-- The keys of a load stored in the lowest-numbered EMPTY key slots, in request order (R79): the
table and the key list. -/
def storeKeys (owner : Nat) :
    List (KeyEntry × Material) → List (Option KeyRecord) → List (Option KeyRecord) × List Nat
  | [], table => (table, [])
  | (k, m) :: rest, table =>
    match lowestEmpty table with
    | none => (table, [])
    | some i =>
      let record : KeyRecord :=
        { id := k.id, kind := (keyKindOf k.kind).getD .picture, owner := owner, material := m }
      let stored := storeKeys owner rest (table.set i (some record))
      (stored.1, i :: stored.2)

/-- The keys of a load with their unwrapped material. -/
def unwrappedKeys (l : LicenceLoad) (results : List (Option Material)) : List (KeyEntry × Material) :=
  l.keys.zip (results.map (fun r => r.getD 0))

/-- The state a licence enters the table in (R79). -/
def entryState (clock : BoothClock) (windowStart : Nat) : LicenceState :=
  if clock.set && windowStart ≤ clock.time then .opened else .loaded

/-- The completion of a LOAD-LICENCE (R78, R79): what it stores, and the reply body. -/
def completeLicence (l : LicenceLoad) (results : List (Option Material)) (s : State) :
    State × List Byte :=
  match firstFailedUnwrap l.keys.length results with
  | some n => (s, licenceRefusal .wrapFault (some n))
  | none =>
    if s.clock.set && l.windowEnd.toNat ≤ s.clock.time then (s, licenceRefusal .windowClosed none)
    else
      match lowestEmpty s.licences with
      | none => (s, licenceRefusal .tableFull none)
      | some i =>
        let stored := storeKeys i (unwrappedKeys l results) s.keys
        let state := entryState s.clock l.windowStart.toNat
        let record : Licence :=
          { id := l.id, matchValue := l.matchValue, matchMask := l.matchMask,
            windowStart := l.windowStart.toNat, windowEnd := l.windowEnd.toNat, cap := l.cap.toNat,
            percent := l.percent.toNat, charged := 0, reserved := 0, pins := 0, state := state,
            keys := stored.2 }
        ({ s with licences := s.licences.set i (some record), keys := stored.1 },
          Status.ok.code :: [byteOf i, state.code])

/-! ### REVOKE, DELETE, READ (R80 to R83) -/

/-- The licence named by an index, or the status that refuses it. -/
def namedLicence (s : State) (index : Byte) : Except Status Licence :=
  if 64 ≤ index.toNat then .error .badValue
  else
    match s.licence index.toNat with
    | none => .error .notFound
    | some l => .ok l

/-- REVOKE-LICENCE (R80). -/
def doRevokeLicence (index : Byte) (s : State) : State × Answer :=
  match namedLicence s index with
  | .error st => (s, refuse st 2)
  | .ok l =>
    let i := index.toNat
    let revoking := s.modLicence i (fun l => { l with state := .revoking })
    match l.state with
    | .loaded | .closed => (s.revokeNow i, okReply [LicenceState.revoked.code, byteOf l.pins])
    | .opened =>
      if l.pins = 0 then (s.revokeNow i, okReply [LicenceState.revoked.code, 0])
      else (revoking, okReply [LicenceState.revoking.code, byteOf l.pins])
    | .closing => (revoking, okReply [LicenceState.revoking.code, byteOf l.pins])
    | .revoking | .revoked => (s, okReply [l.state.code, byteOf l.pins])

/-- DELETE-LICENCE (R82). -/
def doDeleteLicence (index : Byte) (s : State) : State × Answer :=
  match namedLicence s index with
  | .error st => (s, refuse st 0)
  | .ok l =>
    match l.state with
    | .opened => (s, refuse .wrongState 0)
    | .closing | .revoking => (s, refuse .inUse 0)
    | .loaded | .closed | .revoked =>
      ({ s with licences := s.licences.set index.toNat none, keys := eraseKeySlots s.keys l.keys },
        okReply [])

/-- One key of READ-LICENCE's reply: key index, key id, kind (R83). -/
def keyReport (s : State) (i : Nat) : List Byte :=
  match s.key i with
  | some k => byteOf i :: leBytes 8 k.id.toNat ++ [k.kind.code]
  | none => byteOf i :: List.replicate 9 0

/-- The record of READ-LICENCE's reply (R83). -/
def licenceReport (s : State) (l : Licence) : List Byte :=
  [l.state.code] ++ leBytes 8 l.id.toNat ++ leBytes 4 l.matchValue.toNat ++
    leBytes 4 l.matchMask.toNat ++ leBytes 4 l.windowStart ++ leBytes 4 l.windowEnd ++
    leBytes 2 l.cap ++ [byteOf l.percent] ++ leBytes 2 l.charged ++
    [byteOf l.reserved, byteOf l.pins, byteOf l.keys.length] ++
    (l.keys.map (keyReport s)).flatten

/-- READ-LICENCE (R83). -/
def doReadLicence (index : Byte) (s : State) : State × Answer :=
  if 64 ≤ index.toNat then (s, refuse .badValue 33)
  else
    match s.licence index.toNat with
    | none => (s, okReply (List.replicate 33 0))
    | some l => (s, okReply (licenceReport s l))

/-! ### COUNTER-OP (R84, R85) -/

/-- The cap after an operation (R84, R85): 0 READ, 1 RAISE-CAP, 2 LOWER-CAP (R195). -/
def capAfter (l : Licence) (op : Byte) (value : Nat) : Nat :=
  if op = 1 then (if l.cap < value then value else l.cap)
  else if op = 2 then
    let target := max (max value (l.charged + l.reserved)) 1
    if target < l.cap then target else l.cap
  else l.cap

/-- COUNTER-OP (R84, R85). -/
def doCounterOp (index op : Byte) (value : Half) (s : State) : State × Answer :=
  if 64 ≤ index.toNat ∨ 2 < op.toNat then (s, refuse .badValue 8)
  else
    match s.licence index.toNat with
    | none => (s, refuse .notFound 8)
    | some l =>
      match l.state with
      | .loaded | .opened | .closing =>
        let cap := capAfter l op value.toNat
        (s.modLicence index.toNat (fun l => { l with cap := cap }),
          okReply (leBytes 2 l.cap ++ leBytes 2 cap ++ leBytes 2 l.charged ++
            [byteOf l.reserved, flagByte (l.cap ≠ cap)]))
      | .revoking | .closed | .revoked => (s, refuse .wrongState 8)

/-! ### The booth clock (R86 to R89) -/

/-- A tick event of the booth clock (R86): the time rises by 1, and the windows are evaluated while
main power is on. There is none in UNSET or at the top of booth time; once ADJUST-TIME has moved the time
below the top, ticks occur again. (DESIGN CHOICE, unsafe: notes/assumptions/42.md). -/
def State.clockTick (s : State) : State :=
  if s.clock.set && s.clock.time < Config.top32 then
    let s' := { s with clock := { s.clock with time := s.clock.time + 1, phase := 0 } }
    if s.powered then s'.evaluateWindows else s'
  else s

/-- SET-TIME (R87, R90). -/
def doSetTime (t : Word) (s : State) : State × Answer :=
  if s.clock.set then (s, refuse .wrongState 4)
  else
    let set := { s with clock := { s.clock with set := true, time := t.toNat, phase := 0 } }
    (set.evaluateWindows.refreshClockUnset, okReply (leBytes 4 t.toNat))

/-- Whether an ADJUST-TIME begins a new period of the account (R88, step 1). -/
def BoothClock.startsPeriod (c : BoothClock) : Bool :=
  match c.periodStart with
  | none => true
  | some p => p + Config.adjustPeriod ≤ c.time

/-- The reply to ADJUST-LIMIT: the new booth time's field is 0, then the amount used and the period
start (R88, R183). -/
def adjustLimitReply (c : BoothClock) : List Byte :=
  refusal .adjustLimit (leBytes 4 0 ++ leBytes 2 c.used ++ optionalField 4 c.periodStart)

/-- The clock after an accepted ADJUST-TIME (R88): the account's period start and amount used before
the adjustment, and the amount. -/
def BoothClock.adjusted (c : BoothClock) (start used : Nat) (d : Int) : BoothClock :=
  { c with
    time := ((c.time : Int) + d).toNat
    periodStart := some start
    used := used + d.natAbs }

/-- ADJUST-TIME (R88). -/
def doAdjustTime (amount : Half) (s : State) : State × Answer :=
  let d := amount.toInt
  if 300 < d.natAbs then (s, refuse .badValue 6)
  else if !s.clock.set then (s, refuse .clockUnset 6)
  else
    let fresh := s.clock.startsPeriod
    let used := if fresh then 0 else s.clock.used
    let start := if fresh then s.clock.time else s.clock.periodStart.getD s.clock.time
    if 300 < used + d.natAbs then (s, .reply (adjustLimitReply s.clock))
    else if (s.clock.time : Int) + d < 0 ∨ (Config.top32 : Int) < (s.clock.time : Int) + d then
      (s, refuse .badValue 6)
    else
      let clock := s.clock.adjusted start used d
      ({ s with clock := clock }.evaluateWindows,
        okReply (leBytes 4 clock.time ++ leBytes 2 clock.used))

/-- READ-TIME (R89): booth time, clock state, period start, amount used. -/
def doReadTime (s : State) : State × Answer :=
  (s, okReply (leBytes 4 s.clock.time ++ [flagByte s.clock.set] ++
    optionalField 4 s.clock.periodStart ++ leBytes 2 s.clock.used))

end Sys2Proof.Machine
end

