-- ==== Sys2Proof/Machine/Admission.lean ====
section
/-! DEFINITION. The showing counter and the showing log (file 06): admission, the counting of
presentations, the end of a showing, the next-item occasion, READ-LOG and RELEASE-LOG. -/

namespace Sys2Proof.Machine

/-! ### What an admission asks (R95, R96) -/

/-- The non-zero key ids of a composition from an entry reel to the last reel (R12, R95). -/
def keyIdsFrom (c : Composition) (entryReel : Nat) : List Id64 :=
  ((c.reels.drop entryReel).map (fun r => [r.pictureKey, r.soundKey, r.subtitleKey])).flatten.filter
    (fun k => k ≠ 0)

/-- Whether an admission is of a keyed item (R12, R95). -/
def isKeyed (c : Composition) (entryReel : Nat) : Bool := !(keyIdsFrom c entryReel).isEmpty

/-- Whether an admission needs a log record (R95). -/
def needsLog (c : Composition) (entryReel : Nat) : Bool := isKeyed c entryReel || c.logged = 1

/-- Check 1 fails: no free log record, or no sequence number left (R96, R106). -/
def State.logFull (s : State) : Bool := s.freeLog = 0 || Config.top32 < s.nextSeq

/-- The owning licences that the key ids resolve to (R11, links 4 and 5). -/
def owners (s : State) (ids : List Id64) : List Nat :=
  ids.filterMap (fun k => (s.findKey k).map (·.owner))

/-- Checks 5 and 6 on the licence of a keyed item (R96). -/
def licenceCheck (s : State) (l : Licence) : Option Status :=
  if l.state ≠ .opened || !l.inWindow s.clock.time then some .windowClosed
  else if l.cap ≤ l.charged + l.reserved then some .allowanceSpent
  else none

/-- Checks 2 to 6 for a keyed item (R96): its licence, or the refusal. -/
def keyedCheck (s : State) (c : Composition) (entryReel : Nat) : Except Status (Option Nat) :=
  let ids := keyIdsFrom c entryReel
  if !s.clock.set then .error .clockUnset
  else if ids.any (fun k => (s.findKey k).isNone) then .error .keyMissing
  else
    match owners s ids with
    | [] => .error .keyMissing
    | i :: others =>
      match s.licence i with
      | none => .error .licenceMismatch
      | some l =>
        if others.any (fun o => o ≠ i) || !covers l.matchValue l.matchMask c.title then
          .error .licenceMismatch
        else
          match licenceCheck s l with
          | some st => .error st
          | none => .ok (some i)

/-- The judgment of an admission (R96): the licence it names, if any, or the refusal. -/
def judgeAdmission (s : State) (c : Composition) (entryReel : Nat) : Except Status (Option Nat) :=
  if needsLog c entryReel && s.logFull then .error .logFull
  else if isKeyed c entryReel then keyedCheck s c entryReel
  else .ok none

/-! ### Admitting (R98) -/

/-- The count percent of an admission: that of its licence, or 50 (R32). -/
def admissionPercent (s : State) (licence : Option Nat) : Nat :=
  ((licence.bind s.licence).map (·.percent)).getD 50

/-- The log record that an admission takes (R98, R106). -/
def freshLogRecord (s : State) (ch : ChannelId) (c : Composition) (entryReel : Nat)
    (licence : Option Nat) : LogRecord :=
  { seq := s.nextSeq, channel := ch, compositionId := c.id, title := c.title,
    licenceId := (licence.bind s.licence).map (·.id), entryReel := entryReel, admitted := s.clock.time,
    firstFrame := none, counted := none, ended := none, presented := 0, held := 0, damaged := 0,
    outcome := none, closed := false }

/-- A log record taken from the free pool and appended (R98, R107). -/
def State.takeLog (s : State) (r : LogRecord) : State :=
  { s with log := s.log ++ [r], nextSeq := s.nextSeq + 1 }.refreshLogLow

/-- The admission record of an admission (R93, R98). -/
def freshRecord (s : State) (ch : ChannelId) (c : Composition) (item slot entryReel : Nat)
    (licence : Option Nat) : AdmissionRecord :=
  let logged := needsLog c entryReel
  { ident := (s.chan ch).nextIdent, item := item, slot := slot, entryReel := entryReel,
    licence := licence, logSeq := if logged then some s.nextSeq else none,
    countPoint :=
      if logged then some (countPointOf (c.framesFrom entryReel) (admissionPercent s licence)) else none,
    charged := false, chargeable := true, presented := 0, held := 0, damaged := 0 }

/-- The effects of R98 but for the FETCH: reserve and pin, the log record, the admission record. -/
def State.openAdmission (s : State) (ch : ChannelId) (c : Composition) (item slot entryReel : Nat)
    (licence : Option Nat) : State :=
  let record := freshRecord s ch c item slot entryReel licence
  let logged :=
    if needsLog c entryReel then s.takeLog (freshLogRecord s ch c entryReel licence) else s
  let reserved :=
    match licence with
    | some i => logged.modLicence i Licence.reserveAndPin
    | none => logged
  reserved.modChan ch (fun k =>
    { k with records := k.records ++ [record], nextIdent := k.nextIdent + 1 })

/-- FETCH is sent for a record from a reel, and the assembly state is set afresh (R47, R67). The report
that no item follows is of the fetch before it (notes/assumptions/8.md). -/
def State.beginFetch (s : State) (ch : ChannelId) (r : AdmissionRecord) (reel : Nat) : State :=
  (s.sendFetch ch r.item r.slot reel).modChan ch (fun c =>
    { c with
      assembly := { c.assembly with fetching := some r.ident, cursor := .start reel, complete := false }
      noNext := false })

/-- FETCH for the channel's newest record. -/
def State.fetchNewest (s : State) (ch : ChannelId) (reel : Nat) : State :=
  match (s.chan ch).records.getLast? with
  | some r => s.beginFetch ch r reel
  | none => s

/-- An admission with its FETCH (R98). -/
def State.admitAndFetch (s : State) (ch : ChannelId) (c : Composition) (item slot entryReel : Nat)
    (licence : Option Nat) : State :=
  (s.openAdmission ch c item slot entryReel licence).fetchNewest ch entryReel

/-! ### Records and their log records -/

/-- The admission record of a name. -/
def Channel.record (c : Channel) (ident : Nat) : Option AdmissionRecord :=
  c.records.find? (fun r => r.ident = ident)

/-- The presenting record: the oldest (R93). -/
def Channel.presenting (c : Channel) : Option AdmissionRecord := c.records.head?

/-- The fetching record (R51). -/
def Channel.fetchingRecord (c : Channel) : Option AdmissionRecord :=
  c.assembly.fetching.bind c.record

/-- One log record changed. -/
def State.modLog (s : State) (seq : Option Nat) (f : LogRecord → LogRecord) : State :=
  match seq with
  | some n => { s with log := s.log.map (fun r => if r.seq = n then f r else r) }
  | none => s

/-- One admission record changed. -/
def State.modRecord (s : State) (ch : ChannelId) (ident : Nat) (f : AdmissionRecord → AdmissionRecord) :
    State :=
  s.modChan ch (fun c =>
    { c with records := c.records.map (fun r => if r.ident = ident then f r else r) })

/-- Whether a record holds a reservation (R100). -/
def AdmissionRecord.holdsReservation (r : AdmissionRecord) : Bool :=
  r.licence.isSome && r.chargeable && !r.charged

/-- A record's reservation, if it holds one, released (R74, R100). -/
def State.releaseReservation (s : State) (r : AdmissionRecord) : State :=
  match r.licence with
  | some i => if r.holdsReservation then s.modLicence i Licence.release else s
  | none => s

/-- The assembly state of a channel without a fetching record (R67); the counts are kept. -/
def Assembly.idle (a : Assembly) : Assembly :=
  { a with fetching := none, cursor := .start 0, complete := false }

/-- A record leaves its channel's list; the picture memory and the assembly state lose it (R67, R103,
R122). -/
def Channel.removeRecord (c : Channel) (ident : Nat) : Channel :=
  { c with
    records := c.records.filter (fun r => r.ident ≠ ident)
    lastGood := if c.lastGood = some ident then none else c.lastGood
    assembly := if c.assembly.fetching = some ident then c.assembly.idle else c.assembly }

/-- Steps 2 to 4 of R103 and R105: the reservation is released, the licence unpinned, the record
removed. -/
def State.dropRecord (s : State) (ch : ChannelId) (r : AdmissionRecord) : State :=
  let released := s.releaseReservation r
  let unpinned :=
    match r.licence with
    | some i => released.unpin i
    | none => released
  unpinned.modChan ch (fun c => c.removeRecord r.ident)

/-- A record closed with an outcome (R103). -/
def State.closeRecord (s : State) (ch : ChannelId) (r : AdmissionRecord) (outcome : LogOutcome) : State :=
  (s.modLog r.logSeq (fun g =>
    { g with ended := some s.clock.time, outcome := some outcome, closed := true })).dropRecord ch r

/-- A record discarded (R105). -/
def State.discardRecord (s : State) (ch : ChannelId) (r : AdmissionRecord) : State :=
  match r.logSeq with
  | some n => { s with log := s.log.filter (fun g => g.seq ≠ n) }.refreshLogLow.dropRecord ch r
  | none => s.dropRecord ch r

/-- A record ended by STOP: closed when it has presented a frame, else discarded (R103, R105). -/
def State.endRecord (s : State) (ch : ChannelId) (outcome : LogOutcome) (r : AdmissionRecord) : State :=
  if r.presented = 0 then s.discardRecord ch r else s.closeRecord ch r outcome

/-! ### The next-item occasion (R94, R99) -/

/-- The showing counter's report that no item follows, as the playout controller holds it. -/
def State.reportNoNext (s : State) (ch : ChannelId) : State :=
  s.modChan ch (fun c => { c with noNext := true })

/-- A refused next-item admission (R99). -/
def State.refuseNext (s : State) (ch : ChannelId) (item : Nat) (st : Status) : State :=
  (s.modChan ch (fun c => { c with refusal := true, noNext := true })).raise .admissionRefused (some ch)
    (.admissionRefused item st)

/-- The attempt to admit the item after a record's item (R94). -/
def State.admitNext (s : State) (ch : ChannelId) (r : AdmissionRecord) : State :=
  let next := r.item + 1
  if (s.chan ch).refusal then s.reportNoNext ch
  else
    match (s.chan ch).item next with
    | none => s.reportNoNext ch
    | some i =>
      match s.composition i.slot.toNat with
      | none => s.reportNoNext ch
      | some c =>
        match judgeAdmission s c i.entryReel.toNat with
        | .error st => s.refuseNext ch next st
        | .ok licence => s.admitAndFetch ch c next i.slot.toNat i.entryReel.toNat licence

/-- A next-item occasion: acts when the channel holds one record and that record's fetch is complete
(R94). -/
def State.nextItemOccasion (s : State) (ch : ChannelId) : State :=
  match (s.chan ch).records with
  | [r] =>
    if (s.chan ch).assembly.complete && (s.chan ch).assembly.fetching = some r.ident then
      s.admitNext ch r
    else s
  | _ => s

/-! ### Counting (R101, R102) -/

/-- A count of R93 raised by 1; it stops at 4 294 967 295. -/
def bump32 (n : Nat) : Nat := min Config.top32 (n + 1)

/-- A record and its log record get the same three counts (R101). -/
def State.writeCounts (s : State) (ch : ChannelId) (r : AdmissionRecord) (presented held damaged : Nat) :
    State :=
  (s.modRecord ch r.ident (fun x =>
    { x with presented := presented, held := held, damaged := damaged })).modLog r.logSeq (fun g =>
    { g with presented := presented, held := held, damaged := damaged })

/-- The count point is reached by a chargeable record (R102). -/
def State.reachCountPoint (s : State) (ch : ChannelId) (r : AdmissionRecord) : State :=
  let charged :=
    match r.licence with
    | some i =>
      if r.charged then s
      else
        (s.modLicence i Licence.charge).modRecord ch r.ident (fun x => { x with charged := true })
    | none => s
  (charged.modLog r.logSeq (fun g => { g with counted := some s.clock.time })).raise .showCounted
    (some ch) (.showCounted r.item (r.logSeq.getD 0) r.licence)

/-- A presentation counted to its record (R101, R102). -/
def State.countPresentation (s : State) (ch : ChannelId) (ident : Nat) (isDamaged : Bool) : State :=
  match (s.chan ch).record ident with
  | none => s
  | some r =>
    let counted := s.writeCounts ch r (bump32 r.presented) r.held
      (if isDamaged then bump32 r.damaged else r.damaged)
    let timed :=
      if r.presented = 0 then
        counted.modLog r.logSeq (fun g => { g with firstFrame := some s.clock.time })
      else counted
    if r.countPoint = some (r.presented + 1) && r.chargeable then timed.reachCountPoint ch r else timed

/-- A held deadline counted to the record of the frame last presented, if it is still open (R101). -/
def State.countHeld (s : State) (ch : ChannelId) : State :=
  match (s.chan ch).lastRecord.bind (s.chan ch).record with
  | none => s
  | some r => s.writeCounts ch r r.presented (bump32 r.held) r.damaged

/-- The outcome of a chargeable record that reaches its item's last frame (R103): COMPLETED when its
log record has a counted time. A record without a log record writes none. -/
def State.lastFrameOutcome (s : State) (r : AdmissionRecord) : LogOutcome :=
  if s.log.any (fun g => some g.seq = r.logSeq && g.counted.isSome) then .completed else .jumpedAway

/-! ### READ-LOG and RELEASE-LOG (R108, R109, R200) -/

/-- The presence bits of a log record (R200). -/
def presenceByte (r : LogRecord) : Byte :=
  flagByte r.licenceId.isSome + 2 * flagByte r.firstFrame.isSome + 4 * flagByte r.counted.isSome +
    8 * flagByte r.ended.isSome

/-- A log record's 60 bytes (R200). -/
def logBytes (r : LogRecord) : List Byte :=
  leBytes 4 r.seq ++ [r.channel.number, flagByte r.closed, outcomeCode r.outcome, presenceByte r] ++
    leBytes 8 r.compositionId.toNat ++ leBytes 4 r.title.toNat ++
    leBytes 8 ((r.licenceId.map (·.toNat)).getD 0) ++ [byteOf r.entryReel, 0, 0, 0] ++
    leBytes 4 r.admitted ++ leBytes 4 (r.firstFrame.getD 0) ++ leBytes 4 (r.counted.getD 0) ++
    leBytes 4 (r.ended.getD 0) ++ leBytes 4 r.presented ++ leBytes 4 r.held ++ leBytes 4 r.damaged

/-- READ-LOG (R108, R200). -/
def doReadLog (count : Byte) (s : State) : State × Answer :=
  let out := s.log.take (max 1 (min 8 count.toNat))
  (s, okReply ([byteOf out.length, byteOf s.freeLog] ++ (out.map logBytes).flatten))

/-- RELEASE-LOG (R109). -/
def doReleaseLog (count : Byte) (oldest : Word) (s : State) : State × Answer :=
  let n := count.toNat
  if n < 1 ∨ 128 < n ∨ s.log.length < n then (s, refuse .badValue 5)
  else if (s.log.head?.map (·.seq)) ≠ some oldest.toNat then (s, refuse .notFound 5)
  else if (s.log.take n).any (fun r => !r.closed) then (s, refuse .inUse 5)
  else
    let s' := { s with log := s.log.drop n }.refreshLogLow
    (s', okReply (byteOf s'.freeLog :: leBytes 4 ((s'.log.head?.map (·.seq)).getD 0)))

end Sys2Proof.Machine
end

