-- ==== Sys2Proof/Machine/Reel.lean ====
section
/-! DEFINITION. The reel buffer of a channel: its ring of 96 frame slots (R111, R112, R113). -/

namespace Sys2Proof.Machine

/-- The number of frame slots of a ring (R112). -/
def ringSize : Nat := 96

/-- A slot number some places further in ring order (R112). -/
def ringAdd (i n : Nat) : Nat := (i + n) % ringSize

/-- How far a slot number lies after another in ring order. -/
def ringDistance (start i : Nat) : Nat := (i + ringSize - start) % ringSize

/-- Whether a slot is FREE. -/
def Slot.isFree : Slot → Bool
  | .free => true
  | _ => false

/-- Whether a slot is FILLING. -/
def Slot.isFilling : Slot → Bool
  | .filling _ => true
  | _ => false

/-- Whether a slot is READY. -/
def Slot.isReady : Slot → Bool
  | .ready _ => true
  | _ => false

/-- Whether a slot is PRESENTING. -/
def Slot.isPresenting : Slot → Bool
  | .presenting _ => true
  | _ => false

/-- The frame of a slot that is not FREE. -/
def Slot.frame : Slot → Option Frame
  | .free => none
  | .filling f | .ready f | .presenting f => some f

/-- The READY count (R111). -/
def Channel.readyCount (c : Channel) : Nat := c.slots.countP Slot.isReady

/-- The FILLING count (R130). -/
def Channel.fillingCount (c : Channel) : Nat := c.slots.countP Slot.isFilling

/-- The number of FREE slots (R53). -/
def Channel.freeCount (c : Channel) : Nat := c.slots.countP Slot.isFree

/-- The slot of a number. -/
def Channel.slotAt (c : Channel) (i : Nat) : Slot := c.slots.getD i .free

/-- The frame of the slot at the present pointer, when that slot is READY. -/
def Channel.nextReady (c : Channel) : Option Frame :=
  match c.slotAt c.present with
  | .ready f => some f
  | _ => none

/-- The frame of the FILLING slot: the unit in assembly (R51, R63). -/
def Channel.fillingFrame (c : Channel) : Option Frame :=
  (c.slots.find? Slot.isFilling).bind Slot.frame

/-- A frame takes the slot at the take pointer, as FILLING (R63, R112). -/
def Channel.takeSlot (c : Channel) (f : Frame) : Channel :=
  { c with slots := c.slots.set c.take (.filling f), take := ringAdd c.take 1 }

/-- A frame whose parts are all closed (R63). -/
def Frame.complete (f : Frame) : Bool := f.picture.closed && f.sound.all (·.closed)

/-- A frame with any damage mark (R101). -/
def Frame.damaged (f : Frame) : Bool := f.picture.damage.isSome || f.sound.any (·.damage.isSome)

/-- A slot that is FILLING with a complete frame becomes READY (R63). -/
def Slot.settle : Slot → Slot
  | .filling f => if f.complete then .ready f else .filling f
  | s => s

/-- The FILLING slot's frame changed; it becomes READY when its last open part is closed (R63). -/
def Channel.modFilling (c : Channel) (f : Frame → Frame) : Channel :=
  { c with slots := c.slots.map (fun s =>
      match s with
      | .filling x => Slot.settle (.filling (f x))
      | s => s) }

/-- The deadline frees the PRESENTING slot (R113). -/
def Channel.freePresenting (c : Channel) : Channel :=
  { c with slots := c.slots.map (fun s => if s.isPresenting then .free else s) }

/-- The slot at the present pointer becomes PRESENTING and the pointer advances (R113). -/
def Channel.presentSlot (c : Channel) (f : Frame) : Channel :=
  { c with slots := c.slots.set c.present (.presenting f), present := ringAdd c.present 1 }

/-- A full flush (R112): every slot is freed and the present pointer takes the take pointer's place.
(DEDUCED, safe: notes/assumptions/29.md). -/
def Channel.fullFlush (c : Channel) : Channel :=
  { c with slots := c.slots.map (fun _ => .free), present := c.take }

/-- The flush of a jump (R112, R136, step 2): the PRESENTING slot and the `kept` slots from the present
pointer on stay, every other slot is freed, and the take pointer is set after the kept ones. -/
def Channel.flushAfter (c : Channel) (kept : Nat) : Channel :=
  { c with
    slots := c.slots.mapIdx (fun i s =>
      if s.isPresenting || ringDistance c.present i < kept then s else .free)
    take := ringAdd c.present kept }

/-- The READY slots that follow a slot in ring order, one after another, and belong to a record: their
number, up to `limit` (R135). -/
def Channel.readyRun (c : Channel) (ident : Nat) : Nat → Nat → Nat
  | 0, _ => 0
  | limit + 1, i =>
    match c.slotAt i with
    | .ready f => if f.record = ident then 1 + c.readyRun ident limit (ringAdd i 1) else 0
    | _ => 0

end Sys2Proof.Machine
end

