-- ==== Sys2Proof/Machine/Subtitles.lean ====
section
/-! DEFINITION. The subtitle scheduler of a channel (file 10): prologue hand-offs, the deadline, the
channel's states, jumps, CUE, and the three settings requests. -/

namespace Sys2Proof.Machine

/-- What an action makes of a scheduler: its new state, the events handed to the port in order, and the
faults that raise CUE-DROPPED in order (R165). -/
structure SubsResult where
  subs : Subtitles
  events : List PortEvent
  drops : List DropFault
deriving DecidableEq, Repr

/-! ### Contexts and banks (R152, R154) -/

/-- Whether a context is of an item and reel. -/
def Context.isOf (c : Context) (item reel : Nat) : Bool := c.item = item && c.reel = reel

/-- The context without the LEFT mark of an item and reel (R154). -/
def Subtitles.unmarked (s : Subtitles) (item reel : Nat) : Option Context :=
  s.contexts.find? (fun c => !c.left && c.isOf item reel)

/-- The context matched to a frame (R152): without the LEFT mark while the jump mark is clear, with it
while the mark is set. The newest is taken when several match (notes/assumptions/21.md). -/
def Subtitles.matching (s : Subtitles) (item reel : Nat) : Option Context :=
  s.contexts.reverse.find? (fun c => c.left = s.jumpMark && c.isOf item reel)

/-- The matching context of the frame last presented, while it exists (R154, R160). -/
def Subtitles.servedContext (s : Subtitles) : Option Context :=
  s.contexts.find? (fun c => s.served = some c.serial)

/-- Whether a bank is free: no context holds it (R152). -/
def Subtitles.bankFree (s : Subtitles) (bank : Nat) : Bool := s.contexts.all (fun c => c.bank ≠ bank)

/-- The other bank. -/
def otherBank (bank : Nat) : Nat := if bank = 0 then 1 else 0

/-- The content of a bank. -/
def Subtitles.bank (s : Subtitles) (bank : Nat) : List Host.Cell :=
  if bank = 0 then s.bank0 else s.bank1

/-- A bank's content replaced. -/
def Subtitles.setBank (s : Subtitles) (bank : Nat) (m : List Host.Cell) : Subtitles :=
  if bank = 0 then { s with bank0 := m } else { s with bank1 := m }

/-- A context released with its cues; its bank is thereby free (R152). -/
def Subtitles.release (s : Subtitles) (c : Context) : Subtitles :=
  { s with
    contexts := s.contexts.filter (fun x => x.serial ≠ c.serial)
    pendingCues := s.pendingCues.filter (fun q => q.context ≠ c.serial)
    shown := s.shown.filter (fun q => q.cue.context ≠ c.serial) }

/-- A new context on a bank, which is filled with 0 (R154). -/
def Subtitles.create (s : Subtitles) (item reel bank turn : Nat) : Subtitles :=
  let added : Subtitles :=
    { s with
      contexts := s.contexts ++
        [{ serial := s.nextContext, item := item, reel := reel, bank := bank, left := false,
           lastTick := List.replicate 4 none }]
      nextContext := s.nextContext + 1
      turn := turn }
  added.setBank bank []

/-- The fault of dropping a stored cue. -/
def Cue.fault (q : Cue) (reason : DropReason) (item reel : Nat) : DropFault :=
  { reason := reason, track := byteOf q.track, number := q.number, item := item, reel := reel }

/-- The faults of the PENDING cues that a context loses with its release, in store order. -/
def Subtitles.lostCues (s : Subtitles) (c : Context) (reason : DropReason) : List DropFault :=
  (s.pendingCues.filter (fun q => q.context = c.serial)).map (fun q => q.fault reason c.item c.reel)

/-- The context whose bank step 4 of R154 takes: the oldest with the LEFT mark that is not the matching
context of the frame last presented and has no SHOWN cue. -/
def Subtitles.takeable (s : Subtitles) : Option Context :=
  s.contexts.find? (fun c =>
    c.left && s.served ≠ some c.serial && s.shown.all (fun q => q.cue.context ≠ c.serial))

/-- The context that a hand-off goes to, found or created (R154, steps 2 to 5), with the faults of step
4. (DEDUCED, unsafe: notes/assumptions/32.md). -/
def Subtitles.openContext (s : Subtitles) (item reel : Nat) : SubsResult :=
  if (s.unmarked item reel).isSome then ⟨s, [], []⟩
  else if s.bankFree 0 && s.bankFree 1 then ⟨s.create item reel s.turn (otherBank s.turn), [], []⟩
  else if s.bankFree 0 then ⟨s.create item reel 0 1, [], []⟩
  else if s.bankFree 1 then ⟨s.create item reel 1 0, [], []⟩
  else
    match s.takeable with
    | some c => ⟨(s.release c).create item reel c.bank s.turn, [], s.lostCues c .bankBusy⟩
    | none => ⟨s, [], []⟩

/-! ### Cue records and resources (R153, R155, R156) -/

/-- A cue record as it stands in a CUES plaintext (R153, R198). -/
structure CueRecord where
  track : Byte
  region : Byte
  style : Byte
  number : Half
  fadeIn : Nat
  fadeOut : Nat
  tickIn : Nat
  tickOut : Nat
  contentOffset : Nat
  contentLength : Nat
deriving DecidableEq, Repr

/-- A cue record read from its 28 bytes (R198). -/
def readCueRecord (b : List Byte) : CueRecord :=
  { track := byteAt b 0, region := byteAt b 1, style := byteAt b 2,
    number := BitVec.ofNat 16 (fieldAt b 4 2), fadeIn := fieldAt b 6 2, fadeOut := fieldAt b 8 2,
    tickIn := fieldAt b 12 4, tickOut := fieldAt b 16 4, contentOffset := fieldAt b 20 4,
    contentLength := fieldAt b 24 4 }

/-- The whole cue records of a CUES plaintext, in order (R153). -/
def cueRecords (plain : List Byte) : List CueRecord :=
  entriesAt plain 0 28 (plain.length / 28) readCueRecord

/-- The bytes after the last whole record (R153). -/
def trailingBytes (plain : List Byte) : List Byte := plain.drop (28 * (plain.length / 28))

/-- The drop of those bytes, when there are any (R153). Its track and cue number are free values
(notes/assumptions/13.md). -/
def trailingFault (plain : List Byte) (item reel : Nat) : List DropFault :=
  if (trailingBytes plain).isEmpty then []
  else
    [{ reason := .malformed, track := Config.trailingTrack (trailingBytes plain),
       number := Config.trailingCueNumber (trailingBytes plain), item := item, reel := reel }]

/-- The fault of dropping a cue record. -/
def CueRecord.fault (r : CueRecord) (reason : DropReason) (item reel : Nat) : DropFault :=
  { reason := reason, track := r.track, number := r.number, item := item, reel := reel }

/-- The tick rate of a composition's track. -/
def trackRate (comp : Composition) (track : Nat) : Nat :=
  ((comp.tracks[track]?).map (fun t => t.tickRate.toNat)).getD 0

/-- The judgment of a cue record handed to a context (R155): the first failing check, or none. -/
def judgeCue (s : Subtitles) (c : Context) (comp : Composition) (r : CueRecord) : Option DropReason :=
  let t := r.track.toNat
  if r.number = 0 ∨ 3 < r.region.toNat then some .malformed
  else if comp.tracks.length ≤ t then some .track
  else if !s.enabled.getLsbD t then some .disabled
  else if comp.duration c.reel ≤ frameOfTick r.tickIn comp.rate (trackRate comp t) then some .beyondReel
  else if Config.bankBytes < r.contentOffset + r.contentLength then some .badReference
  else if ((c.lastTick[t]?).join).any (fun last => r.tickIn < last) then some .order
  else if 1024 ≤ s.pendingCues.length + s.shown.length then some .storeFull
  else none

/-- The cue that a record stores in a context: its raw frames and every field of the record (R24, R25, R155). -/
def CueRecord.cue (r : CueRecord) (c : Context) (comp : Composition) : Cue :=
  let rate := trackRate comp r.track.toNat
  { context := c.serial, track := r.track.toNat, number := r.number,
    ri := frameOfTick r.tickIn comp.rate rate,
    ro := clampOut (frameOfTick r.tickOut comp.rate rate) (comp.duration c.reel),
    fadeIn := frameOfTick r.fadeIn comp.rate rate, fadeOut := frameOfTick r.fadeOut comp.rate rate,
    tickIn := r.tickIn, tickOut := r.tickOut, fadeInTicks := r.fadeIn, fadeOutTicks := r.fadeOut,
    style := r.style.toNat, region := r.region.toNat, contentOffset := r.contentOffset,
    contentLength := r.contentLength }

/-- A cue record handed to the unmarked context of an item and reel: stored PENDING or dropped
(R155). -/
def takeCue (comp : Composition) (item reel : Nat) (x : SubsResult) (r : CueRecord) : SubsResult :=
  match x.subs.unmarked item reel with
  | none => { x with drops := x.drops ++ [r.fault .bankBusy item reel] }
  | some c =>
    match judgeCue x.subs c comp r with
    | some reason => { x with drops := x.drops ++ [r.fault reason item reel] }
    | none =>
      { x with
        subs := { x.subs with
          pendingCues := x.subs.pendingCues ++ [r.cue c comp]
          contexts := x.subs.contexts.map (fun k =>
            if k.serial = c.serial then
              { k with lastTick := k.lastTick.set r.track.toNat (some r.tickIn) }
            else k) } }

/-- The hand-off of a CUES plaintext (R153, R154, R155). -/
def Subtitles.takeCues (s : Subtitles) (comp : Composition) (item reel : Nat)
    (plain : List Byte) : SubsResult :=
  let done :=
    if comp.tracks.isEmpty then
      { subs := s, events := [], drops := (cueRecords plain).map (fun r => r.fault .track item reel) }
    else (cueRecords plain).foldl (takeCue comp item reel) (s.openContext item reel)
  { done with drops := done.drops ++ trailingFault plain item reel }

/-- The fault of discarding a RESOURCE plaintext: track 255, cue number 0 (R165). -/
def resourceFault (reason : DropReason) (item reel : Nat) : DropFault :=
  { reason := reason, track := 255, number := 0, item := item, reel := reel }

/-- The hand-off of a RESOURCE plaintext (R154, R156). -/
def Subtitles.takeResource (s : Subtitles) (comp : Composition) (item reel : Nat)
    (offset : Nat) (plain : List Byte) : SubsResult :=
  if comp.tracks.isEmpty then ⟨s, [], [resourceFault .resourceRange item reel]⟩
  else
    let x := s.openContext item reel
    match x.subs.unmarked item reel with
    | none => { x with drops := x.drops ++ [resourceFault .bankBusy item reel] }
    | some c =>
      if Config.bankBytes < offset + plain.length then
        { x with drops := x.drops ++ [resourceFault .resourceRange item reel] }
      else
        { x with
          subs := x.subs.setBank c.bank (Memory.writeAll (x.subs.bank c.bank) offset plain) }

/-! ### The deadline (R160, R161) -/

/-- The regular CLEAR of a shown cue. -/
def ShownCue.clear (q : ShownCue) (ch : ChannelId) : PortEvent := .clear ch q.cue.track q.cue.number false

/-- Shown cues from track 0 to track 3, and within a track in show order. -/
def byTrack (shown : List ShownCue) : List ShownCue :=
  ((List.range 4).map (fun t => shown.filter (fun q => q.cue.track = t))).flatten

/-- Every SHOWN cue that satisfies a test is cleared (R160). -/
def Subtitles.clearWhere (s : Subtitles) (ch : ChannelId) (test : ShownCue → Bool) : SubsResult :=
  ⟨{ s with shown := s.shown.filter (fun q => !test q) },
    (byTrack (s.shown.filter test)).map (fun q => q.clear ch), []⟩

/-- Every SHOWN cue of the channel is cleared. -/
def Subtitles.clearAll (s : Subtitles) (ch : ChannelId) : SubsResult := s.clearWhere ch (fun _ => true)

/-- A target's first frame: everything shown is cleared, the contexts with the LEFT mark are released
without a count, and the jump mark is cleared (R160, R164). -/
def Subtitles.reachTarget (s : Subtitles) (ch : ChannelId) : SubsResult :=
  let x := s.clearAll ch
  let released := (x.subs.contexts.filter (·.left)).foldl (fun st c => st.release c) x.subs
  { x with subs := { released with jumpMark := false } }

/-- A new reel: the context that matched the previous frame ends (R160). -/
def Subtitles.endReel (s : Subtitles) (ch : ChannelId) (previous : Option (Nat × Nat)) (item reel : Nat) :
    SubsResult :=
  match previous with
  | none => ⟨s, [], []⟩
  | some p =>
    if p.1 = item ∧ p.2 = reel then ⟨s, [], []⟩
    else
      match s.servedContext with
      | none => ⟨s, [], []⟩
      | some c =>
        let x := s.clearWhere ch (fun q => q.cue.context = c.serial)
        ⟨x.subs.release c, x.events, s.lostCues c .missed⟩

/-- The style a cue selects (R157). -/
def Subtitles.styleOf (s : Subtitles) (index : Nat) : Style :=
  s.styles.getD (if index ≤ 15 then index else 0) { handle := 0, minimum := 0 }

/-- A PENDING cue leaves the store's waiting cues. -/
def Subtitles.unpend (s : Subtitles) (q : Cue) : Subtitles :=
  { s with pendingCues := s.pendingCues.erase q }

/-- The SHOWN cues to be cut before a cue is shown (R161, step 2): the one of the same number on its
track, then the earliest of the track while it still shows 8. -/
def Subtitles.cutsFor (s : Subtitles) (q : Cue) : List ShownCue :=
  let track := s.shown.filter (fun x => x.cue.track = q.track)
  let same := track.filter (fun x => x.cue.number = q.number)
  let rest := track.filter (fun x => x.cue.number ≠ q.number)
  same ++ rest.take (rest.length - 7)

/-- The SHOW event of a cue (R27, R162). -/
def showEvent (s : Subtitles) (ch : ChannelId) (comp : Composition) (c : Context) (q : Cue)
    (ei eo p : Nat) : PortEvent :=
  .showCue ch q.track (((comp.tracks[q.track]?).map (·.kind)).getD 0)
    (((comp.tracks[q.track]?).map (·.language)).getD 0) q.number q.region (s.styleOf q.style).handle
    (showFadeIn q.fadeIn ei eo p) (showFadeOut q.fadeOut ei eo)
    (Memory.readAll (s.bank c.bank) q.contentOffset q.contentLength)

/-- A cue is shown, after its cuts (R161). -/
def SubsResult.showCue (x : SubsResult) (ch : ChannelId) (comp : Composition) (c : Context) (q : Cue)
    (ei eo p : Nat) (stretched : Bool) : SubsResult :=
  let cuts := x.subs.cutsFor q
  let s := x.subs.unpend q
  { subs := { s with
      shown := s.shown.filter (fun k => !cuts.contains k) ++ [{ cue := q, eo := eo }] }
    events := x.events ++ cuts.map (fun k => .clear ch k.cue.track k.cue.number true) ++
      [showEvent x.subs ch comp c q ei eo p]
    drops := x.drops ++ cuts.map (fun k => k.cue.fault .cut c.item c.reel) ++
      (if stretched then [q.fault .stretched c.item c.reel] else []) }

/-- One PENDING cue of the matching context at the deadline of frame p (R161, step 2). -/
def stepPending (ch : ChannelId) (comp : Composition) (c : Context) (p : Nat) (x : SubsResult) (q : Cue) :
    SubsResult :=
  match effectiveInterval q.ri q.ro (x.subs.offsets.getD q.track 0) (x.subs.styleOf q.style).minimum
      (comp.duration c.reel) with
  | .beyondReel =>
    { x with subs := x.subs.unpend q, drops := x.drops ++ [q.fault .beyondReel c.item c.reel] }
  | .span ei eo stretched =>
    if eo ≤ p then
      { x with subs := x.subs.unpend q, drops := x.drops ++ [q.fault .missed c.item c.reel] }
    else if p < ei then x
    else x.showCue ch comp c q ei eo p stretched

/-- The PENDING cues of a context, track 0 to track 3, in store order (R161). -/
def Subtitles.dueOrder (s : Subtitles) (c : Context) : List Cue :=
  ((List.range 4).map (fun t =>
    s.pendingCues.filter (fun q => q.context = c.serial && q.track = t))).flatten

/-- The schedule of frame p, once the previous reel has ended (R161). -/
def Subtitles.schedule (s : Subtitles) (ch : ChannelId) (comp : Composition) (item reel p : Nat) :
    SubsResult :=
  let x := s.clearWhere ch (fun q => q.eo ≤ p)
  match s.matching item reel with
  | none => x
  | some c => (s.dueOrder c).foldl (stepPending ch comp c p) x

/-- A deadline that presents a frame slot (R160, R161): the matching context of its frame is then that of the
frame last presented. `previous` is the item and reel of the frame
presented before it in this show, `target` says that it is a jump target's first frame. -/
def Subtitles.present (s : Subtitles) (ch : ChannelId) (comp : Composition)
    (previous : Option (Nat × Nat)) (pos : Position) (target : Bool) : SubsResult :=
  let x := if target then s.reachTarget ch else s.endReel ch previous pos.item pos.reel
  let y := x.subs.schedule ch comp pos.item pos.reel pos.frame
  ⟨{ y.subs with served := (x.subs.matching pos.item pos.reel).map (·.serial) },
    x.events ++ y.events, x.drops ++ y.drops⟩

/-! ### The channel's states, jumps and CUE (R163, R164, R166) -/

/-- Every context and stored cue released, and the jump mark cleared, without a count. -/
def Subtitles.released (s : Subtitles) : Subtitles :=
  { s with contexts := [], pendingCues := [], shown := [], jumpMark := false, served := none }

/-- The end of a show, or an accepted STOP (R163). -/
def Subtitles.endShow (s : Subtitles) (ch : ChannelId) : SubsResult :=
  ⟨s.released, (byTrack s.shown).map (fun q => q.clear ch), []⟩

/-- An accepted JUMP (R164). -/
def Subtitles.jumpPoint (s : Subtitles) : Subtitles :=
  { s with contexts := s.contexts.map (fun c => { c with left := true }), jumpMark := true }

/-- An accepted CUE (R166). -/
def Subtitles.cue (s : Subtitles) : Subtitles := { s.released with turn := 0 }

/-- A scheduler's result taken into the part: the port takes the events in order, and each fault raises
CUE-DROPPED (R162, R165). -/
def State.putSubs (s : State) (ch : ChannelId) (x : SubsResult) : State :=
  let placed := s.modChan ch (fun c => { c with subs := x.subs })
  { placed with subtitlePort := placed.subtitlePort ++ x.events }.raiseDrops ch x.drops

/-! ### Settings (R157 to R159) -/

/-- A scheduler setting changed. -/
def State.modSubs (s : State) (ch : ChannelId) (f : Subtitles → Subtitles) : State :=
  s.modChan ch (fun c => { c with subs := f c.subs })

/-- SET-STYLE (R157). -/
def doSetStyle (channel style : Byte) (handle : Half) (minimum : Byte) (s : State) : State × Answer :=
  onChannel channel 3 s fun ch =>
    if 15 < style.toNat ∨ 48 < minimum.toNat then (s, refuse .badValue 3)
    else
      let old := (s.chan ch).subs.styleOf style.toNat
      (s.modSubs ch (fun x =>
          { x with
            styles := x.styles.set style.toNat { handle := handle, minimum := minimum.toNat } }),
        okReply (leBytes 2 old.handle.toNat ++ [byteOf old.minimum]))

/-- SET-TRACKS (R158). (DESIGN CHOICE, unsafe: notes/assumptions/15.md). -/
def doSetTracks (channel value mask : Byte) (s : State) : State × Answer :=
  onChannel channel 2 s fun ch =>
    if 15 < value.toNat ∨ 15 < mask.toNat then (s, refuse .badValue 2)
    else
      let old := (s.chan ch).subs.enabled
      let new : BitVec 4 := (old &&& ~~~(mask.setWidth 4)) ||| (value.setWidth 4 &&& mask.setWidth 4)
      (s.modSubs ch (fun x => { x with enabled := new }),
        okReply [old.setWidth 8, new.setWidth 8])

/-- SET-SUBTITLE-OFFSET (R159). -/
def doSetSubtitleOffset (channel track : Byte) (offset : Half) (s : State) : State × Answer :=
  onChannel channel 2 s fun ch =>
    if 3 < track.toNat then (s, refuse .badValue 2)
    else
      let stored : Int := max (-250) (min 250 offset.toInt)
      (s.modSubs ch (fun x => { x with offsets := x.offsets.set track.toNat stored }),
        okReply (leBytes 2 (BitVec.ofInt 16 stored).toNat))

end Sys2Proof.Machine
end

