-- ==== Sys2Proof/Machine/Unpacker.lean ====
section
/-! DEFINITION. The unpacker (file 04): the choice of a channel, the order check, the closure of what a
segment skips, key and payload check, and the building of frames. -/

namespace Sys2Proof.Machine

/-! ### Order keys (R55) -/

/-- The place of an order key within its reel: START, PROLOGUE, then PICTURE and SOUND of each frame
(R55). -/
def Cursor.place : Cursor → Nat
  | .start _ => 0
  | .prologue _ => 1
  | .picture _ f => 2 * f + 2
  | .sound _ f => 2 * f + 3

/-- The reel of an order key. -/
def Cursor.reel : Cursor → Nat
  | .start r | .prologue r | .picture r _ | .sound r _ => r

/-- The order of keys: by reel, then by place (R55). -/
def Cursor.below (a b : Cursor) : Bool := a.reel < b.reel || (a.reel = b.reel && a.place < b.place)

/-- A segment's order key (R55). -/
def Segment.key (g : Segment) : Cursor :=
  match g.kind with
  | .picture => .picture g.reel g.frame
  | .sound => .sound g.reel g.frame
  | .cues | .resource => .prologue g.reel

/-- Whether a segment belongs to a frame. -/
def Segment.isFragment (g : Segment) : Bool := g.kind = .picture || g.kind = .sound

/-- The position of a segment's frame. -/
def Segment.position (g : Segment) : Position := { item := g.item, reel := g.reel, frame := g.frame }

/-- The last key of a frame: its SOUND key, or its PICTURE key without sound (R57). -/
def lastKey (c : Composition) (reel frame : Nat) : Cursor :=
  if c.hasSound then .sound reel frame else .picture reel frame

/-- The first frame position whose picture key lies above a cursor (R57, step 2). -/
def frameAfter (c : Composition) (k : Cursor) : Nat × Nat :=
  match k with
  | .start r | .prologue r => (r, 0)
  | .picture r f | .sound r f => if f + 1 < c.duration r then (r, f + 1) else (r + 1, 0)

/-- The next frame that a segment skips whole: its parts lie strictly between cursor and key (R57,
step 2). -/
def nextSkipped (c : Composition) (cursor key : Cursor) : Option (Nat × Nat) :=
  let p := frameAfter c cursor
  if (lastKey c p.1 p.2).below key then some p else none

/-! ### Parts and fragments (R61, R62, R64) -/

/-- A part with nothing taken. -/
def Part.fresh : Part :=
  { fixedCount := none, lastIndex := 0, bytes := [], damage := none, closed := false }

/-- A part closed MISSING with nothing taken (R57). -/
def Part.missing : Part := { Part.fresh with damage := some .missing, closed := true }

/-- A part damaged; it keeps its first cause, and its bytes are not presented (R61). -/
def Part.hurt (p : Part) (cause : DamageCause) : Part :=
  match p.damage with
  | some _ => p
  | none => { p with damage := some cause, bytes := [] }

/-- A part closed by a greater key: MISSING unless it has a cause (R57, R61). -/
def Part.closeEarly (p : Part) : Part := { p.hurt .missing with closed := true }

/-- What a fragment's index and count make of an undamaged part (R61): the damage cause, if any. An
index or count outside 1 to 32, or an index above its count, damages the part as R61's first row states
(notes/assumptions/44.md). -/
def fragmentFault (p : Part) (index count limit length : Nat) : Option DamageCause :=
  if index < 1 ∨ 32 < index ∨ count < 1 ∨ 32 < count ∨ count < index then some .fragment
  else if p.fixedCount.any (fun n => n ≠ count) then some .fragment
  else if index ≠ p.lastIndex + 1 then some .fragment
  else if limit < p.bytes.length + length then some .length
  else none

/-- What an unpacked payload is: usable plaintext, or damaged with a cause (R59, R60). -/
inductive Payload where
  | good (plain : List Byte)
  | bad (cause : DamageCause)
deriving DecidableEq, Repr

/-- A fragment taken for a part, before the part's close (R61, R62). -/
def Part.takeFragment (p : Part) (index count limit : Nat) (payload : Payload) : Part :=
  let fixed := { p with fixedCount := some (p.fixedCount.getD count) }
  match p.damage with
  | some _ => fixed
  | none =>
    match payload with
    | .bad cause => fixed.hurt cause
    | .good plain =>
      match fragmentFault p index count limit plain.length with
      | some cause => fixed.hurt cause
      | none => { fixed with bytes := p.bytes ++ plain, lastIndex := index }

/-- The close of a part by the fragment whose index equals the fixed count (R61); a sound block must
then be of length `exact` (R62). -/
def Part.closeAt (p : Part) (index : Nat) (exact : Option Nat) : Part :=
  if p.fixedCount = some index then
    if exact.any (fun b => p.bytes.length ≠ b) then { p.hurt .length with closed := true }
    else { p with closed := true }
  else p

/-- A fragment taken for a part (R61, R62). -/
def Part.take (p : Part) (index count limit : Nat) (exact : Option Nat) (payload : Payload) : Part :=
  (p.takeFragment index count limit payload).closeAt index exact

/-- Whether a cause adds to ASSEMBLY (R64). -/
def DamageCause.isAssembly : DamageCause → Bool
  | .fragment | .length => true
  | _ => false

/-- What a part's change adds to ASSEMBLY: 1 when FRAGMENT or LENGTH is first set (R61, R64). -/
def assemblyGain (before after : Part) : Nat :=
  if before.damage.isNone && after.damage.any DamageCause.isAssembly then 1 else 0

/-- What closing a part early adds to MISSING (R57, R64). (DEDUCED, unsafe: notes/assumptions/20.md). -/
def missingGain (p : Part) : Nat := if !p.closed && p.damage.isNone then 1 else 0

/-- A count of R64 raised; it stops at 65 535. -/
def bump16 (n gain : Nat) : Nat := min 65535 (n + gain)

/-- The unpacker counts changed. -/
def Channel.modCounts (c : Channel) (f : UnpackCounts → UnpackCounts) : Channel :=
  { c with assembly := { c.assembly with counts := f c.assembly.counts } }

/-- MISSING raised. -/
def Channel.addMissing (c : Channel) (n : Nat) : Channel :=
  c.modCounts (fun k => { k with missing := bump16 k.missing n })

/-- The cursor moved. -/
def Channel.setCursor (c : Channel) (k : Cursor) : Channel :=
  { c with assembly := { c.assembly with cursor := k } }

/-! ### The order check (R56) -/

/-- The composition of a channel's fetching record. -/
def State.fetchingComposition (s : State) (ch : ChannelId) : Option Composition :=
  (s.chan ch).fetchingRecord.bind (fun r => s.composition r.slot)

/-- Whether a part of a position is open in the FILLING slot (R56). -/
def Channel.partOpen (c : Channel) (g : Segment) : Bool :=
  match c.fillingFrame with
  | some f =>
    f.pos = g.position &&
      (if g.kind = .sound then f.sound.any (fun p => !p.closed) else !f.picture.closed)
  | none => false

/-- The order check of a segment against its composition and cursor (R56). DESIGN CHOICE (notes/assumptions/44.md):
inconsistent fragment fields are no ground of it, as in R56's list; `fragmentFault` judges them (R61), where R34
has this check discard them. -/
def orderFits (c : Channel) (comp : Composition) (g : Segment) : Bool :=
  g.reel < comp.reels.length &&
  (!g.isFragment || g.frame < comp.duration g.reel) &&
  (g.kind ≠ .sound || comp.hasSound) &&
  !c.assembly.complete &&
  !g.key.below c.assembly.cursor &&
  (!g.isFragment || g.key ≠ c.assembly.cursor || c.partOpen g)

/-- Whether a segment passes the order check (R56). -/
def State.orderPasses (s : State) (ch : ChannelId) (g : Segment) : Bool :=
  match (s.chan ch).fetchingRecord with
  | none => false
  | some r =>
    match s.composition r.slot with
    | none => false
    | some comp => g.item = r.item && orderFits (s.chan ch) comp g

/-! ### The choice of a channel (R53, R54) -/

/-- Whether the frame of a fragment has a slot: it is the one in assembly (R53). -/
def Channel.hasSlot (c : Channel) (g : Segment) : Bool := c.fillingFrame.any (fun f => f.pos = g.position)

/-- Whether a segment that passes the order check needs a FREE slot (R53). -/
def needsFree (c : Channel) (comp : Composition) (g : Segment) : Bool :=
  (nextSkipped comp c.assembly.cursor g.key).isSome || (g.isFragment && !c.hasSlot g)

/-- Whether a channel is eligible (R53). -/
def State.eligible (s : State) (ch : ChannelId) : Bool :=
  match (s.chan ch).queue with
  | [] => false
  | g :: _ =>
    if !s.orderPasses ch g then true
    else
      match s.fetchingComposition ch with
      | none => true
      | some comp => !needsFree (s.chan ch) comp g || 0 < (s.chan ch).freeCount

/-- The lead of a channel; 0 without a fetching record (R33, R54). -/
def State.lead (s : State) (ch : ChannelId) : Nat :=
  match s.fetchingComposition ch with
  | some comp => leadMs (s.chan ch).readyCount comp.rate
  | none => 0

/-- The channel the unpacker serves next, if any is eligible (R54). -/
def State.chosen (s : State) : Option ChannelId :=
  if s.eligible .a then
    if s.eligible .b then
      if s.lead .a < s.lead .b then some .a
      else if s.lead .b < s.lead .a then some .b
      else some s.lastServed.other
    else some .a
  else if s.eligible .b then some .b
  else none

/-! ### The take (R52, R56, R58) -/

/-- The key id that a reel names for a kind of segment (R11, link 3). -/
def reelKey (r : ReelEntry) : SegmentKind → Id64
  | .picture => r.pictureKey
  | .sound => r.soundKey
  | .cues | .resource => r.subtitleKey

/-- A licence whose keys the unpacker may use (R58). -/
def Licence.usable (l : Licence) : Bool :=
  l.state = .opened || l.state = .closing || l.state = .revoking

/-- The key chosen for a key id under the licence that an admission record names (R58). -/
def keyChoice (s : State) (licence : Option Nat) (id : Id64) : KeyChoice :=
  if id = 0 then .plain
  else
    match s.findKey id with
    | none => .unusable
    | some k =>
      if licence = some k.owner && (s.licence k.owner).any Licence.usable then .material k.material
      else .unusable

/-- The key chosen at the take of a segment (R58). -/
def State.chooseKey (s : State) (ch : ChannelId) (g : Segment) : KeyChoice :=
  match (s.chan ch).fetchingRecord with
  | none => .unusable
  | some r =>
    match (s.composition r.slot).bind (fun comp => comp.reels[g.reel]?) with
    | none => .unusable
    | some reel => keyChoice s r.licence (reelKey reel g.kind)

/-- A head segment discarded with reason ORDER (R56). -/
def State.discardOrder (s : State) (ch : ChannelId) : State :=
  (s.modChan ch (fun c => c.modCounts (fun k => { k with order := bump16 k.order 1 }))).finishHead ch

/-- The head segment of a channel is taken (R54, R56, R58): it becomes the segment in work, or is
discarded at once. -/
def State.serve (s : State) (ch : ChannelId) : State :=
  match (s.chan ch).queue with
  | [] => s
  | g :: _ =>
    let served := { s with lastServed := ch }
    if s.orderPasses ch g then { served with work := some { channel := ch, key := s.chooseKey ch g } }
    else served.discardOrder ch

/-- SEGMENT_TAKE: the free unpacker chooses a channel and takes its head segment (R52, R54). -/
def State.takeSegment (s : State) : State :=
  match s.work with
  | some _ => s
  | none =>
    match s.chosen with
    | none => s
    | some ch => s.serve ch

/-! ### The finish: what the segment skipped (R57) -/

/-- Step 1: the FILLING slot's open parts are closed MISSING, but for the sound that the segment is of
(R57). -/
def Frame.closeSkipped (f : Frame) (g : Segment) : Frame :=
  { f with
    picture := if f.picture.closed then f.picture else f.picture.closeEarly
    sound := f.sound.map (fun p =>
      if p.closed || (g.kind = .sound && f.pos = g.position) then p else p.closeEarly) }

/-- What step 1 adds to MISSING. -/
def Frame.skippedGain (f : Frame) (g : Segment) : Nat :=
  missingGain f.picture +
    (match f.sound with
     | some p => if g.kind = .sound && f.pos = g.position then 0 else missingGain p
     | none => 0)

/-- Step 1 on a channel: the cursor comes to the last key of the frame, when it is closed whole. -/
def Channel.closeFilling (c : Channel) (comp : Composition) (g : Segment) : Channel :=
  match c.fillingFrame with
  | none => c
  | some f =>
    let closed := (c.modFilling (fun x => x.closeSkipped g)).addMissing (f.skippedGain g)
    if (f.closeSkipped g).complete then closed.setCursor (lastKey comp f.pos.reel f.pos.frame)
    else closed

/-- A frame closed whole (R57, step 2). -/
def missingFrame (comp : Composition) (item record : Nat) (p : Nat × Nat) : Frame :=
  { pos := { item := item, reel := p.1, frame := p.2 }, record := record, picture := Part.missing,
    sound := if comp.hasSound then some Part.missing else none }

/-- One frame closed whole: it takes the next FREE slot and becomes READY at once. -/
def Channel.closeWhole (c : Channel) (comp : Composition) (item record : Nat) (p : Nat × Nat) : Channel :=
  let taken := c.takeSlot (missingFrame comp item record p)
  ({ taken with slots := taken.slots.map Slot.settle }.addMissing 1).setCursor (lastKey comp p.1 p.2)

/-- Step 2: frames are closed whole in position order while a FREE slot is left (R57). No more than the
ring holds can be closed. -/
def Channel.closeSkippedFrames (c : Channel) (comp : Composition) (item record : Nat) (key : Cursor) :
    Nat → Channel
  | 0 => c
  | n + 1 =>
    match nextSkipped comp c.assembly.cursor key with
    | none => c
    | some p =>
      if c.freeCount = 0 then c
      else (c.closeWhole comp item record p).closeSkippedFrames comp item record key n

/-- Steps 1 and 2 for a segment whose key is greater than the cursor (R57). -/
def Channel.closeBefore (c : Channel) (comp : Composition) (record : Nat) (g : Segment) : Channel :=
  if c.assembly.cursor.below g.key then
    (c.closeFilling comp g).closeSkippedFrames comp g.item record g.key (ringSize + 1)
  else c

/-- Whether a segment must stay at the head after the closure: frames are left to close, or no FREE slot
is left for its own frame (R57). -/
def staysAtHead (c : Channel) (comp : Composition) (g : Segment) : Bool :=
  needsFree c comp g && c.freeCount = 0 || (nextSkipped comp c.assembly.cursor g.key).isSome

/-! ### The finish: placement (R57 step 3, R61 to R63) -/

/-- The frame that a fragment opens: with its picture closed MISSING when the fragment is of its sound
(R57, step 3; R63). -/
def openedFrame (comp : Composition) (record : Nat) (g : Segment) : Frame :=
  { pos := g.position, record := record,
    picture := if g.kind = .sound then Part.missing else Part.fresh,
    sound := if comp.hasSound then some Part.fresh else none }

/-- The frame of a fragment has its slot: the one in assembly, or the next FREE one (R57 step 3, R63). -/
def Channel.openFrame (c : Channel) (comp : Composition) (record : Nat) (g : Segment) : Channel :=
  if c.hasSlot g then c
  else
    let taken := c.takeSlot (openedFrame comp record g)
    if g.kind = .sound then taken.addMissing 1 else taken

/-- The sound block length of a composition on a channel (R62). -/
def Channel.blockLength (c : Channel) (comp : Composition) : Nat :=
  soundBlockLength (samplesPerFrame c.config.sampleRate comp.rate) comp.sourceChannels.toNat

/-- A frame with a fragment taken for its part (R61, R62). -/
def Frame.takeFragment (f : Frame) (g : Segment) (blockLength : Nat) (payload : Payload) : Frame :=
  if g.kind = .sound then
    { f with sound := f.sound.map (fun p =>
        p.take g.fragmentIndex g.fragmentCount blockLength (some blockLength) payload) }
  else
    { f with picture :=
        f.picture.take g.fragmentIndex g.fragmentCount Config.pictureLimit none payload }

/-- What a fragment adds to ASSEMBLY. -/
def Frame.assemblyGain (f f' : Frame) (g : Segment) : Nat :=
  if g.kind = .sound then
    match f.sound, f'.sound with
    | some p, some q => Machine.assemblyGain p q
    | _, _ => 0
  else Machine.assemblyGain f.picture f'.picture

/-- A fragment placed in its slot; the cursor moves to its key (R59 to R63). -/
def Channel.placeFragment (c : Channel) (comp : Composition) (record : Nat) (g : Segment)
    (payload : Payload) : Channel :=
  let opened := c.openFrame comp record g
  let b := c.blockLength comp
  let gain :=
    match opened.fillingFrame with
    | some f => f.assemblyGain (f.takeFragment g b payload) g
    | none => 0
  ((opened.modFilling (fun f => f.takeFragment g b payload)).modCounts (fun k =>
    { k with assembly := bump16 k.assembly gain })).setCursor g.key

/-! ### The finish: keys and checks (R59, R60, R65, R68) -/

/-- The plaintext of a payload under a key (R60): the inverse of the content cipher, of the same
length. -/
def decrypt (m : Material) (payload : List Byte) : List Byte :=
  List.ofFn ((Config.contentCipher m payload.length).symm payload.get)

/-- The payload of a segment unpacked under its chosen key (R59, R60). -/
def Segment.unpacked (g : Segment) (key : KeyChoice) : Payload :=
  match key with
  | .unusable => .bad .keyUnusable
  | .plain => if crc32 g.payload = g.crc then .good g.payload else .bad .check
  | .material m =>
    let plain := decrypt m g.payload
    if crc32 plain = g.crc then .good plain else .bad .check

/-- What a payload adds to the counts KEY-UNUSABLE and CHECK (R64). -/
def UnpackCounts.withPayload (k : UnpackCounts) : Payload → UnpackCounts
  | .bad .keyUnusable => { k with keyUnusable := bump16 k.keyUnusable 1 }
  | .bad .check => { k with check := bump16 k.check 1 }
  | _ => k

/-- The notice of a KEY-UNUSABLE segment (R68). -/
def State.raiseUnusable (s : State) (ch : ChannelId) (g : Segment) (payload : Payload) : State :=
  match payload with
  | .bad .keyUnusable =>
    s.raise .frameDamaged (some ch)
      (.frameDamaged { g.position with frame := if g.isFragment then g.frame else 0 } g.kind .keyUnusable)
  | _ => s

/-- The item and reel of the frame a channel presented last (R160). -/
def Channel.lastPresented (c : Channel) : Option (Nat × Nat) :=
  c.position.bind (fun p => if p.presented then some (p.pos.item, p.pos.reel) else none)

/-- The hand-off of a checked CUES or RESOURCE plaintext (R65). -/
def State.handOff (s : State) (ch : ChannelId) (comp : Composition) (g : Segment) (plain : List Byte) :
    State :=
  let c := s.chan ch
  if g.kind = .resource then
    s.putSubs ch (c.subs.takeResource comp g.item g.reel g.resourceOffset plain)
  else s.putSubs ch (c.subs.takeCues comp g.item g.reel plain)

/-- A prologue segment unpacked: handed off when its payload is good; the cursor moves to its key (R59,
R60, R65). -/
def State.placePrologue (s : State) (ch : ChannelId) (comp : Composition) (g : Segment)
    (payload : Payload) : State :=
  let moved := s.modChan ch (fun c => c.setCursor g.key)
  match payload with
  | .good plain => moved.handOff ch comp g plain
  | .bad _ => moved

/-- A segment placed, with its counts and its notice (R59 to R65, R68). -/
def State.placeSegment (s : State) (ch : ChannelId) (comp : Composition) (record : Nat) (g : Segment)
    (payload : Payload) : State :=
  let counted := (s.modChan ch (fun c => c.modCounts (·.withPayload payload))).raiseUnusable ch g payload
  if g.isFragment then counted.modChan ch (fun c => c.placeFragment comp record g payload)
  else counted.placePrologue ch comp g payload

/-! ### The finish: completion and priming (R66, R118) -/

/-- Whether a placed fragment has completed its item's fetch: the item's last frame is READY (R66). -/
def completesFetch (c : Channel) (comp : Composition) (g : Segment) : Bool :=
  g.isFragment && comp.isLastFrame g.reel g.frame && !c.hasSlot g

/-- A channel in CUEING becomes PRIMED when its READY count is at least the priming depth, or when the
fetch of its presenting record's item has been reported complete (R118). -/
def State.judgePriming (s : State) (ch : ChannelId) (completed : Bool) : State :=
  let c := s.chan ch
  let whole := completed && (c.presenting.map (·.ident)) = c.assembly.fetching
  if c.state = .cueing && (c.config.priming ≤ c.readyCount || whole) then
    (s.modChan ch (fun c => { c with state := .primed })).raise .channelPrimed (some ch)
      (.channelPrimed c.readyCount ((c.position.map (·.pos)).getD { item := 0, reel := 0, frame := 0 }))
  else s

/-- The report of a completed fetch (R66). -/
def State.reportComplete (s : State) (ch : ChannelId) : State :=
  s.modChan ch (fun c => { c with assembly := { c.assembly with complete := true } })

/-- The finish of an operation that placed its segment: its credit returns; READY slots are judged for
priming; a completed fetch leads to a next-item admission (R52, R66, R94, R118). -/
def State.afterPlacement (s : State) (ch : ChannelId) (completed readied : Bool) : State :=
  let returned := s.finishHead ch
  let reported := if completed then returned.reportComplete ch else returned
  let judged := if readied || completed then reported.judgePriming ch completed else reported
  if completed then judged.nextItemOccasion ch else judged

/-- The finish of an operation on a segment that passes the order check (R52, R57 to R66). -/
def State.unpack (s : State) (ch : ChannelId) (comp : Composition) (record : Nat) (key : KeyChoice)
    (g : Segment) : State :=
  let before := (s.chan ch).readyCount
  let closed := s.modChan ch (fun c => c.closeBefore comp record g)
  if staysAtHead (closed.chan ch) comp g then
    if before < (closed.chan ch).readyCount then closed.judgePriming ch false else closed
  else
    let placed := closed.placeSegment ch comp record g (g.unpacked key)
    placed.afterPlacement ch (completesFetch (placed.chan ch) comp g)
      (before < (placed.chan ch).readyCount)

/-- SEGMENT_FINISH: the operation in work finishes, with every effect as one action (R52). -/
def State.finishSegment (s : State) : State :=
  match s.work with
  | none => s
  | some w =>
    let freed := { s with work := none }
    match (s.chan w.channel).queue with
    | [] => freed
    | g :: _ =>
      if !s.orderPasses w.channel g then freed.discardOrder w.channel
      else
        match (s.chan w.channel).fetchingRecord, s.fetchingComposition w.channel with
        | some r, some comp => freed.unpack w.channel comp r.ident w.key g
        | _, _ => freed.discardOrder w.channel

end Sys2Proof.Machine
end

