-- ==== Sys2Proof/Machine/Playout.lean ====
section
/-! DEFINITION. The playout controller (files 07 and 09) and the frame timer (R18 to R21): deadlines and
sample edges, underrun, hold and suspension, and the requests CUE, START, PAUSE, RESUME, STOP,
ACKNOWLEDGE-SUSPENSION and CHANNEL-REPORT. -/

namespace Sys2Proof.Machine

/-! ### What the controller reads -/

/-- The frame last presented was the last frame of its item's last reel (R120). -/
def State.atItemEnd (s : State) (ch : ChannelId) : Bool :=
  match (s.chan ch).position with
  | some p =>
    p.presented && (s.itemComposition ch p.pos.item).any (fun c => c.isLastFrame p.pos.reel p.pos.frame)
  | none => false

/-- The pause-after flag of the item last presented (R120, R127). -/
def Channel.pauseAfterSet (c : Channel) : Bool :=
  (c.position.bind (fun p => c.item p.pos.item)).any (fun i => i.pauseAfter = 1)

/-- The show is over (R120 case 3, R125): after an item's last frame, with no admission record and the
report that no item follows. -/
def State.showOver (s : State) (ch : ChannelId) : Bool :=
  s.atItemEnd ch && (s.chan ch).records.isEmpty && (s.chan ch).noNext

/-- The channel's position for a notice's detail. -/
def Channel.reportedPosition (c : Channel) : Position :=
  (c.position.map (·.pos)).getD { item := 0, reel := 0, frame := 0 }

/-- The samples per frame of an item on a channel (R17, R21). -/
def State.itemPeriod (s : State) (ch : ChannelId) (item : Nat) : Option Nat :=
  (s.itemComposition ch item).map (fun c => samplesPerFrame (s.chan ch).config.sampleRate c.rate)

/-! ### Outputs of a deadline -/

/-- A picture message sent, with the screen mark it leaves (R121, R122): LIT after NEW and REPEAT, DARK
after BLACK. -/
def Channel.sendPicture (c : Channel) (m : PictureMessage) : Channel :=
  { c with picture := m, lit := m ≠ .black }

/-- The message of a deadline that presents no new frame (R123, R144, R145). -/
def Channel.holdPicture (c : Channel) : Channel :=
  c.sendPicture (if c.lit then .repeated else .black)

/-- The message of a presented slot (R121, R122). -/
def Channel.showPicture (c : Channel) (f : Frame) : Channel :=
  if f.picture.damage.isNone then
    { c.sendPicture (.new f.picture.bytes) with lastGood := some f.record }
  else if c.lastGood = some f.record then c.sendPicture .repeated
  else c.sendPicture .black

/-- The sound router at a presented slot (R121, R122). -/
def Channel.giveSound (c : Channel) (f : Frame) (channels : Nat) (target knownEnd : Bool) : Channel :=
  match f.sound with
  | some p =>
    if p.damage.isNone then
      { c with
        sound :=
          c.sound.beginBlock { bytes := p.bytes, channels := channels, knownEnd := knownEnd } target }
    else { c with sound := c.sound.beginQuiet }
  | none => { c with sound := c.sound.beginQuiet }

/-- The sound router at a deadline without a block (R123, R145, R173). -/
def Channel.quiet (c : Channel) : Channel := { c with sound := c.sound.beginQuiet }

/-- The timer at a deadline that begins a period of a given length (R19, R21). -/
def FrameTimer.begin (period : Option Nat) : FrameTimer := { state := .running, count := 0, period := period }

/-- The period of a deadline that presents no slot: the running period, or at the first deadline after
START that of the presenting record's item (R21). -/
def State.keepPeriod (s : State) (ch : ChannelId) : State :=
  let c := s.chan ch
  let period :=
    match c.timer.period with
    | some n => some n
    | none => c.presenting.bind (fun r => s.itemPeriod ch r.item)
  s.modChan ch (fun c => { c with timer := FrameTimer.begin period })

/-! ### A presented slot (R121) -/

/-- The kind and cause that FRAME-DAMAGED names for a damaged slot (R122). -/
def Frame.damageReport (f : Frame) : Option (SegmentKind × DamageCause) :=
  match f.picture.damage with
  | some cause => some (.picture, cause)
  | none => (f.sound.bind (·.damage)).map (fun cause => (.sound, cause))

/-- FRAME-DAMAGED for a presented slot (R122). -/
def State.raiseDamage (s : State) (ch : ChannelId) (f : Frame) : State :=
  match f.damageReport with
  | some (kind, cause) => s.raise .frameDamaged (some ch) (.frameDamaged f.pos kind cause)
  | none => s

/-- The close of a record at the deadline that presents one of its frames (R103, R104, R139): at the
last committed frame when a jump has cleared the chargeable flag; at the item's last frame when the
flag is set and no committed frame is presented (notes/assumptions/19.md). A next-item occasion may
follow (R94). -/
def State.closeAtFrame (s : State) (ch : ChannelId) (f : Frame) (lastFrame committed knownEnd : Bool) :
    State :=
  match (s.chan ch).record f.record with
  | none => s
  | some r =>
    if knownEnd && !r.chargeable then (s.closeRecord ch r .jumpedAway).nextItemOccasion ch
    else if lastFrame && r.chargeable && !committed then
      (s.closeRecord ch r (s.lastFrameOutcome r)).nextItemOccasion ch
    else s

/-- A deadline presents a slot (R121): the hand-offs to picture link, sound router, subtitle scheduler
and showing counter, the period and the position. -/
def State.present (s : State) (ch : ChannelId) (f : Frame) (target committed knownEnd : Bool) : State :=
  match s.itemComposition ch f.pos.item with
  | none => s
  | some comp =>
    let previous := (s.chan ch).lastPresented
    let outputs := s.modChan ch (fun c =>
      (((c.presentSlot f).showPicture f).giveSound f comp.sourceChannels.toNat target knownEnd))
    let cued := outputs.putSubs ch ((outputs.chan ch).subs.present ch comp previous f.pos target)
    let moved := cued.modChan ch (fun c =>
      { c with
        position := some { pos := f.pos, presented := true }
        lastRecord := some f.record
        timer := FrameTimer.begin (some (samplesPerFrame c.config.sampleRate comp.rate)) })
    let reported := moved.raiseDamage ch f
    (reported.countPresentation ch f.record f.damaged).closeAtFrame ch f
      (comp.isLastFrame f.pos.reel f.pos.frame) committed knownEnd

/-- The pending jump after the deadline that presents a committed frame or the target's first frame
(R133). -/
def PendingJump.afterFrame : PendingJump → Option PendingJump
  | .committed n item reel =>
    if n ≤ 1 then some (.targetWait item reel) else some (.committed (n - 1) item reel)
  | .targetWait _ _ => none

/-- Whether a pending jump makes the next slot a target's first frame (R140). -/
def isTargetWait : Option PendingJump → Bool
  | some (.targetWait _ _) => true
  | _ => false

/-- Whether a pending jump is in phase COMMITTED (R133). -/
def isCommitted : Option PendingJump → Bool
  | some (.committed _ _ _) => true
  | _ => false

/-- Whether the next slot is the last committed frame (R139). -/
def isLastCommitted : Option PendingJump → Bool
  | some (.committed n _ _) => n ≤ 1
  | _ => false

/-- The slot at the present pointer is presented, under the pending jump if there is one (R121, R139,
R140, R146). -/
def State.presentNext (s : State) (ch : ChannelId) (f : Frame) : State :=
  let jump := (s.chan ch).jump
  (s.modChan ch (fun c => { c with jump := jump.bind PendingJump.afterFrame })).present ch f
    (isTargetWait jump) (isCommitted jump) (isLastCommitted jump)

/-! ### Deadlines that present no slot (R123, R127, R128, R144, R145, R147) -/

/-- A paused deadline (R123). -/
def State.pausedDeadline (s : State) (ch : ChannelId) : State :=
  (s.keepPeriod ch).modChan ch (fun c => c.holdPicture.quiet)

/-- A held deadline (R145). -/
def State.heldDeadline (s : State) (ch : ChannelId) : State :=
  ((s.keepPeriod ch).modChan ch (fun c => c.holdPicture.quiet)).countHeld ch

/-- A suspending deadline (R147). -/
def State.suspend (s : State) (ch : ChannelId) : State :=
  let dark := (s.keepPeriod ch).modChan ch (fun c =>
    { (c.sendPicture .black) with state := .suspended, latch := true, sound := c.sound.suspend })
  let cleared := dark.putSubs ch ((dark.chan ch).subs.clearAll ch)
  let c := cleared.chan ch
  cleared.raise .suspended (some ch) (.suspended c.reportedPosition c.readyCount c.config.stallLimit)

/-- A later deadline in SUSPENDED (R147). -/
def State.suspendedDeadline (s : State) (ch : ChannelId) : State :=
  (s.keepPeriod ch).modChan ch (fun c => (c.sendPicture .black).quiet)

/-- The kind of frame an underrun awaits (R144). -/
def State.awaited (s : State) (ch : ChannelId) : AwaitedKind :=
  if isTargetWait (s.chan ch).jump then .jumpTarget
  else if s.atItemEnd ch && !(s.chan ch).records.isEmpty then .nextItem
  else .nextFrame

/-- An underrun deadline (R144). -/
def State.underrun (s : State) (ch : ChannelId) : State :=
  let raised := s.raise .underrun (some ch)
    (.underrun (s.chan ch).reportedPosition (s.awaited ch))
  let stalled := raised.modChan ch (fun c => { c with stallCount := 1, state := .holding })
  if (s.chan ch).config.stallLimit ≤ 1 then stalled.suspend ch else stalled.heldDeadline ch

/-- The reason a show ends at a deadline (R128). -/
def Channel.endReason (c : Channel) : EndReason := if c.refusal then .admissionRefused else .completed

/-- The deadline at which a show ends (R128). -/
def State.endShow (s : State) (ch : ChannelId) : State :=
  let dark := s.modChan ch (fun c =>
    { (c.sendPicture .black) with
      state := .ended, timer := FrameTimer.reset, sound := c.sound.endShow })
  let cleared := dark.putSubs ch ((dark.chan ch).subs.endShow ch)
  cleared.raise .showEnded (some ch)
    (.showEnded (cleared.chan ch).endReason (cleared.chan ch).reportedPosition)

/-! ### The deadline (R113, R120, R145) -/

/-- The PRESENTING slot becomes FREE (R113). -/
def State.freePresenting (s : State) (ch : ChannelId) : State :=
  s.modChan ch (fun c => c.freePresenting)

/-- Whether a channel has a PRESENTING slot. -/
def Channel.isPresenting (c : Channel) : Bool := c.slots.any Slot.isPresenting

/-- A deadline in PLAYING, its PRESENTING slot freed (R120). `presented` says whether there was one: the
pause-after flag is read at the deadline after the item's last frame, and not again after RESUME
(R127; notes/assumptions/18.md). -/
def State.playingDeadline (s : State) (ch : ChannelId) (presented : Bool) : State :=
  let c := s.chan ch
  if c.jump.isNone && presented && s.atItemEnd ch && c.pauseAfterSet && !c.records.isEmpty then
    (s.modChan ch (fun c => { c with state := .paused })).pausedDeadline ch
  else if c.jump.isNone && s.showOver ch then s.endShow ch
  else
    match c.nextReady with
    | some f => s.presentNext ch f
    | none => s.underrun ch

/-- Whether a holding channel recovers (R145). -/
def Channel.recovers (c : Channel) : Bool :=
  c.config.resume ≤ c.readyCount || (c.assembly.complete && 1 ≤ c.readyCount)

/-- A held deadline without recovery: the count rises, and may suspend (R145). -/
def State.holdOn (s : State) (ch : ChannelId) : State :=
  let stalled := s.modChan ch (fun c => { c with stallCount := min 250 (c.stallCount + 1) })
  if (stalled.chan ch).config.stallLimit ≤ (stalled.chan ch).stallCount then stalled.suspend ch
  else stalled.heldDeadline ch

/-- A deadline in HOLDING, its PRESENTING slot freed (R145, R146). -/
def State.holdingDeadline (s : State) (ch : ChannelId) : State :=
  if (s.chan ch).recovers then
    match (s.chan ch).nextReady with
    | some f =>
      (s.modChan ch (fun c => { c with stallCount := 0, state := .playing })).presentNext ch f
    | none => s.holdOn ch
  else s.holdOn ch

/-- What a deadline does in the channel's state (R114, R120, R123, R145, R147). -/
def State.deadline (s : State) (ch : ChannelId) : State :=
  let freed := s.freePresenting ch
  match (s.chan ch).state with
  | .playing => freed.playingDeadline ch (s.chan ch).isPresenting
  | .paused => freed.pausedDeadline ch
  | .holding => freed.holdingDeadline ch
  | .suspended => freed.suspendedDeadline ch
  | .idle | .loaded | .cueing | .primed | .ended => s

/-! ### Edges of the sample clock (R16, R19, R178) -/

/-- Every lane sends the sample of index j (R168). -/
def Channel.emit (c : Channel) (j : Nat) : Channel :=
  { c with sound := c.sound.edge j (c.timer.period.getD 0) }

/-- The deadline edge: the deadline acts, and the edge carries sample 0 of the period that begins
(R19). -/
def State.deadlineEdge (s : State) (ch : ChannelId) : State :=
  (s.deadline ch).modChan ch (fun c => c.emit 0)

/-- An ordinary edge in RUNNING (R19). -/
def Channel.countEdge (c : Channel) : Channel :=
  ({ c with timer := { c.timer with count := c.timer.count + 1 } }).emit (c.timer.count + 1)

/-- SAMPLE_CLOCK_EDGE (R16, R19, R178). (DESIGN CHOICE, safe: notes/assumptions/33.md). -/
def State.sampleEdge (s : State) (ch : ChannelId) : State :=
  let t := (s.chan ch).timer
  match t.state with
  | .stopped => s.modChan ch (fun c => c.emit 0)
  | .armed => s.deadlineEdge ch
  | .running =>
    if t.period = some (t.count + 1) then s.deadlineEdge ch else s.modChan ch (fun c => c.countEdge)

/-- A number of ordinary edges in RUNNING: the lanes' samples and the count (R19). -/
def edgesOf (r : SoundRouter) (j spf : Nat) : Nat → SoundRouter
  | 0 => r
  | n + 1 => edgesOf (r.edge (j + 1) spf) (j + 1) spf n

/-- The edges that are still missing before a channel's deadline are made (DESIGN CHOICE:
notes/assumptions/25.md). -/
def Channel.runToDeadline (c : Channel) : Channel :=
  let spf := c.timer.period.getD 0
  let missing := spf - 1 - c.timer.count
  { c with
    sound := edgesOf c.sound c.timer.count spf missing
    timer := { c.timer with count := c.timer.count + missing } }

/-- DEADLINE: the channel's timer comes to its deadline (R19, R120). In ARMED the next edge is one; in
STOPPED there is none. -/
def State.reachDeadline (s : State) (ch : ChannelId) : State :=
  match (s.chan ch).timer.state with
  | .stopped => s
  | .armed => s.deadlineEdge ch
  | .running => (s.modChan ch (fun c => c.runToDeadline)).deadlineEdge ch

/-! ### Requests (R115 to R119, R124, R125, R129, R149, R150) -/

/-- What CUE would start: item, its composition and slot, start reel (R116, checks 1 and 2). -/
def State.cueTarget (s : State) (ch : ChannelId) (item reel : Byte) :
    Option (Nat × Composition × Nat × Nat) :=
  let n := if item = 255 then 0 else item.toNat
  match (s.chan ch).item n with
  | none => none
  | some i =>
    match s.composition i.slot.toNat with
    | none => none
    | some c =>
      let r := if reel = 255 then i.entryReel.toNat else reel.toNat
      if r < c.reels.length then some (n, c, i.slot.toNat, r) else none

/-- The channel's own part of an accepted CUE (R117, steps 4 to 7). -/
def Channel.cued (c : Channel) (item reel : Nat) : Channel :=
  { c with
    stallCount := 0, latch := false, refusal := false
    assembly := { c.assembly with counts := UnpackCounts.zero }
    position := some { pos := { item := item, reel := reel, frame := 0 }, presented := false }
    lastRecord := none
    subs := c.subs.cue
    sound := c.sound.cue c.config.sampleRate
    state := .cueing }

/-- An accepted CUE (R117). -/
def State.cue (s : State) (ch : ChannelId) (comp : Composition) (item slot reel : Nat)
    (licence : Option Nat) : State :=
  let flushed := s.modChan ch (fun c => c.fullFlush)
  let restarted := flushed.restartIngest ch
  (restarted.admitAndFetch ch comp item slot reel licence).modChan ch (fun c => c.cued item reel)

/-- CUE (R115, R116, R117). -/
def doCue (channel item reel : Byte) (s : State) : State × Answer :=
  onChannel channel 3 s fun ch =>
    match (s.chan ch).state with
    | .loaded | .ended =>
      match s.cueTarget ch item reel with
      | none => (s, refuse .badValue 3)
      | some (n, comp, slot, r) =>
        match judgeAdmission s comp r with
        | .error st => (s, refuse st 3)
        | .ok licence =>
          let s' := s.cue ch comp n slot r licence
          (s', okReply [byteOf n, byteOf r, (s'.chan ch).epoch])
    | _ => (s, refuse .wrongState 3)

/-- START (R119). -/
def doStart (channel : Byte) (s : State) : State × Answer :=
  onChannel channel 0 s fun ch =>
    match (s.chan ch).state with
    | .primed =>
      (s.modChan ch (fun c =>
          { c with state := .playing, timer := { c.timer with state := .armed, count := 0 } }),
        okReply [])
    | _ => (s, refuse .wrongState 0)

/-- PAUSE (R124). -/
def doPause (channel : Byte) (s : State) : State × Answer :=
  onChannel channel 0 s fun ch =>
    match (s.chan ch).state with
    | .playing | .holding => (s.modChan ch (fun c => { c with state := .paused }), okReply [])
    | _ => (s, refuse .wrongState 0)

/-- RESUME in PAUSED (R125): whether the channel becomes PLAYING. -/
def State.resumesPlaying (s : State) (ch : ChannelId) : Bool :=
  s.showOver ch || (s.chan ch).nextReady.isSome

/-- RESUME (R125, R150). -/
def doResume (channel : Byte) (s : State) : State × Answer :=
  onChannel channel 1 s fun ch =>
    let c := s.chan ch
    match c.state with
    | .paused =>
      if s.resumesPlaying ch then
        (s.modChan ch (fun c => { c with state := .playing, stallCount := 0 }),
          okReply [ChannelState.playing.code])
      else (s.modChan ch (fun c => { c with state := .holding }), okReply [ChannelState.holding.code])
    | .suspended =>
      if c.latch then (s, refuse .stallLatched 1)
      else if c.readyCount < c.config.resume then
        (s, .reply (refusal .notReady ([0, byteOf c.readyCount] ++ leBytes 2 c.config.resume)))
      else (s.modChan ch (fun c => { c with state := .playing }), okReply [ChannelState.playing.code])
    | _ => (s, refuse .wrongState 1)

/-- ACKNOWLEDGE-SUSPENSION (R149). -/
def doAcknowledge (channel : Byte) (s : State) : State × Answer :=
  onChannel channel 3 s fun ch =>
    match (s.chan ch).state with
    | .suspended =>
      (s.modChan ch (fun c => { c with latch := false, stallCount := 0 }),
        okReply (byteOf (s.chan ch).readyCount :: leBytes 2 (s.chan ch).config.resume))
    | _ => (s, refuse .wrongState 3)

/-- A state in which STOP is accepted (R115, R129). -/
def ChannelState.acceptsStop : ChannelState → Bool
  | .cueing | .primed | .playing | .paused | .holding | .suspended => true
  | .idle | .loaded | .ended => false

/-- The outcome that STOP gives (R129). -/
def ChannelState.stopOutcome : ChannelState → LogOutcome
  | .suspended => .suspendedStopped
  | _ => .stopped

/-- The channel's own part of an accepted STOP (R129, steps 2, 4 to 6, 8, 9). -/
def Channel.stopped (c : Channel) : Channel :=
  { (c.fullFlush.sendPicture .black) with
    assembly := c.assembly.idle, timer := FrameTimer.reset, sound := c.sound.stop
    stallCount := 0, latch := false, jump := none, state := .ended }

/-- An accepted STOP (R129). -/
def State.stop (s : State) (ch : ChannelId) : State :=
  let outcome := (s.chan ch).state.stopOutcome
  let ended := (s.chan ch).records.foldl (fun st r => st.endRecord ch outcome r) s
  let raised := ended.raiseEpoch ch
  let halted := raised.sendReturn (.halt ch (raised.chan ch).epoch)
  let dark := halted.modChan ch (fun c => c.stopped)
  let cleared := dark.putSubs ch ((dark.chan ch).subs.endShow ch)
  cleared.raise .showEnded (some ch) (.showEnded .stopped (cleared.chan ch).reportedPosition)

/-- STOP (R115, R129). -/
def doStop (channel : Byte) (s : State) : State × Answer :=
  onChannel channel 0 s fun ch =>
    if (s.chan ch).state.acceptsStop then (s.stop ch, okReply []) else (s, refuse .wrongState 0)

/-! ### CHANNEL-REPORT (R130) -/

/-- A position as bytes: item 1, reel 1, frame 4 (R197). -/
def positionBytes (p : Position) : List Byte := [byteOf p.item, byteOf p.reel] ++ leBytes 4 p.frame

/-- The position group: a presence byte, the position, the presented mark (R130, R197). -/
def reportedPositionBytes : Option ChannelPosition → List Byte
  | some p => [1] ++ positionBytes p.pos ++ [flagByte p.presented]
  | none => List.replicate 8 0

/-- The committed frames still to present (R130, R133). -/
def committedRemaining : Option PendingJump → Nat
  | some (.committed n _ _) => n
  | _ => 0

/-- An admission record in the report (R130). -/
def recordBytes (r : AdmissionRecord) : List Byte :=
  [byteOf r.item, optionalIndex r.licence] ++ optionalField 4 r.countPoint ++ leBytes 4 r.presented ++
    leBytes 4 r.held ++ leBytes 4 r.damaged ++ [flagByte r.charged, flagByte r.chargeable]

/-- The unpacker counts in the report (R64, R130). -/
def countBytes (k : UnpackCounts) : List Byte :=
  leBytes 2 k.order ++ leBytes 2 k.missing ++ leBytes 2 k.keyUnusable ++ leBytes 2 k.check ++
    leBytes 2 k.assembly

/-- The fields of CHANNEL-REPORT's reply (R130). -/
def channelReportBytes (c : Channel) : List Byte :=
  [c.state.code] ++ reportedPositionBytes c.position ++
    [byteOf c.stallCount, flagByte c.latch, byteOf (committedRemaining c.jump), byteOf c.readyCount,
     byteOf c.fillingCount, c.epoch] ++ leBytes 2 c.granted ++ leBytes 2 c.stale ++
    [flagByte c.assembly.complete] ++ countBytes c.assembly.counts ++
    [flagByte c.refusal, byteOf c.records.length] ++ (c.records.map recordBytes).flatten ++
    configBytes c.config

/-- CHANNEL-REPORT (R130). A refused one carries the fixed fields as 0 and no record (R183). -/
def doChannelReport (channel : Byte) (s : State) : State × Answer :=
  onChannel channel 42 s fun ch => (s, okReply (channelReportBytes (s.chan ch)))

end Sys2Proof.Machine
end

