-- ==== Sys2Proof/Machine/Jumps.lean ====
section
/-! DEFINITION. Jumps (file 08): the checks of JUMP, its committed frames, and what its acceptance
does. -/

namespace Sys2Proof.Machine

/-- The number of committed frames a jump finds (R135). -/
def Channel.committedFrames (c : Channel) : Nat :=
  if c.position.any (·.presented) then
    match c.lastRecord, c.presenting with
    | some n, some r => if r.ident = n then c.readyRun n 8 c.present else 0
    | _, _ => 0
  else 0

/-- Whether the target item is the presenting record's item (R134). -/
def Channel.presentsItem (c : Channel) (item : Nat) : Bool := c.presenting.any (fun r => r.item = item)

/-- The fetching record, when it is not the presenting record, is discarded (R137, R138). -/
def State.discardFetching (s : State) (ch : ChannelId) : State :=
  (s.chan ch).records.tail.foldl (fun st r => st.discardRecord ch r) s

/-- The presenting record loses its chargeable flag and its reservation (R97, R100). -/
def State.uncharge (s : State) (ch : ChannelId) (r : AdmissionRecord) : State :=
  (s.releaseReservation r).modRecord ch r.ident (fun x => { x with chargeable := false })

/-- The releases that a jump to another item makes before its admission is judged (R97): `committed` is
the number of its committed frames. (DEDUCED, unsafe: notes/assumptions/30.md). -/
def State.jumpReleases (s : State) (ch : ChannelId) (committed : Nat) : State :=
  let discarded := s.discardFetching ch
  match (s.chan ch).presenting with
  | none => discarded
  | some r =>
    let freed := discarded.uncharge ch r
    if committed = 0 && r.presented = 0 then freed.discardRecord ch { r with chargeable := false }
    else freed

/-- The presenting record of a jump to another item closes at acceptance when it has presented frames
and none is committed (R137). -/
def State.closeLeft (s : State) (ch : ChannelId) (committed : Nat) : State :=
  match (s.chan ch).presenting with
  | some r => if committed = 0 then s.closeRecord ch r .jumpedAway else s
  | none => s

/-- Ring and port (R136, steps 2 and 3). -/
def State.jumpFlush (s : State) (ch : ChannelId) (committed : Nat) : State :=
  (s.modChan ch (fun c => c.flushAfter committed)).raiseEpoch ch

/-- The records and the FETCH of a jump to another item (R136 steps 1 to 4, R137), its admission judged
against the state that its releases leave. -/
def State.jumpAway (s : State) (ch : ChannelId) (comp : Composition) (item slot reel committed : Nat) :
    Except Status State :=
  let released := s.jumpReleases ch committed
  match judgeAdmission released comp reel with
  | .error st => .error st
  | .ok licence =>
    .ok (((released.closeLeft ch committed).jumpFlush ch committed).admitAndFetch ch comp item slot reel
      licence)

/-- The records and the FETCH of a jump within the presenting record's item (R136 steps 1 to 4,
R138). -/
def State.jumpWithin (s : State) (ch : ChannelId) (r : AdmissionRecord) (reel committed : Nat) : State :=
  ((s.discardFetching ch).jumpFlush ch committed).beginFetch ch r reel

/-- Whether a jump sets the position to its target (R136, step 7): in CUEING, in PRIMED, and in PLAYING
before the first edge. (DEDUCED, unsafe: notes/assumptions/31.md). -/
def Channel.notBegun (c : Channel) : Bool :=
  c.state = .cueing || c.state = .primed || (c.state = .playing && c.timer.state = .armed)

/-- The pending jump that an accepted JUMP creates (R133). -/
def PendingJump.create (committed item reel : Nat) : PendingJump :=
  if committed = 0 then .targetWait item reel else .committed committed item reel

/-- Pending jump, refusal mark, position, state and subtitles (R136, steps 5 to 8). -/
def Channel.jumped (c : Channel) (item reel committed : Nat) : Channel :=
  { c with
    jump := some (PendingJump.create committed item reel)
    refusal := false
    position :=
      if c.notBegun then
        some { pos := { item := item, reel := reel, frame := 0 }, presented := false }
      else c.position
    state := if c.state = .cueing || c.state = .primed then .cueing else c.state
    subs := c.subs.jumpPoint }

/-- The composition and slot of a jump's target, when its item and reel are in range (R134, check 4). -/
def State.jumpTarget (s : State) (ch : ChannelId) (item reel : Nat) : Option (Composition × Nat) :=
  match (s.chan ch).item item with
  | none => none
  | some i =>
    match s.composition i.slot.toNat with
    | none => none
    | some c => if reel < c.reels.length then some (c, i.slot.toNat) else none

/-- A state in which JUMP is judged further (R134, check 2). -/
def ChannelState.judgesJump : ChannelState → Bool
  | .cueing | .primed | .playing | .paused | .holding => true
  | .idle | .loaded | .suspended | .ended => false

/-- Check 5 (R134): a reel before the presenting record's entry reel, in its item. -/
def Channel.beforeEntry (c : Channel) (item reel : Nat) : Bool :=
  c.presenting.any (fun r => r.item = item && reel < r.entryReel)

/-- Checks 6 and acceptance (R134, R136): the state after an accepted JUMP, or the refusal. -/
def State.jump (s : State) (ch : ChannelId) (comp : Composition) (slot item reel : Nat) :
    Except Status State :=
  let c := s.chan ch
  let committed := c.committedFrames
  let finish := fun (st : State) => st.modChan ch (fun k => k.jumped item reel committed)
  match c.presenting with
  | some r =>
    if r.item = item then .ok (finish (s.jumpWithin ch r reel committed))
    else (s.jumpAway ch comp item slot reel committed).map finish
  | none => (s.jumpAway ch comp item slot reel committed).map finish

/-- JUMP (R134, R136). -/
def doJump (channel item reel : Byte) (s : State) : State × Answer :=
  onChannel channel 3 s fun ch =>
    let c := s.chan ch
    if !c.state.judgesJump then (s, refuse .wrongState 3)
    else if isCommitted c.jump then (s, refuse .busy 3)
    else
      match s.jumpTarget ch item.toNat reel.toNat with
      | none => (s, refuse .badValue 3)
      | some (comp, slot) =>
        if c.beforeEntry item.toNat reel.toNat then (s, refuse .badValue 3)
        else
          match s.jump ch comp slot item.toNat reel.toNat with
          | .error st => (s, refuse st 3)
          | .ok s' =>
            (s', okReply [byteOf c.committedFrames, (s'.chan ch).epoch, (s'.chan ch).state.code])

end Sys2Proof.Machine
end

