-- ==== Sys2Proof/Machine/Notices.lean ====
section
/-! DEFINITION. The requests of file 12: IDENTIFY, STATUS, CLEAR-RESET-CAUSE, SOFT-RESET, READ-NOTICES,
CLEAR-NOTICES and MASK-NOTICES. -/

namespace Sys2Proof.Machine

/-! ### Identity, status and reset (R186 to R188) -/

/-- IDENTIFY (R188). -/
def doIdentify (s : State) : State × Answer :=
  (s, okReply (leBytes 2 Config.deviceCode ++ [byteOf Config.revision] ++
    leBytes 8 Config.serialNumber.toNat ++ [2, 32, 64] ++ leBytes 2 256 ++ [128] ++ leBytes 2 2048))

/-- The number of licences that are not EMPTY (R188). -/
def State.licenceCount (s : State) : Nat := s.licences.countP (·.isSome)

/-- STATUS (R188). -/
def doStatus (s : State) : State × Answer :=
  (s, okReply [s.cause.byte, flagByte s.clock.set, byteOf s.freeLog, byteOf s.notices.length,
    byteOf s.unmaskedCount, s.chanA.state.code, s.chanB.state.code, byteOf s.licenceCount])

/-- CLEAR-RESET-CAUSE (R187). -/
def doClearResetCause (mask : Byte) (s : State) : State × Answer :=
  if 15 < mask.toNat then (s, refuse .badValue 2)
  else ({ s with cause := s.cause.clear mask }, okReply [s.cause.byte, (s.cause.clear mask).byte])

/-- SOFT-RESET: its reply, after which the reset acts (R186). -/
def doSoftReset (s : State) : State × Answer := (s, .replyThenReset [Status.ok.code])

/-! ### READ-NOTICES (R192) -/

/-- A channel as a notice names it: 255 for none (R193). -/
def noticeChannelByte : Option ChannelId → Byte
  | some ch => ch.number
  | none => 255

/-- A position in a detail (R197). -/
def detailPosition (p : Position) : List Byte := [byteOf p.item, byteOf p.reel] ++ leBytes 4 p.frame

/-- The detail of an entry, in the fields of its raising rule (R190, R197). The twelve reason counts of
CUE-DROPPED stand without a number byte. (DESIGN CHOICE, unsafe: notes/assumptions/43.md). -/
def NoticeDetail.bytes : NoticeDetail → List Byte
  | .none => []
  | .suspended p ready limit => detailPosition p ++ [byteOf ready] ++ leBytes 2 limit
  | .admissionRefused item st => [byteOf item, st.code]
  | .resetOccurred kind flags => [kind.code, flags.byte]
  | .underrun p awaited => detailPosition p ++ [awaited.code]
  | .ingestOverrun blocks granted => byteOf blocks :: leBytes 2 granted
  | .ingestFault reason => [reason.code]
  | .frameDamaged p kind cause => detailPosition p ++ [kind.code, cause.code]
  | .linkFault reason => [reason.code]
  | .channelPrimed ready p => byteOf ready :: detailPosition p
  | .licenceClosing index id => byteOf index :: leBytes 8 id.toNat
  | .showEnded reason p => reason.code :: detailPosition p
  | .cueDropped first counts =>
    [byteOf first.reason.index, first.track] ++ leBytes 2 first.number.toNat ++
      [byteOf first.item, byteOf first.reel] ++ (counts.map (leBytes 2)).flatten
  | .showCounted item seq licence => byteOf item :: leBytes 4 seq ++ [optionalIndex licence]

/-- An entry as READ-NOTICES gives it (R192). -/
def Notice.bytes (masks : BitVec 15) (n : Notice) : List Byte :=
  [byteOf n.kind.code, noticeChannelByte n.channel, byteOf n.kind.level,
   if n.kind.latched then 0 else 1, flagByte (maskedBy masks n.kind), byteOf n.repeats] ++
    n.detail.bytes

/-- The place of an entry in READ-NOTICES: by level, highest first, then by kind code, then by channel,
A before B (R192). -/
def Notice.rank (n : Notice) : Nat :=
  ((7 - n.kind.level) * 16 + n.kind.code) * 3 +
    (match n.channel with
     | none => 0
     | some .a => 1
     | some .b => 2)

/-- An entry inserted by rank. -/
def insertNotice (n : Notice) : List Notice → List Notice
  | [] => [n]
  | m :: rest => if n.rank ≤ m.rank then n :: m :: rest else m :: insertNotice n rest

/-- The entries in the order of READ-NOTICES (R192). -/
def sortNotices : List Notice → List Notice
  | [] => []
  | n :: rest => insertNotice n (sortNotices rest)

/-- READ-NOTICES (R192). -/
def doReadNotices (s : State) : State × Answer :=
  (s, okReply ([byteOf s.notices.length, byteOf s.unmaskedCount] ++
    ((sortNotices s.notices).map (Notice.bytes s.masks)).flatten))

/-! ### CLEAR-NOTICES and MASK-NOTICES (R191, R193) -/

/-- A pair in range: a kind code of 1 to 15, and channel 0, 1 or 255 (R193, check 4). -/
def NoticePair.ok (p : NoticePair) : Bool :=
  1 ≤ p.kind.toNat && p.kind.toNat ≤ 15 && (p.channel = 0 || p.channel = 1 || p.channel = 255)

/-- Whether a pair names an entry. -/
def NoticePair.names (p : NoticePair) (n : Notice) : Bool :=
  n.kind.code = p.kind.toNat && noticeChannelByte n.channel = p.channel

/-- The set after a clear of the latched entries that satisfy a test, with its reply (R193). -/
def State.clearLatched (s : State) (test : Notice → Bool) : State × Answer :=
  let kept := s.notices.filter (fun n => !(n.kind.latched && test n))
  let s' := s.setNotices kept
  (s', okReply [byteOf (s.notices.length - kept.length), byteOf kept.length, byteOf s'.unmaskedCount])

/-- CLEAR-NOTICES (R193). -/
def doClearNotices (mode : Byte) (pairs : List NoticePair) (s : State) : State × Answer :=
  if mode = 0 then
    if pairs.isEmpty then s.clearLatched (fun _ => true) else (s, .reply badLengthReply)
  else if mode = 1 then
    if pairs.length < 1 ∨ 24 < pairs.length ∨ !pairs.all NoticePair.ok then (s, refuse .badValue 3)
    else s.clearLatched (fun n => pairs.any (fun p => NoticePair.names p n))
  else (s, refuse .badValue 3)

/-- The masks after a change (R191). -/
def changedMasks (masks : BitVec 15) (value change : Half) : BitVec 15 :=
  (masks &&& ~~~(change.setWidth 15)) ||| (value.setWidth 15 &&& change.setWidth 15)

/-- The masks replaced; ATTN follows (R191). -/
def State.setMasks (s : State) (masks : BitVec 15) : State :=
  { s with masks := masks, attn := attnOf masks s.notices }

/-- MASK-NOTICES (R191). -/
def doMaskNotices (value change : Half) (s : State) : State × Answer :=
  if value.msb ∨ change.msb then (s, refuse .badValue 5)
  else
    let s' := s.setMasks (changedMasks s.masks value change)
    (s', okReply (leBytes 2 s.masks.toNat ++ leBytes 2 s'.masks.toNat ++ [byteOf s'.unmaskedCount]))

end Sys2Proof.Machine
end

