-- ==== Sys2Proof/Machine/Reset.lean ====
section
/-! DEFINITION. Resets and main power (00_scope "Resets"; R15, R50, R51, R91, R92, R110, R131, R166, R167,
R185, R187, R194): what the retained domain keeps, what start-up settles, and what it sends. -/

namespace Sys2Proof.Machine

/-! ### The retained domain at start-up (R91, R110) -/

/-- A licence as start-up settles it (R91). -/
def Licence.settled (l : Licence) : Licence :=
  match l.state with
  | .closing => { l with reserved := 0, pins := 0, state := .closed }
  | .revoking => { l with reserved := 0, pins := 0, state := .revoked, keys := [] }
  | _ => { l with reserved := 0, pins := 0 }

/-- The key slots that start-up erases: those of the REVOKING licences (R75, R91). -/
def erasedAtStartup (licences : List (Option Licence)) : List Nat :=
  (licences.map (fun o =>
    match o with
    | some l => if l.state = .revoking then l.keys else []
    | none => [])).flatten

/-- A log record as start-up settles it: an OPEN one closes INTERRUPTED, or is discarded when it has no
first-frame time (R110). -/
def LogRecord.settled (r : LogRecord) (now : Nat) : Option LogRecord :=
  if r.closed then some r
  else if r.firstFrame.isSome then
    some { r with ended := some now, outcome := some .interrupted, closed := true }
  else none

/-- The retained domain settled at start-up, windows evaluated, and the log settled (R91, R110). -/
def State.settle (s : State) : State :=
  let tables : State :=
    { s with
      licences := s.licences.map (fun o => o.map Licence.settled)
      keys := eraseKeySlots s.keys (erasedAtStartup s.licences) }
  let judged := tables.evaluateWindows
  { judged with log := judged.log.filterMap (fun r => r.settled judged.clock.time) }

/-- The retained domain lost (R91, R92, R110). -/
def State.loseRetained (s : State) : State :=
  { s with
    licences := List.replicate 64 none
    keys := List.replicate 256 none
    clock := BoothClock.lost
    log := []
    nextSeq := 1 }

/-! ### Everything else (R15, R50, R51, R131, R166, R167, R185, R194) -/

/-- Everything outside the retained domain as a reset leaves it, with nothing sent yet. The commands that
wait are the model's own and stay. (DESIGN CHOICE, unsafe: notes/assumptions/40.md). -/
def State.clearVolatile (s : State) : State :=
  { s with
    link := CommandLink.reset
    notices := []
    masks := 0
    attn := false
    compositions := List.replicate 32 none
    path := { rx := .hunt, held := [] }
    returns := []
    returnOut := none
    work := none
    lastServed := .b
    subtitlePort := []
    chanA := Channel.reset
    chanB := Channel.reset }

/-- What start-up sends on the return path and the subtitle port (R50, R166). Both picture links send
BLACK, which the reset value of their message holds (R131). -/
def State.sendStartup (s : State) : State :=
  { s with returns := startupReturns, subtitlePort := startupClears }

/-- The notices of start-up, as one action (R194). -/
def State.startupNotices (s : State) (kind : ResetKind) : State :=
  ((s.raise .resetOccurred none (.resetOccurred kind s.cause)).refreshClockUnset).refreshLogLow

/-- The start-up of a reset of a given kind. -/
def State.startUp (s : State) (kind : ResetKind) : State :=
  let cleared := { s.clearVolatile with powered := true }
  let retained :=
    match kind with
    | .retainedLoss => cleared.loseRetained
    | .mainPowerUp | .pin | .softReset => cleared.settle
  ({ retained with cause := retained.cause.after kind }.sendStartup).startupNotices kind

/-- Main power falls (R91): the retained domain keeps its values and everything else is gone. -/
def State.powerDown (s : State) : State := { s.clearVolatile with powered := false }

end Sys2Proof.Machine
end

