-- ==== Sys2Proof/Machine/Link.lean ====
section
/-! DEFINITION. The command link controller (R179 to R186): the byte receiver, the execution place and
the waiting place, what is sent, and how a request is performed. -/

namespace Sys2Proof.Machine

/-! ### Frames on the link (R179) -/

/-- The SYNC byte (R179). -/
def syncByte : Byte := 0xC5

/-- A frame of either direction of the link (R179, R196): SYNC, LENGTH, TAG, KIND, BODY and CHECK. -/
def linkFrame (tag kind : Byte) (body : List Byte) : List Byte :=
  let content := leBytes 2 (body.length + 2) ++ [tag, kind] ++ body
  syncByte :: content ++ leBytes 2 (crc16 content).toNat

/-! ### What the part sends (R184) -/

/-- The link controller changed. -/
def State.modLink (s : State) (f : CommandLink → CommandLink) : State := { s with link := f s.link }

/-- The messages of the outgoing list that are no reply of an executed request (R184). (DEDUCED, unsafe:
notes/assumptions/28.md). -/
def CommandLink.waitingMessages (l : CommandLink) : Nat := l.outgoing.countP (fun m => !m.isReply)

/-- A LINK-FAULT raise (R184). -/
def State.raiseLinkFault (s : State) (reason : LinkFaultReason) : State :=
  s.raise .linkFault none (.linkFault reason)

/-- A BUSY reply or FRAME-FAULT report: it waits among at most 16, or is dropped (R184). -/
def State.sendMessage (s : State) (tag kind : Byte) (body : List Byte) : State :=
  if s.link.waitingMessages < 16 then
    s.modLink (fun l =>
      { l with outgoing := l.outgoing ++ [{ isReply := false, tag := tag, kind := kind, body := body }] })
  else s.raiseLinkFault .reportDropped

/-- A fault of the receiver: a LINK-FAULT raise and a FRAME-FAULT report with tag 0 and kind 0xFF (R184).
(DEDUCED, unsafe: notes/assumptions/35.md). -/
def State.linkFault (s : State) (reason : LinkFaultReason) : State :=
  (s.raiseLinkFault reason).sendMessage 0 0xFF [reason.code]

/-- The request in execution answers: its reply is produced, and it keeps its place until that reply has
been sent (R182, R184). -/
def State.reply (s : State) (tag kind replyKind : Byte) (stage : ExecStage) (body : List Byte) : State :=
  s.modLink (fun l =>
    { l with
      executing := some { tag := tag, kind := kind, stage := stage }
      outgoing := l.outgoing ++ [{ isReply := true, tag := tag, kind := replyKind, body := body }] })

/-! ### Performing a request (R183, check 4) -/

/-- The action of a request and its answer. -/
def perform (r : Request) (s : State) : State × Answer :=
  match r with
  | .identify => doIdentify s
  | .status => doStatus s
  | .softReset => doSoftReset s
  | .clearResetCause mask => doClearResetCause mask s
  | .configureChannel ch rate priming resume stall => doConfigureChannel ch rate priming resume stall s
  | .setTracks ch value mask => doSetTracks ch value mask s
  | .setRoute ch lanes => doSetRoute ch lanes s
  | .setStyle ch style handle minimum => doSetStyle ch style handle minimum s
  | .setSubtitleOffset ch track offset => doSetSubtitleOffset ch track offset s
  | .channelReport ch => doChannelReport ch s
  | .loadComposition c => doLoadComposition c s
  | .dropComposition slot => doDropComposition slot s
  | .readComposition slot => doReadComposition slot s
  | .loadShow ch items => doLoadShow ch items s
  | .clearShow ch => doClearShow ch s
  | .cue ch item reel => doCue ch item reel s
  | .start ch => doStart ch s
  | .pause ch => doPause ch s
  | .resume ch => doResume ch s
  | .stop ch => doStop ch s
  | .jump ch item reel => doJump ch item reel s
  | .acknowledgeSuspension ch => doAcknowledge ch s
  | .loadLicence l => doLoadLicence l s
  | .revokeLicence i => doRevokeLicence i s
  | .deleteLicence i => doDeleteLicence i s
  | .readLicence i => doReadLicence i s
  | .counterOp i op value => doCounterOp i op value s
  | .setTime t => doSetTime t s
  | .adjustTime d => doAdjustTime d s
  | .readTime => doReadTime s
  | .readLog n => doReadLog n s
  | .releaseLog n oldest => doReleaseLog n oldest s
  | .readNotices => doReadNotices s
  | .clearNotices mode pairs => doClearNotices mode pairs s
  | .maskNotices value change => doMaskNotices value change s

/-- The reply kind of a request kind (R183, R196). -/
def replyKind (kind : Byte) : Byte := kind + 0x80

/-- What an answer does to the link (R182, R186, R78). -/
def State.answer (s : State) (tag kind : Byte) (a : Answer) : State :=
  match a with
  | .reply body => s.reply tag kind (replyKind kind) .replying body
  | .replyThenReset body => s.reply tag kind (replyKind kind) .softReset body
  | .unwrap load =>
    s.modLink (fun l =>
      { l with executing := some { tag := tag, kind := kind, stage := .unwrapping load } })

/-- A request enters execution with its kind known and its body read (R183, checks 2 and 4). -/
def enterRequest (tag : Byte) (r : Request) (s : State) : State :=
  let kind := (requestKind r).code
  if tag = 0 then s.answer tag kind (.reply [Status.badValue.code])
  else
    let done := perform r s
    done.1.answer tag kind done.2

/-- A frame enters execution and is judged (R183). -/
def executeFrame (f : CommandFrame) (s : State) : State :=
  match requestKindOf f.kind with
  | none => s.reply f.tag f.kind 0xFE .replying [Status.unknownKind.code, f.kind]
  | some kind =>
    if f.tag = 0 then s.answer f.tag f.kind (.reply [Status.badValue.code])
    else
      match parseBody kind f.body with
      | .refused body => s.answer f.tag f.kind (.reply body)
      | .request r => enterRequest f.tag r s

/-- The kind of a BUSY reply (R183). -/
def busyKind (kind : Byte) : Byte := if (requestKindOf kind).isSome then replyKind kind else 0xFE

/-- A frame that finds the execution place full: it waits, or is answered BUSY and discarded (R182). -/
def holdFrame (f : CommandFrame) (s : State) : State :=
  match s.link.waiting with
  | none => s.modLink (fun l => { l with waiting := some f })
  | some _ => s.sendMessage f.tag (busyKind f.kind) [Status.busy.code]

/-- The placement of a complete frame (R182). -/
def placeFrame (f : CommandFrame) (s : State) : State :=
  match s.link.executing with
  | none => executeFrame f s
  | some _ => holdFrame f s

/-- A request frame whose command is named: it enters execution at once when the execution place is
empty, and is placed as its frame otherwise (R182). (DESIGN CHOICE, safe: notes/assumptions/23.md). -/
def submit (tag : Byte) (r : Request) (s : State) : State :=
  match s.link.executing with
  | none => enterRequest tag r s
  | some _ => holdFrame (requestFrame tag r) s

/-! ### The byte receiver (R179 to R181) -/

/-- The receiver's own state replaced. -/
def State.setReceiver (s : State) (rx : LinkState) (held : List Byte) (stray : StrayRun) : State :=
  s.modLink (fun l => { l with rx := rx, held := held, stray := stray })

/-- What a byte discarded in HUNT makes of the stray run (R180). -/
def StrayRun.discard : StrayRun → StrayRun
  | .none | .run => .run
  | .afterFault | .faultRun => .faultRun

/-- A byte in HUNT (R180). -/
def State.huntByte (s : State) (b : Byte) : State :=
  if b = syncByte then
    let synced := s.setReceiver .length [] .none
    if s.link.stray = .run then synced.linkFault .stray else synced
  else s.setReceiver .hunt [] s.link.stray.discard

/-- The search from the first LENGTH byte after a LENGTH fault (R180): a SYNC among the two bytes is
found. -/
def State.searchLength (s : State) (b0 b1 : Byte) : State :=
  if b0 = syncByte then s.setReceiver .length [b1] .none
  else if b1 = syncByte then s.setReceiver .length [] .none
  else s.setReceiver .hunt [] .faultRun

/-- A byte in LENGTH (R180). -/
def State.lengthByte (s : State) (b : Byte) : State :=
  match s.link.held with
  | [] => s.setReceiver .length [b] .none
  | b0 :: _ =>
    let n := leNat [b0, b]
    if n < 2 ∨ 2050 < n then (s.linkFault .length).searchLength b0 b
    else s.setReceiver .frame [b0, b] .none

/-- The frame in LENGTH and FRAME bytes whose CHECK matches (R179, R196). -/
def frameOf (held : List Byte) : CommandFrame :=
  { tag := byteAt held 2, kind := byteAt held 3, body := (held.drop 4).take (fieldAt held 0 2 - 2) }

/-- Whether the CHECK of held bytes matches (R179, R195). -/
def checkMatches (held : List Byte) : Bool :=
  fieldAt held (2 + fieldAt held 0 2) 2 = (crc16 (held.take (2 + fieldAt held 0 2))).toNat

/-- A byte in FRAME (R180). -/
def State.frameByte (s : State) (b : Byte) : State :=
  let held := s.link.held ++ [b]
  if held.length < 4 + fieldAt held 0 2 then s.setReceiver .frame held .none
  else if checkMatches held then placeFrame (frameOf held) (s.setReceiver .hunt [] .none)
  else (s.setReceiver .hunt [] .afterFault).linkFault .check

/-- One byte on the command link (R180). -/
def State.takeLinkByte (s : State) (b : Byte) : State :=
  match s.link.rx with
  | .hunt => s.huntByte b
  | .length => s.lengthByte b
  | .frame => s.frameByte b

/-- Bytes on the command link, in order. -/
def State.takeLinkBytes (s : State) (bytes : List Byte) : State := bytes.foldl State.takeLinkByte s

/-- 5 ms of silence (R181). -/
def State.linkSilence (s : State) : State :=
  match s.link.rx with
  | .length | .frame => (s.setReceiver .hunt [] .none).linkFault .timeout
  | .hunt =>
    match s.link.stray with
    | .run => (s.setReceiver .hunt [] .none).linkFault .stray
    | .faultRun => s.setReceiver .hunt [] .none
    | .none | .afterFault => s

/-! ### Sent messages and the unwrap (R78, R182, R184, R186) -/

/-- The message that is being sent: the oldest produced and not yet wholly sent. -/
def CommandLink.sending (l : CommandLink) : Option LinkMessage := l.outgoing.head?

/-- The bytes of a message on the link (R179, R196). -/
def LinkMessage.bytes (m : LinkMessage) : List Byte := linkFrame m.tag m.kind m.body

/-- The message being sent is wholly sent. Its bytes stay in `sent`. (DESIGN CHOICE, safe:
notes/assumptions/7.md). -/
def State.popOutgoing (s : State) : State :=
  s.modLink (fun l =>
    { l with outgoing := l.outgoing.drop 1, sent := l.sending.map LinkMessage.bytes })

/-- The execution place empties, and the waiting frame, if there is one, enters execution (R182). -/
def State.emptyPlace (s : State) : State :=
  let emptied := s.modLink (fun l => { l with executing := none, waiting := none })
  match s.link.waiting with
  | some f => executeFrame f emptied
  | none => emptied

/-- The last byte of the reply of the request in execution is sent (R182, R186). -/
def State.replySent (s : State) : State :=
  match s.link.executing, s.link.sending with
  | some e, some m =>
    if m.isReply then
      match e.stage with
      | .replying => s.popOutgoing.emptyPlace
      | .softReset => s.startUp .softReset
      | .unwrapping _ => s
    else s
  | _, _ => s

/-- The last byte of a BUSY reply or FRAME-FAULT report is sent (R184). -/
def State.messageSent (s : State) : State :=
  match s.link.sending with
  | some m => if m.isReply then s else s.popOutgoing
  | none => s

/-- The key unwrap of the LOAD-LICENCE in execution ends (R78, R79). -/
def State.unwrapComplete (s : State) (passes : List Bool) : State :=
  match s.link.executing with
  | some e =>
    match e.stage with
    | .unwrapping load =>
      let done := completeLicence load (unwrappedMaterials load passes) s
      done.1.reply e.tag e.kind (replyKind e.kind) .replying done.2
    | .replying | .softReset => s
  | none => s

/-- The subtitle port finishes sending its oldest event (R162). -/
def State.portSent (s : State) : State := { s with subtitlePort := s.subtitlePort.drop 1 }

end Sys2Proof.Machine
end

