-- ==== Sys2Proof/Machine/Requests.lean ====
section
/-! DEFINITION. The meanings of the request rows: each places its request on the link controller, whose
execution place performs it (R182, R183). Without main power a command has no effect
(notes/assumptions/12.md). -/

namespace Sys2Proof.Machine

/-- A command that needs main power (notes/assumptions/12.md). -/
def whenPowered (s after : State) : Host.Outcome State Fault Refusal :=
  .next (if s.powered then after else s)

/-- A request whose frame is complete (R182). -/
def request (tag : Byte) (r : Request) (s : State) : Host.Outcome State Fault Refusal :=
  whenPowered s (submit tag r s)

/-- IDENTIFY (R188). -/
def execIdentify (tag : Byte) (s : State) :
    Host.Outcome State Fault Refusal :=
  request tag .identify s

/-- STATUS (R188). -/
def execStatus (tag : Byte) (s : State) :
    Host.Outcome State Fault Refusal :=
  request tag .status s

/-- SOFT-RESET (R186). -/
def execSoftReset (tag : Byte) (s : State) :
    Host.Outcome State Fault Refusal :=
  request tag .softReset s

/-- CLEAR-RESET-CAUSE (R187). -/
def execClearResetCause (tag mask : Byte) (s : State) :
    Host.Outcome State Fault Refusal :=
  request tag (.clearResetCause mask) s

/-- CONFIGURE-CHANNEL (R14). -/
def execConfigureChannel (tag channel : Byte) (sampleRate : Word) (priming resume stallLimit : Half)
    (s : State) :
    Host.Outcome State Fault Refusal :=
  request tag (.configureChannel channel sampleRate priming resume stallLimit) s

/-- SET-TRACKS (R158). -/
def execSetTracks (tag channel value mask : Byte) (s : State) :
    Host.Outcome State Fault Refusal :=
  request tag (.setTracks channel value mask) s

/-- SET-ROUTE (R169). -/
def execSetRoute (tag channel : Byte) (lanes : List LaneEntry) (s : State) :
    Host.Outcome State Fault Refusal :=
  request tag (.setRoute channel lanes) s

/-- SET-STYLE (R157). -/
def execSetStyle (tag channel style : Byte) (handle : Half) (minimum : Byte) (s : State) :
    Host.Outcome State Fault Refusal :=
  request tag (.setStyle channel style handle minimum) s

/-- SET-SUBTITLE-OFFSET (R159). -/
def execSetSubtitleOffset (tag channel track : Byte) (offset : Half) (s : State) :
    Host.Outcome State Fault Refusal :=
  request tag (.setSubtitleOffset channel track offset) s

/-- CHANNEL-REPORT (R130). -/
def execChannelReport (tag channel : Byte) (s : State) :
    Host.Outcome State Fault Refusal :=
  request tag (.channelReport channel) s

/-- LOAD-COMPOSITION (R3, R4). -/
def execLoadComposition (tag : Byte) (record : Composition) (s : State) :
    Host.Outcome State Fault Refusal :=
  request tag (.loadComposition record) s

/-- DROP-COMPOSITION (R5). -/
def execDropComposition (tag slot : Byte) (s : State) :
    Host.Outcome State Fault Refusal :=
  request tag (.dropComposition slot) s

/-- READ-COMPOSITION (R6). -/
def execReadComposition (tag slot : Byte) (s : State) :
    Host.Outcome State Fault Refusal :=
  request tag (.readComposition slot) s

/-- LOAD-SHOW (R8, R9). -/
def execLoadShow (tag channel : Byte) (items : List ShowItem) (s : State) :
    Host.Outcome State Fault Refusal :=
  request tag (.loadShow channel items) s

/-- CLEAR-SHOW (R10). -/
def execClearShow (tag channel : Byte) (s : State) :
    Host.Outcome State Fault Refusal :=
  request tag (.clearShow channel) s

/-- CUE (R116, R117). -/
def execCue (tag channel item reel : Byte) (s : State) :
    Host.Outcome State Fault Refusal :=
  request tag (.cue channel item reel) s

/-- START (R119). -/
def execStart (tag channel : Byte) (s : State) :
    Host.Outcome State Fault Refusal :=
  request tag (.start channel) s

/-- PAUSE (R124). -/
def execPause (tag channel : Byte) (s : State) :
    Host.Outcome State Fault Refusal :=
  request tag (.pause channel) s

/-- RESUME (R125, R150). -/
def execResume (tag channel : Byte) (s : State) :
    Host.Outcome State Fault Refusal :=
  request tag (.resume channel) s

/-- STOP (R129). -/
def execStop (tag channel : Byte) (s : State) :
    Host.Outcome State Fault Refusal :=
  request tag (.stop channel) s

/-- JUMP (R134, R136). -/
def execJump (tag channel item reel : Byte) (s : State) :
    Host.Outcome State Fault Refusal :=
  request tag (.jump channel item reel) s

/-- ACKNOWLEDGE-SUSPENSION (R149). -/
def execAcknowledgeSuspension (tag channel : Byte) (s : State) :
    Host.Outcome State Fault Refusal :=
  request tag (.acknowledgeSuspension channel) s

/-- LOAD-LICENCE (R76 to R78). -/
def execLoadLicence (tag : Byte) (load : LicenceLoad) (s : State) :
    Host.Outcome State Fault Refusal :=
  request tag (.loadLicence load) s

/-- REVOKE-LICENCE (R80). -/
def execRevokeLicence (tag index : Byte) (s : State) :
    Host.Outcome State Fault Refusal :=
  request tag (.revokeLicence index) s

/-- DELETE-LICENCE (R82). -/
def execDeleteLicence (tag index : Byte) (s : State) :
    Host.Outcome State Fault Refusal :=
  request tag (.deleteLicence index) s

/-- READ-LICENCE (R83). -/
def execReadLicence (tag index : Byte) (s : State) :
    Host.Outcome State Fault Refusal :=
  request tag (.readLicence index) s

/-- COUNTER-OP with operation READ (R84). -/
def execCounterOpRead (tag index : Byte) (value : Half) (s : State) :
    Host.Outcome State Fault Refusal :=
  request tag (.counterOp index 0 value) s

/-- COUNTER-OP with operation RAISE-CAP (R85). -/
def execRaiseCap (tag index : Byte) (value : Half) (s : State) :
    Host.Outcome State Fault Refusal :=
  request tag (.counterOp index 1 value) s

/-- COUNTER-OP with operation LOWER-CAP (R85). -/
def execLowerCap (tag index : Byte) (value : Half) (s : State) :
    Host.Outcome State Fault Refusal :=
  request tag (.counterOp index 2 value) s

/-- SET-TIME (R87). -/
def execSetTime (tag : Byte) (time : Word) (s : State) :
    Host.Outcome State Fault Refusal :=
  request tag (.setTime time) s

/-- ADJUST-TIME (R88). -/
def execAdjustTime (tag : Byte) (amount : Half) (s : State) :
    Host.Outcome State Fault Refusal :=
  request tag (.adjustTime amount) s

/-- READ-TIME (R89). -/
def execReadTime (tag : Byte) (s : State) :
    Host.Outcome State Fault Refusal :=
  request tag .readTime s

/-- READ-LOG (R108). -/
def execReadLog (tag count : Byte) (s : State) :
    Host.Outcome State Fault Refusal :=
  request tag (.readLog count) s

/-- RELEASE-LOG (R109). -/
def execReleaseLog (tag count : Byte) (oldest : Word) (s : State) :
    Host.Outcome State Fault Refusal :=
  request tag (.releaseLog count oldest) s

/-- READ-NOTICES (R192). -/
def execReadNotices (tag : Byte) (s : State) :
    Host.Outcome State Fault Refusal :=
  request tag .readNotices s

/-- CLEAR-NOTICES (R193). -/
def execClearNotices (tag mode : Byte) (pairs : List NoticePair) (s : State) :
    Host.Outcome State Fault Refusal :=
  request tag (.clearNotices mode pairs) s

/-- MASK-NOTICES (R191). -/
def execMaskNotices (tag : Byte) (value change : Half) (s : State) :
    Host.Outcome State Fault Refusal :=
  request tag (.maskNotices value change) s

end Sys2Proof.Machine
end

