-- ==== Sys2Proof/Machine/Events.lean ====
section
/-! DEFINITION. The meanings of the event rows: the two byte receivers, the link's and the ports' sending,
resets and power, the unpacker, deadlines and sample edges, the booth clock and the key unwrap. A byte row
feeds its bytes to its receiver (notes/assumptions/27.md). -/

namespace Sys2Proof.Machine

/-- COMMAND_FRAME_COMPLETED (R180, R182): the bytes of a frame, taken one by one. -/
def execCommandFrameCompleted (bytes : List Byte) (s : State) :
    Host.Outcome State Fault Refusal :=
  whenPowered s (s.takeLinkBytes bytes)

/-- REPLY_SENT (R182, R186). -/
def execReplySent (s : State) :
    Host.Outcome State Fault Refusal :=
  whenPowered s s.replySent

/-- FRAME_FAULT (R180, R184): the bytes that bring a fault, taken one by one. -/
def execFrameFault (bytes : List Byte) (s : State) :
    Host.Outcome State Fault Refusal :=
  whenPowered s (s.takeLinkBytes bytes)

/-- PARTIAL_FRAME_TIMEOUT (R181). -/
def execPartialFrameTimeout (s : State) :
    Host.Outcome State Fault Refusal :=
  whenPowered s s.linkSilence

/-- RETAINED_LOSS (R91, R92, R110, R187). -/
def execRetainedLoss (s : State) :
    Host.Outcome State Fault Refusal :=
  .next (s.startUp .retainedLoss)

/-- MAIN_POWER_UP (R91, R92, R110, R187). -/
def execMainPowerUp (s : State) :
    Host.Outcome State Fault Refusal :=
  .next (s.startUp .mainPowerUp)

/-- PIN (R91, R92, R110, R187). -/
def execPin (s : State) :
    Host.Outcome State Fault Refusal :=
  whenPowered s (s.startUp .pin)

/-- MAIN_POWER_DOWN (R91). -/
def execMainPowerDown (s : State) :
    Host.Outcome State Fault Refusal :=
  .next s.powerDown

/-- SEGMENT_HEADER (R38, R40): the bytes of a header, taken one by one. -/
def execSegmentHeader (bytes : List Byte) (s : State) :
    Host.Outcome State Fault Refusal :=
  whenPowered s (s.takePathBytes bytes)

/-- SEGMENT_ARRIVAL (R38, R39): the bytes of a payload, taken one by one. -/
def execSegmentArrival (bytes : List Byte) (s : State) :
    Host.Outcome State Fault Refusal :=
  whenPowered s (s.takePathBytes bytes)

/-- RETURN_MESSAGE_SEND (R49, R199). -/
def execReturnMessageSend (s : State) :
    Host.Outcome State Fault Refusal :=
  whenPowered s s.sendNextReturn

/-- SEGMENT_TAKE (R52, R54). -/
def execSegmentTake (s : State) :
    Host.Outcome State Fault Refusal :=
  whenPowered s s.takeSegment

/-- SEGMENT_FINISH (R52). -/
def execSegmentFinish (s : State) :
    Host.Outcome State Fault Refusal :=
  whenPowered s s.finishSegment

/-- DEADLINE (R19, R120). -/
def execDeadline (channel : ChannelId) (s : State) :
    Host.Outcome State Fault Refusal :=
  whenPowered s (s.reachDeadline channel)

/-- BOOTH_CLOCK_TICK (R86); the clock runs on while main power is off. -/
def execBoothClockTick (s : State) :
    Host.Outcome State Fault Refusal :=
  .next s.clockTick

/-- LICENCE_UNWRAP_COMPLETE (R78, R79). -/
def execLicenceUnwrapComplete (passes : List Bool) (s : State) :
    Host.Outcome State Fault Refusal :=
  whenPowered s (s.unwrapComplete passes)

/-- SAMPLE_CLOCK_EDGE (R16, R19). -/
def execSampleClockEdge (channel : ChannelId) (s : State) :
    Host.Outcome State Fault Refusal :=
  whenPowered s (s.sampleEdge channel)

/-- SYNC_FOUND (R180): the SYNC byte and what follows it, taken one by one. -/
def execSyncFound (bytes : List Byte) (s : State) :
    Host.Outcome State Fault Refusal :=
  whenPowered s (s.takeLinkBytes bytes)

/-- MARKER_FOUND (R38): the bytes of the marker, taken one by one. -/
def execMarkerFound (bytes : List Byte) (s : State) :
    Host.Outcome State Fault Refusal :=
  whenPowered s (s.takePathBytes bytes)

/-- OUTGOING_MESSAGE_SENT (R184). -/
def execOutgoingMessageSent (s : State) :
    Host.Outcome State Fault Refusal :=
  whenPowered s s.messageSent

/-- SUBTITLE_PORT_SEND (R162). -/
def execSubtitlePortSend (s : State) :
    Host.Outcome State Fault Refusal :=
  whenPowered s s.portSent

end Sys2Proof.Machine
end

