-- ==== Sys2Proof/Machine/Dispatch.lean ====
section
/-! DEFINITION. One arm per command: each is one call of its meaning. -/

namespace Sys2Proof.Machine

def exec (i : Instr) (s : State) : Host.Outcome State Fault Refusal :=
  match i with
  | .identify tag => Sys2Proof.Machine.execIdentify tag s
  | .status tag => Sys2Proof.Machine.execStatus tag s
  | .softReset tag => Sys2Proof.Machine.execSoftReset tag s
  | .clearResetCause tag mask => Sys2Proof.Machine.execClearResetCause tag mask s
  | .configureChannel tag channel sampleRate priming resume stallLimit => Sys2Proof.Machine.execConfigureChannel tag channel sampleRate priming resume stallLimit s
  | .setTracks tag channel value mask => Sys2Proof.Machine.execSetTracks tag channel value mask s
  | .setRoute tag channel lanes => Sys2Proof.Machine.execSetRoute tag channel lanes s
  | .setStyle tag channel style handle minimum => Sys2Proof.Machine.execSetStyle tag channel style handle minimum s
  | .setSubtitleOffset tag channel track offset => Sys2Proof.Machine.execSetSubtitleOffset tag channel track offset s
  | .channelReport tag channel => Sys2Proof.Machine.execChannelReport tag channel s
  | .loadComposition tag record => Sys2Proof.Machine.execLoadComposition tag record s
  | .dropComposition tag slot => Sys2Proof.Machine.execDropComposition tag slot s
  | .readComposition tag slot => Sys2Proof.Machine.execReadComposition tag slot s
  | .loadShow tag channel items => Sys2Proof.Machine.execLoadShow tag channel items s
  | .clearShow tag channel => Sys2Proof.Machine.execClearShow tag channel s
  | .cue tag channel item reel => Sys2Proof.Machine.execCue tag channel item reel s
  | .start tag channel => Sys2Proof.Machine.execStart tag channel s
  | .pause tag channel => Sys2Proof.Machine.execPause tag channel s
  | .resume tag channel => Sys2Proof.Machine.execResume tag channel s
  | .stop tag channel => Sys2Proof.Machine.execStop tag channel s
  | .jump tag channel item reel => Sys2Proof.Machine.execJump tag channel item reel s
  | .acknowledgeSuspension tag channel => Sys2Proof.Machine.execAcknowledgeSuspension tag channel s
  | .loadLicence tag load => Sys2Proof.Machine.execLoadLicence tag load s
  | .revokeLicence tag index => Sys2Proof.Machine.execRevokeLicence tag index s
  | .deleteLicence tag index => Sys2Proof.Machine.execDeleteLicence tag index s
  | .readLicence tag index => Sys2Proof.Machine.execReadLicence tag index s
  | .counterOpRead tag index value => Sys2Proof.Machine.execCounterOpRead tag index value s
  | .raiseCap tag index value => Sys2Proof.Machine.execRaiseCap tag index value s
  | .lowerCap tag index value => Sys2Proof.Machine.execLowerCap tag index value s
  | .setTime tag time => Sys2Proof.Machine.execSetTime tag time s
  | .adjustTime tag amount => Sys2Proof.Machine.execAdjustTime tag amount s
  | .readTime tag => Sys2Proof.Machine.execReadTime tag s
  | .readLog tag count => Sys2Proof.Machine.execReadLog tag count s
  | .releaseLog tag count oldest => Sys2Proof.Machine.execReleaseLog tag count oldest s
  | .readNotices tag => Sys2Proof.Machine.execReadNotices tag s
  | .clearNotices tag mode pairs => Sys2Proof.Machine.execClearNotices tag mode pairs s
  | .maskNotices tag value change => Sys2Proof.Machine.execMaskNotices tag value change s
  | .commandFrameCompleted bytes => Sys2Proof.Machine.execCommandFrameCompleted bytes s
  | .replySent => Sys2Proof.Machine.execReplySent s
  | .frameFault bytes => Sys2Proof.Machine.execFrameFault bytes s
  | .partialFrameTimeout => Sys2Proof.Machine.execPartialFrameTimeout s
  | .retainedLoss => Sys2Proof.Machine.execRetainedLoss s
  | .mainPowerUp => Sys2Proof.Machine.execMainPowerUp s
  | .pin => Sys2Proof.Machine.execPin s
  | .mainPowerDown => Sys2Proof.Machine.execMainPowerDown s
  | .segmentHeader bytes => Sys2Proof.Machine.execSegmentHeader bytes s
  | .segmentArrival bytes => Sys2Proof.Machine.execSegmentArrival bytes s
  | .returnMessageSend => Sys2Proof.Machine.execReturnMessageSend s
  | .segmentTake => Sys2Proof.Machine.execSegmentTake s
  | .segmentFinish => Sys2Proof.Machine.execSegmentFinish s
  | .deadline channel => Sys2Proof.Machine.execDeadline channel s
  | .boothClockTick => Sys2Proof.Machine.execBoothClockTick s
  | .licenceUnwrapComplete results => Sys2Proof.Machine.execLicenceUnwrapComplete results s
  | .sampleClockEdge channel => Sys2Proof.Machine.execSampleClockEdge channel s
  | .syncFound bytes => Sys2Proof.Machine.execSyncFound bytes s
  | .markerFound bytes => Sys2Proof.Machine.execMarkerFound bytes s
  | .outgoingMessageSent => Sys2Proof.Machine.execOutgoingMessageSent s
  | .subtitlePortSend => Sys2Proof.Machine.execSubtitlePortSend s

end Sys2Proof.Machine
end

