-- ==== Sys2Proof/Safety.lean ====
section
/-! DEFINITION. What counts as a safe part: the laws that the manual states of the whole part, as
predicates on a state. A run is safe when every one of its states meets them. -/

namespace Sys2Proof.Machine

/-! ### The ingest port (file 03) -/

/-- Granted-unused credit and blocks held in the queue make up the allotment (R37). -/
def Channel.creditLaw (c : Channel) : Prop := c.granted + blocksHeld c.queue = Config.allotment

/-- The credit law of both channels (R37). -/
def CreditLaw (s : State) : Prop := s.chanA.creditLaw ∧ s.chanB.creditLaw

/-! ### Licences and keys (file 05) -/

/-- Charged and reserved showings stay within the cap (R74). -/
def CapLaw (s : State) : Prop := ∀ i l, s.licence i = some l → l.charged + l.reserved ≤ l.cap

/-- A licence that can no longer admit or use keys (R72). -/
def LicenceState.final : LicenceState → Bool
  | .closed | .revoked => true
  | .loaded | .opened | .closing | .revoking => false

/-- A REVOKED licence holds no keys (R75). -/
def RevokedLaw (s : State) : Prop := ∀ i l, s.licence i = some l → l.state = .revoked → l.keys = []

/-- The adjustment account holds at most 300 seconds (R86, R88). -/
def AccountLaw (s : State) : Prop := s.clock.used ≤ 300

/-! ### The showing log (file 06) -/

/-- At most 128 log records, in rising sequence numbers, all below the next one (R106, R107). -/
def LogLaw (s : State) : Prop :=
  s.log.length ≤ 128 ∧ s.log.Pairwise (fun a b => a.seq < b.seq) ∧ ∀ r ∈ s.log, r.seq < s.nextSeq

/-! ### Notices (file 12) -/

/-- ATTN is asserted exactly while an unmasked entry is pending (R191). -/
def AttnLaw (s : State) : Prop := s.attn = attnOf s.masks s.notices

/-- At most one entry per kind and channel, with repeat counts of at most 255 (R190). -/
def NoticeLaw (s : State) : Prop :=
  s.notices.Pairwise (fun a b => ¬(a.kind = b.kind ∧ a.channel = b.channel)) ∧
    ∀ n ∈ s.notices, n.repeats ≤ 255

/-- Whether a condition entry is pending. -/
def State.hasCondition (s : State) (k : NoticeKind) : Bool := s.notices.any (fun n => n.isOf k none)

/-- While main power is on, CLOCK-UNSET is pending exactly while the clock is UNSET, and LOG-LOW exactly
while 16 or fewer log records are free (R90, R107). -/
def ConditionLaw (s : State) : Prop :=
  s.powered = true →
    s.hasCondition .clockUnset = !s.clock.set ∧ s.hasCondition .logLow = decide (s.freeLog ≤ 16)

/-! ### The command link (file 12) -/

/-- At most 16 BUSY replies and FRAME-FAULT reports wait, and a frame waits only behind a request in
execution (R182, R184). -/
def LinkLaw (s : State) : Prop :=
  s.link.waitingMessages ≤ 16 ∧ (s.link.waiting.isSome = true → s.link.executing.isSome = true)

/-! ### Compositions (file 01) -/

/-- The items of a show list. -/
def Channel.items (c : Channel) : List ShowItem := c.showList.getD []

/-- Every item of both lists names an occupied slot, and a slot's reference count is the number of items
that name it (R2). -/
def ReferenceLaw (s : State) : Prop :=
  (∀ ch, ∀ i ∈ (s.chan ch).items, (s.compositionSlot i.slot.toNat).isSome = true) ∧
    ∀ n o, s.compositionSlot n = some o →
      o.refs = namings s.chanA.items n + namings s.chanB.items n

/-! ### A channel's show (files 02, 06, 07, 09) -/

/-- A state in which the frame timer is STOPPED (R18, R114). -/
def ChannelState.timerStopped : ChannelState → Bool
  | .idle | .loaded | .cueing | .primed | .ended => true
  | .playing | .paused | .holding | .suspended => false

/-- The timer is STOPPED exactly in the states of R18's table. -/
def Channel.timerLaw (c : Channel) : Prop := c.timer.state = .stopped ↔ c.state.timerStopped = true

/-- A state in which a channel shows nothing. -/
def ChannelState.atRest : ChannelState → Bool
  | .idle | .loaded | .ended => true
  | _ => false

/-- At most two admission records, and none in IDLE, LOADED and ENDED (R93, R117, R128, R129). -/
def Channel.recordLaw (c : Channel) : Prop :=
  c.records.length ≤ 2 ∧ (c.state.atRest = true → c.records = [])

/-- The stall latch is set only in SUSPENDED (R143, R147, R149, R150). -/
def Channel.latchLaw (c : Channel) : Prop := c.latch = true → c.state = .suspended

/-- At most one slot is PRESENTING and at most one is FILLING (R111). -/
def Channel.slotLaw (c : Channel) : Prop :=
  c.slots.countP Slot.isPresenting ≤ 1 ∧ c.slots.countP Slot.isFilling ≤ 1

/-- A resource bank holds its canonical form (R152, R156). -/
def Channel.bankLaw (c : Channel) : Prop :=
  Memory.wf c.subs.bank0 = true ∧ Memory.wf c.subs.bank1 = true

/-- A track shows at most 8 cues (R152, R161). -/
def Channel.shownLaw (c : Channel) : Prop :=
  ∀ t, (c.subs.shown.filter (fun q => q.cue.track = t)).length ≤ 8

/-- The laws of a channel's show. -/
def Channel.showLaw (c : Channel) : Prop := c.timerLaw ∧ c.recordLaw ∧ c.latchLaw

/-- The laws of both channels' shows. -/
def ShowLaw (s : State) : Prop := ∀ ch, (s.chan ch).showLaw

/-- The slot law of both channels. -/
def SlotLaw (s : State) : Prop := ∀ ch, (s.chan ch).slotLaw

/-- The bank law of both channels. -/
def BankLaw (s : State) : Prop := ∀ ch, (s.chan ch).bankLaw

/-- The shown-cue law of both channels. -/
def ShownLaw (s : State) : Prop := ∀ ch, (s.chan ch).shownLaw

/-- The sound router as a DEADLINE finds it: in RUNNING the edges that are missing before the deadline have
been made (notes/assumptions/25.md). -/
def Channel.routerAtDeadline (c : Channel) : SoundRouter :=
  match c.timer.state with
  | .running => c.runToDeadline.sound
  | .stopped | .armed => c.sound

/-- The regular CLEAR events of a channel's SHOWN cues, from track 0 to track 3 and within a track in show
order (R162; notes/assumptions/16.md). -/
def Channel.clearEvents (c : Channel) (ch : ChannelId) : List PortEvent :=
  (byTrack c.subs.shown).map (fun q => .clear ch q.cue.track q.cue.number false)

/-! ### Licences against admission records (file 05, R74) -/

/-- The admission records of both channels. -/
def State.allRecords (s : State) : List AdmissionRecord := s.chanA.records ++ s.chanB.records

/-- A licence's pin count is the number of admission records that name it, and its reserved count the
number of those that hold a reservation: chargeable and not charged (R74, R100). -/
def PinLaw (s : State) : Prop :=
  ∀ i l, s.licence i = some l →
    l.pins = s.allRecords.countP (fun r => r.licence = some i) ∧
      l.reserved = s.allRecords.countP (fun r => r.licence = some i && r.holdsReservation)

/-! ### The commands as the link and the channels see them -/

/-- The tag and the request of a request row; an event row has none. -/
def requestOf : Instr → Option (Byte × Request)
  | .identify tag => some (tag, .identify)
  | .status tag => some (tag, .status)
  | .softReset tag => some (tag, .softReset)
  | .clearResetCause tag mask => some (tag, .clearResetCause mask)
  | .configureChannel tag ch rate priming resume stall =>
    some (tag, .configureChannel ch rate priming resume stall)
  | .setTracks tag ch value mask => some (tag, .setTracks ch value mask)
  | .setRoute tag ch lanes => some (tag, .setRoute ch lanes)
  | .setStyle tag ch style handle minimum => some (tag, .setStyle ch style handle minimum)
  | .setSubtitleOffset tag ch track offset => some (tag, .setSubtitleOffset ch track offset)
  | .channelReport tag ch => some (tag, .channelReport ch)
  | .loadComposition tag record => some (tag, .loadComposition record)
  | .dropComposition tag slot => some (tag, .dropComposition slot)
  | .readComposition tag slot => some (tag, .readComposition slot)
  | .loadShow tag ch items => some (tag, .loadShow ch items)
  | .clearShow tag ch => some (tag, .clearShow ch)
  | .cue tag ch item reel => some (tag, .cue ch item reel)
  | .start tag ch => some (tag, .start ch)
  | .pause tag ch => some (tag, .pause ch)
  | .resume tag ch => some (tag, .resume ch)
  | .stop tag ch => some (tag, .stop ch)
  | .jump tag ch item reel => some (tag, .jump ch item reel)
  | .acknowledgeSuspension tag ch => some (tag, .acknowledgeSuspension ch)
  | .loadLicence tag load => some (tag, .loadLicence load)
  | .revokeLicence tag index => some (tag, .revokeLicence index)
  | .deleteLicence tag index => some (tag, .deleteLicence index)
  | .readLicence tag index => some (tag, .readLicence index)
  | .counterOpRead tag index value => some (tag, .counterOp index 0 value)
  | .raiseCap tag index value => some (tag, .counterOp index 1 value)
  | .lowerCap tag index value => some (tag, .counterOp index 2 value)
  | .setTime tag time => some (tag, .setTime time)
  | .adjustTime tag amount => some (tag, .adjustTime amount)
  | .readTime tag => some (tag, .readTime)
  | .readLog tag count => some (tag, .readLog count)
  | .releaseLog tag count oldest => some (tag, .releaseLog count oldest)
  | .readNotices tag => some (tag, .readNotices)
  | .clearNotices tag mode pairs => some (tag, .clearNotices mode pairs)
  | .maskNotices tag value change => some (tag, .maskNotices value change)
  | .commandFrameCompleted _ | .replySent | .frameFault _ | .partialFrameTimeout | .retainedLoss
  | .mainPowerUp | .pin | .mainPowerDown | .segmentHeader _ | .segmentArrival _ | .returnMessageSend
  | .segmentTake | .segmentFinish | .deadline _ | .boothClockTick | .licenceUnwrapComplete _
  | .sampleClockEdge _ | .syncFound _ | .markerFound _ | .outgoingMessageSent
  | .subtitlePortSend => none

/-- The channel byte of a request that names a channel. -/
def channelByte : Request → Option Byte
  | .configureChannel ch _ _ _ _ | .setTracks ch _ _ | .setRoute ch _ | .setStyle ch _ _ _
  | .setSubtitleOffset ch _ _ | .channelReport ch | .loadShow ch _ | .clearShow ch | .cue ch _ _
  | .start ch | .pause ch | .resume ch | .stop ch | .jump ch _ _ | .acknowledgeSuspension ch => some ch
  | .identify | .status | .softReset | .clearResetCause _ | .loadComposition _ | .dropComposition _
  | .readComposition _ | .loadLicence _ | .revokeLicence _ | .deleteLicence _ | .readLicence _
  | .counterOp _ _ _ | .setTime _ | .adjustTime _ | .readTime | .readLog _ | .releaseLog _ _
  | .readNotices | .clearNotices _ _ | .maskNotices _ _ => none

/-- A request whose body the part reads back as it was written: one whose counts and mode are in the
range that its length judgment asks for (R3, R76, R193). -/
def readsBack : Request → Bool
  | .loadComposition c => countsInRange c
  | .loadLicence l => 1 ≤ l.keys.length && l.keys.length ≤ 16
  | .clearNotices mode _ => mode.toNat ≤ 1
  | _ => true

/-- The bytes of a request frame on the link (R179, R196). -/
def frameBytes (tag : Byte) (r : Request) : List Byte :=
  linkFrame tag (requestKind r).code (requestBody r)

/-- A part that executes a request with this tag as soon as its frame is complete: main power is on, the
execution place is empty, and the tag is not 0 (R182, R183). -/
def State.takes (s : State) (tag : Byte) : Prop :=
  s.powered = true ∧ s.link.executing = none ∧ tag ≠ 0

/-- The part with the reply of an executed request produced: the request holds the execution place, and
its reply, of kind plus 0x80, stands last among the messages to send (R182 to R184). -/
def State.answered (s : State) (tag kind : Byte) (body : List Byte) : State :=
  { s with
    link := { s.link with
      executing := some { tag := tag, kind := kind, stage := .replying }
      outgoing := s.link.outgoing ++
        [{ isReply := true, tag := tag, kind := kind + 0x80, body := body }] } }

/-! ### Start-up (R91, R110, R194) -/

/-- The state of a licence after start-up, windows evaluated (R73, R91). -/
def startedState (clock : BoothClock) (l : Licence) : LicenceState :=
  match l.state with
  | .closing | .closed => .closed
  | .revoking | .revoked => .revoked
  | .loaded =>
    if clock.set = true ∧ l.windowEnd ≤ clock.time then .closed
    else if clock.set = true ∧ l.windowStart ≤ clock.time then .opened
    else .loaded
  | .opened => if clock.set = true ∧ l.windowEnd ≤ clock.time then .closed else .opened

/-- What start-up makes of a log record at a booth time: a CLOSED one is kept, an OPEN one closes
INTERRUPTED when it has a first-frame time and is discarded otherwise (R110). -/
def startedLog (now : Nat) (g : LogRecord) : Option LogRecord :=
  if g.closed then some g
  else if g.firstFrame.isSome then
    some { g with ended := some now, outcome := some .interrupted, closed := true }
  else none

/-- The pending notice set of start-up (R194). -/
def startNotices (t : State) (kind : ResetKind) : List Notice :=
  { kind := .resetOccurred, channel := none, repeats := 0, detail := .resetOccurred kind t.cause } ::
    ((if t.clock.set then [] else
        [{ kind := .clockUnset, channel := none, repeats := 0, detail := .none }]) ++
      (if t.freeLog ≤ 16 then
        [{ kind := .logLow, channel := none, repeats := 0, detail := .none }] else []))

/-- `t` is what a start-up that keeps the retained domain makes of `s`: the retained domain settled, and
everything else as after a reset (R91, R92, R110, R187, R194). The queue is the model's own. -/
def SettledStart (s t : State) (cause : ResetCause) (kind : ResetKind) : Prop :=
  t = { State.reset with
    licences := t.licences, keys := t.keys, clock := s.clock, log := s.log.filterMap (startedLog s.clock.time)
    nextSeq := s.nextSeq, cause := cause, notices := startNotices t kind, pending := s.pending } ∧
  (∀ i, s.licence i = none → t.licence i = none) ∧
  (∀ i l, s.licence i = some l → t.licence i = some
    { l with
      reserved := 0, pins := 0, state := startedState s.clock l
      keys := if l.state = .revoking then [] else l.keys }) ∧
  ∀ k, ((∃ i l, s.licence i = some l ∧ l.state = .revoking ∧ k ∈ l.keys) → t.key k = none) ∧
    ((∀ i l, s.licence i = some l → l.state = .revoking → k ∉ l.keys) → t.key k = s.key k)

/-! ### Requests on tables -/

/-- A composition record with every value in the range of R1 and R3. -/
def ValidComposition (c : Composition) : Prop :=
  c.id ≠ 0 ∧ c.frameRate.toNat ∈ [24, 25, 30, 48, 50, 60] ∧
  (c.sampleRate.toNat = 48000 ∨ c.sampleRate.toNat = 96000) ∧ c.sourceChannels.toNat ≤ 16 ∧
  c.logged.toNat ≤ 1 ∧ 1 ≤ c.reels.length ∧ c.reels.length ≤ 64 ∧ c.tracks.length ≤ 4 ∧
  (∀ t ∈ c.tracks, t.kind.toNat ≤ 1 ∧ 1 ≤ t.tickRate.toNat ∧ t.tickRate.toNat ≤ 1000) ∧
  (∀ r ∈ c.reels, 1 ≤ r.duration.toNat ∧ r.duration.toNat ≤ 259200) ∧
  (c.reels.map (fun r => r.duration.toNat)).sum ≤ 1000000 ∧
  (c.sourceChannels = 0 → ∀ r ∈ c.reels, r.soundKey = 0) ∧
  (c.tracks = [] → ∀ r ∈ c.reels, r.subtitleKey = 0)

/-- The state that a window evaluation at a booth time gives a licence (R73). -/
def judgedState (l : Licence) (now : Nat) : LicenceState :=
  match l.state with
  | .loaded =>
    if l.windowEnd ≤ now then .closed else if l.windowStart ≤ now then .opened else .loaded
  | .opened => if l.windowEnd ≤ now then (if l.pins = 0 then .closed else .closing) else .opened
  | .closing => .closing
  | .revoking => .revoking
  | .closed => .closed
  | .revoked => .revoked

/-- `t` holds the licences of `s` judged against a booth time, each on its own, and LICENCE-CLOSING is
pending when one of them was OPEN with pins at its window's end (R73). -/
def WindowsJudged (s t : State) (now : Nat) : Prop :=
  (∀ i, t.licence i = (s.licence i).map (fun l => { l with state := judgedState l now })) ∧
  ∀ i l, s.licence i = some l → l.state = .opened → l.windowEnd ≤ now → l.pins ≠ 0 →
    t.hasCondition .licenceClosing = true

/-- The model's names of a channel's admission records are distinct and not used again
(notes/assumptions/9.md). -/
def Channel.namesLaw (c : Channel) : Prop :=
  (c.records.map (·.ident)).Nodup ∧ ∀ r ∈ c.records, r.ident < c.nextIdent

/-- A licence in a state in which no admission record names it (R82, R91). -/
def LicenceState.unpinned : LicenceState → Bool
  | .loaded | .closed | .revoked => true
  | .opened | .closing | .revoking => false

/-- The laws of admission records and licences while main power is on (R74, R82, R91, R93). -/
def RecordLaws (s : State) : Prop :=
  s.powered = true →
    PinLaw s ∧ s.chanA.namesLaw ∧ s.chanB.namesLaw ∧
      (∀ r ∈ s.allRecords, ∀ i, r.licence = some i → (s.licence i).isSome = true) ∧
      ∀ i l, s.licence i = some l → l.state.unpinned = true → l.pins = 0

end Sys2Proof.Machine
end

