-- ==== Sys2Proof/WellFormed.lean ====
section
/-! DEFINITION. Well-formed commands: those whose operands a frame or a byte path can carry. A list that a
frame counts in one byte has at most 255 entries, and a body has at most 2 048 bytes (R179, R197). Values
out of range stay well-formed: the rules of the requests refuse them. -/

namespace Sys2Proof

/-- The largest body of a request (R179). -/
def bodyLimit : Nat := 2048

/-- A composition record that a LOAD-COMPOSITION body can carry (R197). -/
def Composition.fits (c : Composition) : Bool :=
  c.tracks.length ≤ 255 && c.reels.length ≤ 255 &&
  21 + 6 * c.tracks.length + 28 * c.reels.length ≤ bodyLimit

/-- A show list that a LOAD-SHOW body can carry (R197). -/
def showFits (items : List ShowItem) : Bool := items.length ≤ 255

/-- A licence that a LOAD-LICENCE body can carry (R197). -/
def LicenceLoad.fits (l : LicenceLoad) : Bool := 28 + 41 * l.keys.length ≤ bodyLimit

/-- Pairs that a CLEAR-NOTICES body can carry (R193, R197): none without a count. -/
def pairsFit (mode : Byte) (pairs : List NoticePair) : Bool :=
  pairs.length ≤ 255 && (mode ≠ 0 || pairs.isEmpty)

/-- A map of 16 lanes (R169). -/
def lanesFit (lanes : List LaneEntry) : Bool := lanes.length = 16

/-- A well-formed request. -/
def Request.wellFormed : Request → Bool
  | .setRoute _ lanes => lanesFit lanes
  | .loadComposition c => c.fits
  | .loadShow _ items => showFits items
  | .loadLicence l => l.fits
  | .clearNotices mode pairs => pairsFit mode pairs
  | .identify | .status | .softReset | .clearResetCause _ | .configureChannel _ _ _ _ _
  | .setTracks _ _ _ | .setStyle _ _ _ _ | .setSubtitleOffset _ _ _ | .channelReport _
  | .dropComposition _ | .readComposition _ | .clearShow _ | .cue _ _ _ | .start _ | .pause _
  | .resume _ | .stop _ | .jump _ _ _ | .acknowledgeSuspension _ | .revokeLicence _
  | .deleteLicence _ | .readLicence _ | .counterOp _ _ _ | .setTime _ | .adjustTime _ | .readTime
  | .readLog _ | .releaseLog _ _ | .readNotices | .maskNotices _ _ => true

/-- The most bytes of a command frame (R179). -/
def frameLimit : Nat := 5 + bodyLimit + 2

/-- The most bytes of a segment (R34). -/
def segmentLimit : Nat := 32 + 65536

/-- A well-formed command. A byte row brings at least one byte and at most one frame, or one segment. -/
def Instr.wellFormed : Instr → Bool
  | .setRoute _ _ lanes => lanesFit lanes
  | .loadComposition _ c => c.fits
  | .loadShow _ _ items => showFits items
  | .loadLicence _ l => l.fits
  | .clearNotices _ mode pairs => pairsFit mode pairs
  | .commandFrameCompleted bytes | .frameFault bytes | .syncFound bytes =>
    1 ≤ bytes.length && bytes.length ≤ frameLimit
  | .segmentHeader bytes | .segmentArrival bytes | .markerFound bytes =>
    1 ≤ bytes.length && bytes.length ≤ segmentLimit
  | .licenceUnwrapComplete passes => passes.length ≤ 16
  | .identify _ | .status _ | .softReset _ | .clearResetCause _ _ | .configureChannel _ _ _ _ _ _
  | .setTracks _ _ _ _ | .setStyle _ _ _ _ _ | .setSubtitleOffset _ _ _ _ | .channelReport _ _
  | .dropComposition _ _ | .readComposition _ _ | .clearShow _ _ | .cue _ _ _ _ | .start _ _
  | .pause _ _ | .resume _ _ | .stop _ _ | .jump _ _ _ _ | .acknowledgeSuspension _ _
  | .revokeLicence _ _ | .deleteLicence _ _ | .readLicence _ _ | .counterOpRead _ _ _
  | .raiseCap _ _ _ | .lowerCap _ _ _ | .setTime _ _ | .adjustTime _ _ | .readTime _
  | .readLog _ _ | .releaseLog _ _ _ | .readNotices _ | .maskNotices _ _ _ | .replySent
  | .partialFrameTimeout | .retainedLoss | .mainPowerUp | .pin | .mainPowerDown
  | .returnMessageSend | .segmentTake | .segmentFinish | .deadline _ | .boothClockTick
  | .sampleClockEdge _ | .outgoingMessageSent | .subtitlePortSend => true

end Sys2Proof
end

