-- ==== Sys2Proof/Certificates/Slice0/Obligations.lean ====
section
/-! DEFINITION. The statements for the provers: one `Obligations.<Name>` each, listed in OBLIGATIONS.json.
Laws of the whole part are the predicates of Safety.lean. -/

open Sys2Proof Sys2Proof.Machine

/-- O1. A step runs the command at the front of the queue; an empty queue idles. A step of a part whose
queue holds the command c in front is exec of c on the part with the rest of the queue, and a step
of a part whose queue is empty changes nothing. The queue and its idling are the model's choice (log
entry 26). (95_what_each_step_holds.md) -/
def Obligations.StepRunsTheFrontCommand : Prop :=
  (∀ (c : Instr) (rest : List Instr) (s : State),
    step { s with pending := c :: rest } = exec c { s with pending := rest }) ∧
  ∀ s : State, s.pending = [] → step s = .next s

/-- O2. Every command ends in a next state and leaves the queue of waiting commands as it is. For every
command and every state, exec answers a next state, and that state has the same queue of waiting
commands. No command faults, and none is refused by the model. The queue is the model's own (log
entry 26). (95_what_each_step_holds.md, R183) -/
def Obligations.EveryCommandActsAndKeepsTheQueue : Prop :=
  ∀ (c : Instr) (s : State), ∃ t : State, exec c s = .next t ∧ t.pending = s.pending

/-- O3. A request whose reply status is not OK changes nothing. When the action of a request answers at
once with a reply whose first byte, the status, is not OK (0), the state is the one before the
request. Where a request does not answer at once (the unwrap of LOAD-LICENCE) or acts after its
reply (SOFT-RESET), its action also changes nothing yet. (R183, R4, R8, R77, R88, R116, R134) -/
def Obligations.RefusedRequestsChangeNothing : Prop :=
  ∀ (r : Request) (s t : State) (a : Answer), perform r s = (t, a) →
    (∀ b rest, a = .reply (b :: rest) → b ≠ 0 → t = s) ∧
    (∀ load, a = .unwrap load → t = s) ∧ (∀ body, a = .replyThenReset body → t = s)

/-- O4. A request that finds the execution place full waits, is answered BUSY, or is dropped with LINK-
FAULT. For every request row, with main power on and a request in execution: when the waiting place
is empty, the frame waits there and nothing else changes; when it is full, the frame is answered
BUSY (kind plus 0x80, status alone) if fewer than 16 messages wait, and otherwise the reply is
dropped and LINK-FAULT is raised with reason REPORT-DROPPED. In each case the request is not
executed. That a request row stands for its completed frame is the model's reading (log entry 23).
That a BUSY or fault message being sent counts among the 16 is log entry 28 (DEDUCED). (R182, R183,
R184) -/
def Obligations.RequestsBehindAnotherWaitOrAreBusy : Prop :=
  ∀ (c : Instr) (tag : Byte) (r : Request) (s : State),
    requestOf c = some (tag, r) → s.powered = true → s.link.executing.isSome = true →
    (s.link.waiting = none →
      exec c s = .next { s with
        link := { s.link with
          waiting := some { tag := tag, kind := (requestKind r).code, body := requestBody r } } }) ∧
    (s.link.waiting.isSome = true → s.link.waitingMessages < 16 →
      exec c s = .next { s with
        link := { s.link with
          outgoing := s.link.outgoing ++
            [{ isReply := false, tag := tag, kind := (requestKind r).code + 0x80, body := [0x01] }] } }) ∧
    (s.link.waiting.isSome = true → 16 ≤ s.link.waitingMessages →
      exec c s = .next (s.raise .linkFault none (.linkFault .reportDropped)))

/-- O5. A tag of 0, or a channel number other than 0 and 1, is refused BAD-VALUE and changes nothing but
the link. For every request row, with main power on and the execution place empty: a tag of 0 is
answered BAD-VALUE with tag 0 and the status alone. For every request row that names a channel, a
channel number other than 0 and 1 is answered BAD-VALUE. Nothing but the link changes. That a
request row stands for its completed frame is the model's reading (log entry 23). (R183, R10, R13,
R115, R130, R134, R149, R157, R158, R159, R169, R8) -/
def Obligations.BadTagsAndChannelsAreRefused : Prop :=
  ∀ (c : Instr) (tag : Byte) (r : Request) (s : State),
    requestOf c = some (tag, r) → s.powered = true → s.link.executing = none →
    (tag = 0 → exec c s = .next (s.answered 0 (requestKind r).code [0x04])) ∧
    (∀ n, tag ≠ 0 → c.wellFormed = true → channelByte r = some n → n ≠ 0 → n ≠ 1 →
      ∃ fields, exec c s = .next (s.answered tag (requestKind r).code (0x04 :: fields)))

/-- O6. IDENTIFY, STATUS, CHANNEL-REPORT and READ-TIME reply with what the part holds and change nothing
but the link. IDENTIFY replies OK with the device code 0x0B02, the revision, the serial number, and
the figures 2, 32, 64, 256, 128 and 2048. STATUS replies OK with the reset-cause flags, the clock
state, the free log records, the pending and the unmasked pending counts, both channel states and
the number of licences. The revision and the serial number are constants of the part whose values
the model leaves open (log entry 3). CHANNEL-REPORT of a channel replies OK with the channel's
state, its position, stall count, latch, committed frames, READY and FILLING counts, epoch, credit,
stale count, fetch-complete mark, unpacker counts, refusal mark, admission records and
configuration. READ-TIME replies OK with the booth time, the clock state, the period start and the
amount used. The byte widths follow R197; the layout of optional groups is in log entry 14. The
reset-cause flags as one byte with bit 0 for MAIN-POWER are log entry 15 (DESIGN CHOICE). (R188,
R130, R89, R197) -/
def Obligations.ReadingRequestsReplyWithTheState : Prop :=
  ∀ (s : State) (tag : Byte), s.takes tag →
    exec (.identify tag) s = .next (s.answered tag 0x01
      (0 :: leBytes 2 0x0B02 ++ [byteOf Config.revision] ++ leBytes 8 Config.serialNumber.toNat ++
        [2, 32, 64] ++ leBytes 2 256 ++ [128] ++ leBytes 2 2048)) ∧
    exec (.status tag) s = .next (s.answered tag 0x02
      [0, s.cause.byte, flagByte s.clock.set, byteOf (128 - s.log.length), byteOf s.notices.length,
       byteOf (s.notices.countP (fun n => !maskedBy s.masks n.kind)), s.chanA.state.code,
       s.chanB.state.code, byteOf (s.licences.countP (·.isSome))]) ∧
    (∀ ch, exec (.channelReport tag (ChannelId.number ch)) s = .next (s.answered tag 0x15
      (0 :: (s.chan ch).state.code :: reportedPositionBytes (s.chan ch).position ++
        [byteOf (s.chan ch).stallCount, flagByte (s.chan ch).latch,
         byteOf (committedRemaining (s.chan ch).jump), byteOf ((s.chan ch).slots.countP Slot.isReady),
         byteOf ((s.chan ch).slots.countP Slot.isFilling), (s.chan ch).epoch] ++
        leBytes 2 (s.chan ch).granted ++ leBytes 2 (s.chan ch).stale ++
        [flagByte (s.chan ch).assembly.complete] ++ countBytes (s.chan ch).assembly.counts ++
        [flagByte (s.chan ch).refusal, byteOf (s.chan ch).records.length] ++
        ((s.chan ch).records.map recordBytes).flatten ++ configBytes (s.chan ch).config))) ∧
    exec (.readTime tag) s = .next (s.answered tag 0x4A
      (0 :: leBytes 4 s.clock.time ++ [flagByte s.clock.set] ++ optionalField 4 s.clock.periodStart ++
        leBytes 2 s.clock.used))

/-- O7. SOFT-RESET replies OK first, and the reset acts when that reply is wholly sent. An accepted
SOFT-RESET changes nothing but the link: its reply OK is produced and it holds the execution place.
When the last byte of that reply is sent, the reset acts: the retained domain is settled, the
COMMAND flag of the reset-cause record is set, and everything else has its value after a reset, so
that what waited on the link is discarded. (R186, R187, R185) -/
def Obligations.SoftResetActsAfterItsReply : Prop :=
  ∀ s : State,
    (∀ tag, s.takes tag → exec (.softReset tag) s = .next { s with
      link := { s.link with
        executing := some { tag := tag, kind := 0x04, stage := .softReset }
        outgoing := s.link.outgoing ++ [{ isReply := true, tag := tag, kind := 0x84, body := [0] }] } }) ∧
    (∀ e m rest, s.powered = true → s.link.executing = some e → e.stage = .softReset →
      s.link.outgoing = m :: rest → m.isReply = true →
      ∃ t : State, exec .replySent s = .next t ∧ SettledStart s t { s.cause with command := true } .softReset)

/-- O8. RETAINED LOSS brings every part to the state after reset, whatever it held. From every state,
RETAINED LOSS leads to State.reset, but for the queue of waiting commands, which is the model's own:
the licence and key tables, the clock, the log and the reset-cause record are lost, and every other
piece of state has its value after a reset. That State.reset is the part after this reset is log
entry 1; the clock's phase 0 is entry 6 and the sound router's rate of 48000 entry 10, all the
model's. (R91, R92, R110, R187, R194, R15, R50, R131, R166) -/
def Obligations.RetainedLossGivesTheResetState : Prop :=
  ∀ s : State, exec .retainedLoss s = .next { State.reset with pending := s.pending }

/-- O9. MAIN POWER-UP and PIN keep and settle the retained domain and reset everything else. After MAIN
POWER-UP, and after PIN with main power on: licences and keys are kept with reserved and pins 0,
CLOSING becomes CLOSED, REVOKING becomes REVOKED without keys, and windows are evaluated; OPEN log
records close INTERRUPTED or are discarded; clock and next sequence number are kept; the reset-cause
flag of the kind is set; the notices are those of start-up; everything else has its value after a
reset. That PIN has no effect while main power is off is the model's choice (log entry 12) and is
not claimed here. (R91, R92, R110, R187, R194, R15, R50, R51, R131, R166, R167, R185) -/
def Obligations.StartUpSettlesTheRetainedDomain : Prop :=
  ∀ s : State,
    (∃ t : State, exec .mainPowerUp s = .next t ∧ SettledStart s t { s.cause with mainPower := true } .mainPowerUp) ∧
    (s.powered = true →
      ∃ t : State, exec .pin s = .next t ∧ SettledStart s t { s.cause with pin := true } .pin)

/-- O10. MAIN-POWER-DOWN keeps the retained domain, and a part without main power stands still. When
main power falls, the licence and key tables, the clock, the log, the next sequence number and the
reset-cause record keep their values, and nothing else is left. Without main power, every command
but a power-up, a power-down and a tick of the booth clock changes nothing. That the other commands
have no effect without power is the model's choice (log entry 12). What the volatile state holds
while main power is off is log entry 40 (DESIGN CHOICE). (R91, R86) -/
def Obligations.PowerDownKeepsOnlyTheRetainedDomain : Prop :=
  ∀ s : State,
    exec .mainPowerDown s = .next { s with
      powered := false, link := CommandLink.reset, notices := [], masks := 0, attn := false
      compositions := List.replicate 32 none, path := { rx := .hunt, held := [] }, returns := []
      returnOut := none, work := none, lastServed := .b, subtitlePort := []
      chanA := Channel.reset, chanB := Channel.reset } ∧
    ∀ c : Instr, s.powered = false → c ≠ .retainedLoss → c ≠ .mainPowerUp → c ≠ .mainPowerDown →
      c ≠ .boothClockTick → exec c s = .next s

/-- O11. The end of a reply empties the execution place, and the waiting frame enters execution. With
main power on, a request in execution whose reply is being sent: when its last byte is sent, the
reply leaves the outgoing list and the execution place empties; when a frame waits, it leaves the
waiting place and is executed on that state; otherwise nothing else changes. That the bytes of the
message sent last are kept is the model's own state (log entry 7). (R182) -/
def Obligations.ReplySentFreesTheExecutionPlace : Prop :=
  ∀ (s : State) (e : Executing) (m : LinkMessage) (rest : List LinkMessage),
    s.powered = true → s.link.executing = some e → e.stage = .replying →
    s.link.outgoing = m :: rest → m.isReply = true →
    (s.link.waiting = none → exec .replySent s = .next
      { s with link := { s.link with executing := none, outgoing := rest, sent := some m.bytes } }) ∧
    (∀ f, s.link.waiting = some f → exec .replySent s = .next
      (executeFrame f
        { s with link := { s.link with
          executing := none, waiting := none, outgoing := rest, sent := some m.bytes } }))

/-- O12. The bytes of a request frame act exactly as the request row that they spell. For every request
row whose request is well-formed and in the range that the part reads back, and every part in HUNT
with no bytes held and no stray run: taking the frame's bytes (SYNC, LENGTH, TAG, KIND, BODY and a
good CHECK) one by one ends in a next state, the same as that of the request row itself. Framing,
check, body layout and execution agree. That a request row stands for its completed frame and that a
byte row feeds its receiver are the model's readings (log entries 23 and 27). (R179, R180, R182,
R183, R195, R196, R197) -/
def Obligations.FrameBytesActAsTheirRequest : Prop :=
  ∀ (c : Instr) (tag : Byte) (r : Request) (s : State),
    requestOf c = some (tag, r) → r.wellFormed = true → readsBack r = true → s.link.rx = .hunt →
    s.link.held = [] → s.link.stray = .none →
    ∃ t : State, exec (.commandFrameCompleted (frameBytes tag r)) s = .next t ∧ exec c s = .next t

/-- O13. Every well-formed body is read back as the request it was written from. For every well-formed
request whose counts and mode are in range, the body written by the layouts of R197 is judged of
good length and read as the same request, with every field at every value. (R195, R197, R3, R8, R76,
R193) -/
def Obligations.BodiesReadBack : Prop :=
  ∀ r : Request, r.wellFormed = true → readsBack r = true →
    parseBody (requestKind r) (requestBody r) = .request r

/-- O14. SYNC opens a frame; a wrong CHECK, an impossible LENGTH or 5 ms of silence ends it with a
report. With main power on and fewer than 16 messages waiting: a frame whose two CHECK bytes differ
from the CRC-16 of its bytes leaves the receiver in HUNT, raises LINK-FAULT with reason CHECK and
queues FRAME-FAULT with that reason. A LENGTH outside 2 to 2050 does the same with reason LENGTH,
but for a SYNC among its two bytes: the first such SYNC opens a frame, with the byte after it held.
Nothing is executed, and nothing else changes. How discarded bytes after a fault are remembered is
the model's own state. With main power on: a SYNC byte in HUNT with no stray run moves the receiver
to LENGTH and changes nothing else. A silence in LENGTH or FRAME discards the bytes held, returns
the receiver to HUNT, raises LINK-FAULT with reason TIMEOUT and, with fewer than 16 messages
waiting, queues FRAME-FAULT. A silence in HUNT with no stray run changes nothing. In HUNT another
byte is discarded and begins or continues a stray run. A SYNC or 5 ms of silence after such a run
raises LINK-FAULT with reason STRAY and queues one FRAME-FAULT; a run that follows a LENGTH or CHECK
fault belongs to that fault, and its SYNC reports nothing (log entry 34, DEDUCED). That FRAME_FAULT
with a byte that brings no fault gives that byte to the receiver is log entry 27 (DESIGN CHOICE).
(R179, R180, R184, R196, R181) -/
def Obligations.TheReceiverOpensFramesAndReportsFaults : Prop :=
  (∀ s : State, s.powered = true → s.link.waitingMessages < 16 →
    (∀ (inner : List Byte) (c0 c1 : Byte), s.link.rx = .hunt → s.link.stray = .none →
      2 ≤ inner.length → inner.length ≤ 2050 →
      [c0, c1] ≠ leBytes 2 (crc16 (leBytes 2 inner.length ++ inner)).toNat →
      exec (.frameFault (0xC5 :: leBytes 2 inner.length ++ inner ++ [c0, c1])) s =
        .next (State.raise { s with
          link := { s.link with
            rx := .hunt, held := [], stray := .afterFault
            outgoing := s.link.outgoing ++
              [{ isReply := false, tag := 0, kind := 0xFF, body := [1] }] } }
          .linkFault none (.linkFault .check))) ∧
    (∀ b0 b1 : Byte, s.link.rx = .length → s.link.held = [b0] →
      (b0.toNat + 256 * b1.toNat < 2 ∨ 2050 < b0.toNat + 256 * b1.toNat) →
      exec (.frameFault [b1]) s =
        .next (State.raise { s with
          link := { s.link with
            rx := if b0 = 0xC5 ∨ b1 = 0xC5 then .length else .hunt
            held := if b0 = 0xC5 then [b1] else []
            stray := if b0 = 0xC5 ∨ b1 = 0xC5 then .none else .faultRun
            outgoing := s.link.outgoing ++
              [{ isReply := false, tag := 0, kind := 0xFF, body := [2] }] } }
          .linkFault none (.linkFault .length)))) ∧
  (∀ s : State, s.powered = true →
    (s.link.rx = .hunt → s.link.stray = .none → exec (.syncFound [0xC5]) s = .next
      { s with link := { s.link with rx := .length, held := [] } }) ∧
    ((s.link.rx = .length ∨ s.link.rx = .frame) → s.link.waitingMessages < 16 →
      exec .partialFrameTimeout s = .next (State.raise { s with
        link := { s.link with
          rx := .hunt, held := [], stray := .none
          outgoing := s.link.outgoing ++
            [{ isReply := false, tag := 0, kind := 0xFF, body := [3] }] } }
        .linkFault none (.linkFault .timeout))) ∧
    (s.link.rx = .hunt → s.link.stray = .none → exec .partialFrameTimeout s = .next s)) ∧
  ∀ s : State, s.powered = true → s.link.rx = .hunt →
    (∀ b : Byte, b ≠ 0xC5 → exec (.frameFault [b]) s = .next
      { s with link := { s.link with
        held := []
        stray := if s.link.stray = .none ∨ s.link.stray = .run then .run else .faultRun } }) ∧
    (s.link.stray = .run → s.link.waitingMessages < 16 →
      (∀ (c : Instr) (rx : LinkState),
        c = .syncFound [0xC5] ∧ rx = .length ∨ c = .partialFrameTimeout ∧ rx = .hunt →
        exec c s = .next (State.raise { s with
          link := { s.link with
            rx := rx, held := [], stray := .none
            outgoing := s.link.outgoing ++
              [{ isReply := false, tag := 0, kind := 0xFF, body := [4] }] } }
          .linkFault none (.linkFault .stray)))) ∧
    (s.link.stray = .afterFault ∨ s.link.stray = .faultRun →
      exec (.syncFound [0xC5]) s = .next
        { s with link := { s.link with rx := .length, held := [], stray := .none } })

/-- O15. The link, the return path and the subtitle port each send their oldest message and nothing else
changes. With main power on: the end of a BUSY reply or FRAME-FAULT report takes it from the front
of the outgoing list, and its bytes on the link were SYNC 0xC5, LENGTH, TAG, KIND, BODY and the
CRC-16 of LENGTH to BODY; the return path forms and sends its oldest message: 0xA3, the type byte 1
to 4, the fields of a CREDIT, FETCH, HALT or RESTART, and the CRC-16 over type and fields; the
subtitle port finishes its oldest event. Nothing else changes. That the messages sent last are kept
is the model's own state (log entry 7). (R49, R162, R179, R184, R199) -/
def Obligations.PortsSendTheOldestFirst : Prop :=
  ∀ s : State, s.powered = true →
    (∀ m rest, s.link.outgoing = m :: rest → m.isReply = false →
      ∃ content : List Byte,
        content = leBytes 2 (m.body.length + 2) ++ [m.tag, m.kind] ++ m.body ∧
        exec .outgoingMessageSent s = .next { s with
          link := { s.link with
            outgoing := rest
            sent := some (0xC5 :: content ++ leBytes 2 (crc16 content).toNat) } }) ∧
    (∀ m rest, s.returns = m :: rest →
      ∃ content : List Byte,
        content = (match m with
          | .credit ch blocks => [1, ChannelId.number ch] ++ leBytes 2 blocks
          | .fetch ch epoch item id reel =>
            [2, ChannelId.number ch, epoch, byteOf item] ++ leBytes 8 id.toNat ++ [byteOf reel]
          | .halt ch epoch => [3, ChannelId.number ch, epoch]
          | .restart ch epoch allotment => [4, ChannelId.number ch, epoch] ++ leBytes 2 allotment) ∧
        exec .returnMessageSend s = .next { s with
          returns := rest
          returnOut := some (0xA3 :: content ++ leBytes 2 (crc16 content).toNat) }) ∧
    (∀ e rest, s.subtitlePort = e :: rest →
      exec .subtitlePortSend s = .next { s with subtitlePort := rest })

/-- O16. At most 16 BUSY replies and FRAME-FAULT reports wait, and a frame waits only behind one in
execution. Every step keeps the link law: at most 16 messages other than the executed request's
reply wait in the outgoing list, and the waiting place is full only while the execution place is.
That the 16 include a message being sent is log entry 28 (DEDUCED). (R182, R184) -/
def Obligations.LinkLawIsKept : Prop :=
  ∀ s t : State, LinkLaw s → step s = .next t → LinkLaw t

/-- O17. CLEAR-NOTICES removes latched entries only, MASK-NOTICES and CLEAR-RESET-CAUSE change the marks
named. ALL-LATCHED removes every latched entry. LISTED with 1 to 24 pairs in range removes the
latched entries that a pair names. Condition entries stay. The reply gives OK, the number removed,
and the pending and unmasked pending counts after; ATTN is asserted exactly when an unmasked entry
is left. Nothing else changes. MASK-NOTICES with bit 15 of value and change clear gives each kind
whose change bit is 1 the mark of its value bit and keeps the others; the reply gives the masks
before and after and the unmasked pending count; ATTN follows. CLEAR-RESET-CAUSE with a mask of at
most 15 clears the flags whose bit is 1 and keeps the others; the reply gives the flags before and
after. Nothing else changes. The flags bytes of CLEAR-RESET-CAUSE's reply are log entry 15 (DESIGN
CHOICE). (R193, R191, R187) -/
def Obligations.NoticeSetAndCauseFlagsChangeAsAsked : Prop :=
  (∀ (s : State) (tag : Byte), s.takes tag →
    ∀ (mode : Byte) (pairs : List NoticePair) (test : Notice → Bool),
    (mode = 0 ∧ pairs = [] ∧ test = (fun _ => true) ∨
      mode = 1 ∧ 1 ≤ pairs.length ∧ pairs.length ≤ 24 ∧
        (∀ p ∈ pairs, 1 ≤ p.kind.toNat ∧ p.kind.toNat ≤ 15 ∧
          (p.channel = 0 ∨ p.channel = 1 ∨ p.channel = 255)) ∧
        test = (fun n => pairs.any (fun p =>
          n.kind.code = p.kind.toNat && noticeChannelByte n.channel = p.channel))) →
    let kept := s.notices.filter (fun n => !(n.kind.latched && test n))
    let unmasked := kept.filter (fun n => !maskedBy s.masks n.kind)
    exec (.clearNotices tag mode pairs) s = .next
      (State.answered { s with notices := kept, attn := !unmasked.isEmpty } tag 0x61
        [0, byteOf (s.notices.length - kept.length), byteOf kept.length, byteOf unmasked.length])) ∧
  (∀ (s : State) (tag : Byte), s.takes tag →
    (∀ value change : Half, value.msb = false → change.msb = false →
      ∃ masks : BitVec 15,
        (∀ k : NoticeKind, maskedBy masks k =
          if change.getLsbD (k.code - 1) then value.getLsbD (k.code - 1) else maskedBy s.masks k) ∧
        exec (.maskNotices tag value change) s = .next
          (State.answered { s with masks := masks, attn := s.notices.any (fun n => !maskedBy masks n.kind) }
            tag 0x62 (0 :: leBytes 2 s.masks.toNat ++ leBytes 2 masks.toNat ++
              [byteOf (s.notices.countP (fun n => !maskedBy masks n.kind))]))) ∧
    (∀ mask : Byte, mask.toNat ≤ 15 →
      ∃ after : ResetCause,
        after.mainPower = (s.cause.mainPower && !mask.getLsbD 0) ∧
        after.retainedLost = (s.cause.retainedLost && !mask.getLsbD 1) ∧
        after.pin = (s.cause.pin && !mask.getLsbD 2) ∧
        after.command = (s.cause.command && !mask.getLsbD 3) ∧
        exec (.clearResetCause tag mask) s = .next
          (State.answered { s with cause := after } tag 0x03 [0, s.cause.byte, after.byte])))

/-- O18. READ-NOTICES lists every entry by level, then kind code, then channel, and changes nothing but
the link. READ-NOTICES replies OK with the pending and the unmasked pending counts and every entry
of the set once, highest level first, then lowest kind code, then channel A before channel B. The
bytes of an entry's detail follow the widths of R197 (log entry 14). That the 12 counts of a CUE-
DROPPED detail have no number byte before them is log entry 43 (DESIGN CHOICE). (R192, R197) -/
def Obligations.ReadNoticesListsTheSetInOrder : Prop :=
  ∀ (s : State) (tag : Byte), s.takes tag →
    ∃ sorted : List Notice, sorted.Perm s.notices ∧
      sorted.Pairwise (fun a b => b.kind.level < a.kind.level ∨ a.kind.level = b.kind.level ∧
        (a.kind.code < b.kind.code ∨ a.kind.code = b.kind.code ∧
          ¬(a.channel = some .b ∧ b.channel = some .a))) ∧
      exec (.readNotices tag) s = .next (s.answered tag 0x60
        ([0, byteOf s.notices.length,
          byteOf (s.notices.countP (fun n => !maskedBy s.masks n.kind))] ++
          (sorted.map (Notice.bytes s.masks)).flatten))

/-- O19. ATTN follows the set and masks, one entry per kind and channel, conditions present exactly
while they hold. Every step keeps the notice laws: ATTN is asserted exactly while an entry of an
unmasked kind is pending, no two entries share kind and channel, and no repeat count passes 255.
Every step keeps the condition law of a part with main power: CLOCK-UNSET is in the pending set
exactly while the booth clock is UNSET, and LOG-LOW exactly while the free records of the showing
log number 16 or fewer. (R190, R191, R90, R107, R194) -/
def Obligations.NoticeLawsAreKept : Prop :=
  ∀ s t : State, AttnLaw s ∧ NoticeLaw s ∧ ConditionLaw s → step s = .next t →
    AttnLaw t ∧ NoticeLaw t ∧ ConditionLaw t

/-- O20. LOAD-COMPOSITION fills the lowest EMPTY slot, and DROP-COMPOSITION empties an unreferenced one.
A valid record whose id is in no slot is stored in the lowest-numbered EMPTY slot with reference
count 0, and the reply carries OK and the slot. A slot that is occupied with reference count 0 is
emptied by DROP-COMPOSITION; with a count above 0 it is refused IN-USE with the count; an EMPTY slot
is refused NOT-FOUND and a slot above 31 BAD-VALUE. Nothing else changes. (R1, R2, R3, R4, R5) -/
def Obligations.CompositionTableLoadsAndDrops : Prop :=
  ∀ (s : State) (tag : Byte), s.takes tag →
    (∀ (c : Composition) (i : Nat), ValidComposition c →
      (∀ n o, s.compositionSlot n = some o → o.record.id ≠ c.id) →
      s.compositions[i]? = some none → (∀ j < i, s.compositions[j]? ≠ some none) →
      exec (.loadComposition tag c) s = .next
        (State.answered { s with compositions := s.compositions.set i (some { record := c, refs := 0 }) } tag
          0x20 [0, byteOf i])) ∧
    (∀ (slot : Byte) (o : CompositionSlot), slot.toNat < 32 → s.compositionSlot slot.toNat = some o →
      exec (.dropComposition tag slot) s = .next
        (if o.refs = 0 then
          State.answered { s with compositions := s.compositions.set slot.toNat none } tag 0x21 [0, 0]
        else s.answered tag 0x21 [0x07, byteOf o.refs])) ∧
    (∀ slot : Byte, slot.toNat < 32 → s.compositionSlot slot.toNat = none →
      exec (.dropComposition tag slot) s = .next (s.answered tag 0x21 [0x06, 0])) ∧
    (∀ slot : Byte, 32 ≤ slot.toNat →
      exec (.dropComposition tag slot) s = .next (s.answered tag 0x21 [0x04, 0]))

/-- O21. READ-COMPOSITION gives the mark, the count and the record, all 0 for an EMPTY slot, and changes
nothing. READ-COMPOSITION of an occupied slot replies OK, OCCUPIED, the reference count and the
stored record; of an EMPTY slot OK and fields all 0; a slot above 31 is refused BAD-VALUE. Nothing
but the link changes. That the two counts of the lists stand before both lists is log entry 14
(DESIGN CHOICE). (R6, R1, R197) -/
def Obligations.ReadCompositionShowsTheSlot : Prop :=
  ∀ (s : State) (tag slot : Byte), s.takes tag →
    (∀ o, slot.toNat < 32 → s.compositionSlot slot.toNat = some o →
      exec (.readComposition tag slot) s = .next
        (s.answered tag 0x22 ([0, 1, byteOf o.refs] ++ compositionBytes o.record))) ∧
    (slot.toNat < 32 → s.compositionSlot slot.toNat = none →
      exec (.readComposition tag slot) s = .next (s.answered tag 0x22 (0 :: List.replicate 23 0))) ∧
    (32 ≤ slot.toNat →
      ∃ fields, exec (.readComposition tag slot) s = .next (s.answered tag 0x22 (0x04 :: fields)))

/-- O22. LOAD-SHOW installs a list and CLEAR-SHOW removes it, with the reference counts moved as one
action. LOAD-SHOW in IDLE, LOADED or ENDED with 1 to 16 good items installs the list, sets the
channel LOADED with no position, and moves each slot's reference count by the difference of its
namings. CLEAR-SHOW in LOADED or ENDED removes the list, sets the channel IDLE with no position, and
takes the old namings from the counts. The other channel and everything else stay. (R2, R8, R9, R10,
R126) -/
def Obligations.ShowListsTakeAndGiveReferences : Prop :=
  ∀ (s : State) (tag : Byte) (ch : ChannelId), s.takes tag →
    (∀ items : List ShowItem, (s.chan ch).state ∈ [.idle, .loaded, .ended] →
      1 ≤ items.length → items.length ≤ 16 →
      (∀ i ∈ items, i.slot.toNat < 32 ∧ i.pauseAfter.toNat ≤ 1 ∧
        ∃ c, s.composition i.slot.toNat = some c ∧ i.entryReel.toNat < c.reels.length ∧
          c.sampleRate.toNat = (s.chan ch).config.sampleRate) →
      ∃ t : State, exec (.loadShow tag (ChannelId.number ch) items) s =
          .next (t.answered tag 0x23 [0, byteOf items.length]) ∧
        t = { s.setChan ch { s.chan ch with
            showList := some items, state := .loaded, position := none, lastRecord := none } with
          compositions := t.compositions } ∧
        ∀ n, t.compositionSlot n = (s.compositionSlot n).map (fun o =>
          { o with refs := o.refs + namings items n - namings (s.chan ch).items n })) ∧
    ((s.chan ch).state ∈ [.loaded, .ended] →
      ∃ t : State, exec (.clearShow tag (ChannelId.number ch)) s = .next (t.answered tag 0x24 [0]) ∧
        t = { s.setChan ch { s.chan ch with
            showList := none, state := .idle, position := none, lastRecord := none } with
          compositions := t.compositions } ∧
        ∀ n, t.compositionSlot n = (s.compositionSlot n).map (fun o =>
          { o with refs := o.refs - namings (s.chan ch).items n }))

/-- O23. CONFIGURE-CHANNEL stores the rate and the clamped depths and limit, and replies with them. With
a rate of 48000 or 96000 that is the channel's own or is set in IDLE, the priming depth is clamped
to 8 to 96, the resume depth to 4 up to that priming depth, and the stall limit to 1 to 250; the
reply carries OK and the four values. A change of rate in another state is refused WRONG-STATE.
Nothing else changes. (R13, R14) -/
def Obligations.ConfigurationIsClamped : Prop :=
  ∀ (s : State) (tag : Byte) (ch : ChannelId) (rate : Word) (priming resume stall : Half),
    s.takes tag → (rate.toNat = 48000 ∨ rate.toNat = 96000) →
    (((s.chan ch).config.sampleRate = rate.toNat ∨ (s.chan ch).state = .idle) →
      ∃ p r l, p = max 8 (min 96 priming.toNat) ∧ r = max 4 (min p resume.toNat) ∧
        l = max 1 (min 250 stall.toNat) ∧
        exec (.configureChannel tag (ChannelId.number ch) rate priming resume stall) s = .next
          ((s.setChan ch { s.chan ch with
              config := { sampleRate := rate.toNat, priming := p, resume := r, stallLimit := l } }).answered
            tag 0x10 (0 :: leBytes 4 rate.toNat ++ leBytes 2 p ++ leBytes 2 r ++ leBytes 2 l))) ∧
    ((s.chan ch).config.sampleRate ≠ rate.toNat → (s.chan ch).state ≠ .idle →
      ∃ fields, exec (.configureChannel tag (ChannelId.number ch) rate priming resume stall) s =
        .next (s.answered tag 0x10 (0x05 :: fields)))

/-- O24. Every slot that a show item names is occupied, and its count is the number of items that name
it. Every step keeps the reference law: each item of either show list names an occupied slot, and
the reference count of an occupied slot is the number of items of both lists that name it. (R2) -/
def Obligations.ReferenceLawIsKept : Prop :=
  ∀ s t : State, ReferenceLaw s → step s = .next t → ReferenceLaw t

/-- O25. SET-TRACKS, SET-STYLE, SET-SUBTITLE-OFFSET and SET-ROUTE store their setting and nothing else.
In range, SET-TRACKS changes the enable marks of its mask and replies the set before and after; SET-
STYLE stores handle and minimum and replies the old ones; SET-SUBTITLE-OFFSET stores the offset
clamped to -250 to 250 and replies it; SET-ROUTE with 16 entries in range makes the map with its
delays clamped to 1000 the pending image and replies the delays and whether an image was pending.
Nothing else changes. The order of two one-byte masks in SET-TRACKS's reply is in log entry 15. That
the 16 stored delays of SET-ROUTE's reply have no number byte before them is log entry 43 (DESIGN
CHOICE). (R157, R158, R159, R169) -/
def Obligations.SettingsAreStored : Prop :=
  ∀ (s : State) (tag : Byte) (ch : ChannelId), s.takes tag →
    (∀ value mask : Byte, value.toNat ≤ 15 → mask.toNat ≤ 15 →
      ∃ new : BitVec 4, (∀ t < 4, new.getLsbD t =
          if mask.getLsbD t then value.getLsbD t else (s.chan ch).subs.enabled.getLsbD t) ∧
        exec (.setTracks tag (ChannelId.number ch) value mask) s = .next
          ((s.setChan ch { s.chan ch with subs := { (s.chan ch).subs with enabled := new } }).answered tag
            0x11 [0, (s.chan ch).subs.enabled.setWidth 8, new.setWidth 8])) ∧
    (∀ (style : Byte) (handle : Half) (minimum : Byte), style.toNat ≤ 15 → minimum.toNat ≤ 48 →
      ∀ old, (s.chan ch).subs.styles[style.toNat]? = some old →
      exec (.setStyle tag (ChannelId.number ch) style handle minimum) s = .next
        ((s.setChan ch { s.chan ch with subs := { (s.chan ch).subs with
            styles := (s.chan ch).subs.styles.set style.toNat
              { handle := handle, minimum := minimum.toNat } } }).answered tag
          0x13 (0 :: leBytes 2 old.handle.toNat ++ [byteOf old.minimum]))) ∧
    (∀ (track : Byte) (offset : Half), track.toNat ≤ 3 →
      exec (.setSubtitleOffset tag (ChannelId.number ch) track offset) s = .next
        ((s.setChan ch { s.chan ch with subs := { (s.chan ch).subs with
            offsets := (s.chan ch).subs.offsets.set track.toNat (max (-250) (min 250 offset.toInt)) } }).answered
          tag 0x14 (0 :: leBytes 2 (BitVec.ofInt 16 (max (-250) (min 250 offset.toInt))).toNat))) ∧
    (∀ lanes : List LaneEntry, lanes.length = 16 →
      (∀ e ∈ lanes, (e.source.toNat ≤ 15 ∨ e.source = 255) ∧ (e.gain.toNat ≤ 120 ∨ e.gain = 255)) →
      ∃ image : List LaneSetting,
        image = lanes.map (fun e =>
          { source := if e.source = 255 then none else some e.source.toNat
            gain := if e.gain = 255 then none else some e.gain.toNat
            delay := min 1000 e.delay.toNat }) ∧
        exec (.setRoute tag (ChannelId.number ch) lanes) s = .next
          ((s.setChan ch { s.chan ch with
              sound := { (s.chan ch).sound with pendingMap := some image } }).answered tag
            0x12 (0 :: (image.map (fun e => leBytes 2 e.delay)).flatten ++
              [flagByte (s.chan ch).sound.pendingMap.isSome])))

/-- O26. LOAD-LICENCE begins an unwrap, whose end stores licence and keys in the lowest EMPTY slots or
refuses. With 1 to 16 keys, values and kinds in range, an id not in the table, key ids that are
neither in the key table nor repeated, an EMPTY licence slot, enough EMPTY key slots, and a window
that has not ended, LOAD-LICENCE begins its unwrap: it holds the execution place and nothing else
changes, and no reply is produced. A key sealed under the device key unwraps to its material; of
other bytes an operand of the command says whether the check passes (log entry 4). When every key
has unwrapped and the window has not ended, the licence is stored in the lowest EMPTY licence slot,
OPEN or LOADED by the clock, with counts 0, and its keys, in request order, in the lowest EMPTY key
slots with their material; the reply carries OK, index and state. When a key fails, the reply is
WRAP-FAULT with the first failing key's position; when the window has ended, WINDOW-CLOSED; then
nothing is stored. The order of the refusal's fields is log entry 14 (DESIGN CHOICE). (R76, R77,
R78, R79) -/
def Obligations.LicencesLoadThroughTheirUnwrap : Prop :=
  (∀ (s : State) (tag : Byte) (load : LicenceLoad), s.takes tag →
    1 ≤ load.keys.length → load.keys.length ≤ 16 → load.id ≠ 0 →
    load.windowStart.toNat < load.windowEnd.toNat → load.cap ≠ 0 → 1 ≤ load.percent.toNat →
    load.percent.toNat ≤ 100 →
    (∀ k ∈ load.keys, k.id ≠ 0 ∧ 1 ≤ k.kind.toNat ∧ k.kind.toNat ≤ 3 ∧ s.findKey k.id = none) →
    (load.keys.map (·.id)).Nodup → (∀ i l, s.licence i = some l → l.id ≠ load.id) →
    none ∈ s.licences → load.keys.length ≤ s.keys.countP (·.isNone) →
    (s.clock.set = true → s.clock.time < load.windowEnd.toNat) →
    exec (.loadLicence tag load) s = .next { s with
      link := { s.link with
        executing := some { tag := tag, kind := 0x40, stage := .unwrapping load } } }) ∧
  (∀ (s : State) (e : Executing) (load : LicenceLoad) (passes : List Bool), s.powered = true →
    s.link.executing = some e → e.stage = .unwrapping load →
    (∀ (ms : List Material) (i : Nat), ms.length = load.keys.length →
      (∀ (n : Nat) (k : KeyEntry) (m : Material), load.keys[n]? = some k → ms[n]? = some m → k.wrapped = sealKey m ∨
        (∀ x, k.wrapped ≠ sealKey x) ∧ passes[n]? = some true ∧ m = Config.unsealedMaterial k.wrapped) →
      (∀ k ∈ load.keys, (keyKindOf k.kind).isSome = true) →
      (s.clock.set = true → s.clock.time < load.windowEnd.toNat) →
      s.licences[i]? = some none → (∀ j < i, s.licences[j]? ≠ some none) →
      load.keys.length ≤ s.keys.countP (·.isNone) →
      ∃ (t : State) (slots : List Nat) (st : LicenceState),
        st = (if s.clock.set = true ∧ load.windowStart.toNat ≤ s.clock.time then .opened else .loaded) ∧
        exec (.licenceUnwrapComplete passes) s =
          .next (t.answered e.tag e.kind [0, byteOf i, st.code]) ∧
        t = { s with
          keys := t.keys
          licences := s.licences.set i (some
            { id := load.id, matchValue := load.matchValue, matchMask := load.matchMask,
              windowStart := load.windowStart.toNat, windowEnd := load.windowEnd.toNat,
              cap := load.cap.toNat, percent := load.percent.toNat, charged := 0, reserved := 0,
              pins := 0, state := st, keys := slots }) } ∧
        slots.length = load.keys.length ∧ slots.Pairwise (· < ·) ∧
        (∀ (n : Nat) (k : KeyEntry) (m : Material) (kind : KeyKind), load.keys[n]? = some k → ms[n]? = some m → keyKindOf k.kind = some kind →
          ∃ j, slots[n]? = some j ∧ s.keys[j]? = some none ∧
            t.key j = some { id := k.id, kind := kind, owner := i, material := m }) ∧
        (∀ j, j ∉ slots → t.key j = s.key j) ∧
        ∀ j, s.keys[j]? = some none → j ∉ slots → ∀ x ∈ slots, x < j) ∧
    (∀ (n : Nat) (k : KeyEntry), load.keys[n]? = some k → (∀ x, k.wrapped ≠ sealKey x) →
      passes.getD n false = false →
      (∀ j < n, ∀ q, load.keys[j]? = some q →
        (∃ x, q.wrapped = sealKey x) ∨ passes.getD j false = true) →
      exec (.licenceUnwrapComplete passes) s =
        .next (s.answered e.tag e.kind [0x10, 255, 0, byteOf n])) ∧
    ((∀ (n : Nat) (k : KeyEntry), load.keys[n]? = some k →
        (∃ x, k.wrapped = sealKey x) ∨ passes.getD n false = true) →
      s.clock.set = true → load.windowEnd.toNat ≤ s.clock.time →
      exec (.licenceUnwrapComplete passes) s =
        .next (s.answered e.tag e.kind [0x0B, 255, 0, 255])))

/-- O27. REVOKE-LICENCE and DELETE-LICENCE act by the licence's state, and keys are erased with their
licence. REVOKE-LICENCE makes a LOADED or CLOSED licence, or an OPEN one without pins, REVOKED with
its key slots EMPTY and its key list empty; an OPEN licence with pins or a CLOSING one REVOKING; a
REVOKING or REVOKED one stays. The reply carries OK, the state and the pin count. DELETE-LICENCE
empties the slot and the key slots of a LOADED, CLOSED or REVOKED licence, and refuses OPEN with
WRONG-STATE and CLOSING and REVOKING with IN-USE. Nothing else changes. (R72, R75, R80, R82) -/
def Obligations.RevokeAndDeleteActByState : Prop :=
  ∀ (s : State) (tag index : Byte) (l : Licence), s.takes tag → index.toNat < 64 →
    s.licence index.toNat = some l →
    (l.state = .loaded ∨ l.state = .closed ∨ l.state = .opened ∧ l.pins = 0 →
      ∃ t : State, exec (.revokeLicence tag index) s = .next (t.answered tag 0x41 [0, 6, byteOf l.pins]) ∧
        t = { s with
          keys := t.keys
          licences := s.licences.set index.toNat (some { l with state := .revoked, keys := [] }) } ∧
        ∀ k, t.key k = if k ∈ l.keys then none else s.key k) ∧
    (l.state = .closing ∨ l.state = .opened ∧ l.pins ≠ 0 →
      exec (.revokeLicence tag index) s = .next
        (State.answered { s with
          licences := s.licences.set index.toNat (some { l with state := .revoking }) } tag 0x41
          [0, 4, byteOf l.pins])) ∧
    (l.state = .revoking ∨ l.state = .revoked →
      exec (.revokeLicence tag index) s = .next (s.answered tag 0x41 [0, l.state.code, byteOf l.pins])) ∧
    (l.state = .loaded ∨ l.state = .closed ∨ l.state = .revoked →
      ∃ t : State, exec (.deleteLicence tag index) s = .next (t.answered tag 0x42 [0]) ∧
        t = { s with keys := t.keys, licences := s.licences.set index.toNat none } ∧
        ∀ k, t.key k = if k ∈ l.keys then none else s.key k) ∧
    (l.state = .opened → exec (.deleteLicence tag index) s = .next (s.answered tag 0x42 [0x05])) ∧
    (l.state = .closing ∨ l.state = .revoking →
      exec (.deleteLicence tag index) s = .next (s.answered tag 0x42 [0x07]))

/-- O28. READ-LICENCE gives the state, the record and its keys, all 0 for an EMPTY slot, and changes
nothing. READ-LICENCE replies OK with the licence's state and record and, for each key of its key
list, the key index, key id and kind; for an EMPTY slot, OK with fields all 0. An index above 63 is
refused BAD-VALUE. Nothing but the link changes. That a REVOKED licence has no key is the law
RevokedLaw of the statement LicenceLawsAreKept. (R83) -/
def Obligations.ReadLicenceShowsTheRecord : Prop :=
  ∀ (s : State) (tag index : Byte), s.takes tag →
    (∀ l, index.toNat < 64 → s.licence index.toNat = some l →
      exec (.readLicence tag index) s = .next (s.answered tag 0x43
        ([0, l.state.code] ++ leBytes 8 l.id.toNat ++ leBytes 4 l.matchValue.toNat ++
          leBytes 4 l.matchMask.toNat ++ leBytes 4 l.windowStart ++ leBytes 4 l.windowEnd ++
          leBytes 2 l.cap ++ [byteOf l.percent] ++ leBytes 2 l.charged ++
          [byteOf l.reserved, byteOf l.pins, byteOf l.keys.length] ++
          (l.keys.map (keyReport s)).flatten)) ∧
      ∀ i k, s.key i = some k → keyReport s i = byteOf i :: leBytes 8 k.id.toNat ++ [k.kind.code]) ∧
    (index.toNat < 64 → s.licence index.toNat = none →
      exec (.readLicence tag index) s = .next (s.answered tag 0x43 (0 :: List.replicate 33 0))) ∧
    (64 ≤ index.toNat →
      ∃ fields, exec (.readLicence tag index) s = .next (s.answered tag 0x43 (0x04 :: fields)))

/-- O29. COUNTER-OP reads the counts, raises the cap, or lowers it to no less than charged plus reserved
and 1. On a LOADED, OPEN or CLOSING licence: READ replies the cap twice, the counts and a clear flag
and changes nothing; RAISE-CAP makes the cap the larger of cap and value; LOWER-CAP makes it the
smaller of cap and the largest of value, charged plus reserved, and 1. The reply carries the cap
before and after, charged, reserved and the changed flag. On a REVOKING, CLOSED or REVOKED licence
all three are refused WRONG-STATE. Nothing else changes. An index above 63 or an unknown operation
is refused BAD-VALUE, an EMPTY slot NOT-FOUND, and nothing but the link changes. (R84, R85) -/
def Obligations.CounterOpChangesTheCapAlone : Prop :=
  (∀ (s : State) (tag index : Byte) (value : Half) (l : Licence), s.takes tag → index.toNat < 64 →
    s.licence index.toNat = some l →
    let report := fun (cap : Nat) => 0 :: leBytes 2 l.cap ++ leBytes 2 cap ++ leBytes 2 l.charged ++
      [byteOf l.reserved, flagByte (l.cap ≠ cap)]
    let withCap := fun (cap : Nat) =>
      State.answered { s with licences := s.licences.set index.toNat (some { l with cap := cap }) } tag 0x44
        (report cap)
    (l.state = .loaded ∨ l.state = .opened ∨ l.state = .closing →
      exec (.counterOpRead tag index value) s = .next (s.answered tag 0x44 (report l.cap)) ∧
      exec (.raiseCap tag index value) s = .next (withCap (max l.cap value.toNat)) ∧
      exec (.lowerCap tag index value) s = .next
        (withCap (min l.cap (max (max value.toNat (l.charged + l.reserved)) 1)))) ∧
    (l.state = .revoking ∨ l.state = .closed ∨ l.state = .revoked →
      ∀ c ∈ [Instr.counterOpRead tag index value, .raiseCap tag index value, .lowerCap tag index value],
        ∃ fields, exec c s = .next (s.answered tag 0x44 (0x05 :: fields)))) ∧
  ∀ (s : State) (tag index op : Byte) (value : Half), s.takes tag →
    (64 ≤ index.toNat ∨ 3 ≤ op.toNat →
      ∃ fields, perform (.counterOp index op value) s = (s, .reply (0x04 :: fields))) ∧
    (∀ c ∈ [Instr.counterOpRead tag index value, .raiseCap tag index value, .lowerCap tag index value],
      (64 ≤ index.toNat → ∃ fields, exec c s = .next (s.answered tag 0x44 (0x04 :: fields))) ∧
      (index.toNat < 64 → s.licence index.toNat = none →
        ∃ fields, exec c s = .next (s.answered tag 0x44 (0x06 :: fields))))

/-- O30. SET-TIME, ADJUST-TIME and ticks move the booth clock, and every licence is judged against the
new time. SET-TIME in UNSET sets the clock to its time with a new second, ends CLOCK-UNSET and
judges the windows. ADJUST-TIME in SET by an amount within the account's 300 seconds and the range
of booth time moves the time, adds the amount to the account, which begins a new period where R88
says so, and judges the windows. Only the clock, licence states and notices change. SET-TIME in SET
and ADJUST-TIME in UNSET are refused. A tick in SET below the top of booth time raises the time by 1
and begins a new second; with main power on every licence is judged against the new time, with
LICENCE-CLOSING raised for an OPEN licence with pins whose window has ended, and without main power
no licence changes. In UNSET, and at the top of booth time, nothing changes. That ticks go on after
an adjustment back from the top is log entry 42 (DESIGN CHOICE). (R73, R87, R88, R90, R86) -/
def Obligations.TheClockMovesLicencesThroughTheirWindows : Prop :=
  (∀ (s : State) (tag : Byte), s.takes tag →
    (∀ time : Word, s.clock.set = false →
      ∃ t : State, exec (.setTime tag time) s = .next (t.answered tag 0x48 (0 :: leBytes 4 time.toNat)) ∧
        t = { s with
          licences := t.licences, notices := t.notices, attn := t.attn
          clock := { s.clock with set := true, time := time.toNat, phase := 0 } } ∧
        WindowsJudged s t time.toNat ∧ t.hasCondition .clockUnset = false) ∧
    (∀ time : Word, s.clock.set = true →
      ∃ fields, exec (.setTime tag time) s = .next (s.answered tag 0x48 (0x05 :: fields))) ∧
    (∀ (amount : Half) (start used : Nat), s.clock.set = true →
      ((∀ p, s.clock.periodStart = some p → p + 2592000 ≤ s.clock.time) ∧ start = s.clock.time ∧ used = 0 ∨
        s.clock.periodStart = some start ∧ s.clock.time < start + 2592000 ∧ used = s.clock.used) →
      used + amount.toInt.natAbs ≤ 300 → 0 ≤ (s.clock.time : Int) + amount.toInt →
      (s.clock.time : Int) + amount.toInt ≤ 4294967295 →
      ∃ t : State, exec (.adjustTime tag amount) s = .next (t.answered tag 0x49
          (0 :: leBytes 4 ((s.clock.time : Int) + amount.toInt).toNat ++
            leBytes 2 (used + amount.toInt.natAbs))) ∧
        t = { s with
          licences := t.licences, notices := t.notices, attn := t.attn
          clock := { s.clock with
            time := ((s.clock.time : Int) + amount.toInt).toNat, periodStart := some start
            used := used + amount.toInt.natAbs } } ∧
        WindowsJudged s t ((s.clock.time : Int) + amount.toInt).toNat) ∧
    (∀ amount : Half, amount.toInt.natAbs ≤ 300 → s.clock.set = false →
      ∃ fields, exec (.adjustTime tag amount) s = .next (s.answered tag 0x49 (0x09 :: fields)))) ∧
  (∀ s : State,
    (s.clock.set = true → s.clock.time < 4294967295 →
      ∃ t : State, exec .boothClockTick s = .next t ∧
        t = { s with
          licences := t.licences, notices := t.notices, attn := t.attn
          clock := { s.clock with time := s.clock.time + 1, phase := 0 } } ∧
        (s.powered = true → WindowsJudged s t (s.clock.time + 1)) ∧
        (s.powered = false → t.licences = s.licences ∧ t.notices = s.notices ∧ t.attn = s.attn)) ∧
    (s.clock.set = false ∨ 4294967295 ≤ s.clock.time → exec .boothClockTick s = .next s))

/-- O31. Charged plus reserved stays within the cap, a REVOKED licence holds no keys, the account stays
within 300. Every step keeps, for every licence, charged plus reserved within the cap; no key in the
key list of a REVOKED licence; and at most 300 seconds in the adjustment account. (R74, R75, R83,
R85, R88) -/
def Obligations.LicenceLawsAreKept : Prop :=
  ∀ s t : State, CapLaw s ∧ RevokedLaw s ∧ AccountLaw s → step s = .next t →
    CapLaw t ∧ RevokedLaw t ∧ AccountLaw t

/-- O32. No step lowers a licence's charged count or takes a CLOSED or REVOKED licence back. Whatever
the command, a licence of a slot either leaves its slot or stays there with the same id, a charged
count that is not smaller, and, if it was CLOSED or REVOKED, still CLOSED or REVOKED. No invariant
is presumed. (R72) -/
def Obligations.LicencesNeverReturn : Prop :=
  ∀ (s t : State) (i : Nat) (l : Licence), step s = .next t → s.licence i = some l →
    t.licence i = none ∨ ∃ l', t.licence i = some l' ∧ l'.id = l.id ∧ l.charged ≤ l'.charged ∧
      (l.state.final = true → l'.state.final = true)

/-- O33. A licence's pins are the admission records that name it, and its reserved those that hold a
reservation. Every step keeps the record laws of a part with main power: pins and reserved of every
licence equal the numbers of admission records of both channels that name it and that hold a
reservation on it; every named licence is in the table; a LOADED, CLOSED or REVOKED licence has no
pins; and the names by which the model tells a channel's records apart are distinct and not used
again (log entry 9). (R74, R82, R91, R93, R100) -/
def Obligations.PinsAndReservationsCountTheRecords : Prop :=
  ∀ s t : State, RecordLaws s → step s = .next t → RecordLaws t

/-- O34. An admission that names a licence passed every check of R96, and one that names none is of a
plain item. When the judgment of an admission names a licence: the clock is SET, a log record is
free, every non-zero key id from the entry reel on resolves to a key record of that licence, the
licence covers the title, is OPEN, has the booth time in its window, and has charged plus reserved
below its cap. When it names none, no key id from the entry reel on is non-zero. (R95, R96, R70) -/
def Obligations.AdmissionFindsOneUsableLicence : Prop :=
  ∀ (s : State) (c : Composition) (reel : Nat),
    (∀ i, judgeAdmission s c reel = .ok (some i) →
      s.clock.set = true ∧ s.log.length < 128 ∧ s.nextSeq ≤ 4294967295 ∧
      ∃ l, s.licence i = some l ∧ l.state = .opened ∧ l.windowStart ≤ s.clock.time ∧
        s.clock.time < l.windowEnd ∧ l.charged + l.reserved < l.cap ∧
        (c.title ^^^ l.matchValue) &&& ~~~l.matchMask = 0 ∧
        ∀ r ∈ c.reels.drop reel, ∀ id ∈ [r.pictureKey, r.soundKey, r.subtitleKey], id ≠ 0 →
          ∃ k, s.findKey id = some k ∧ k.owner = i) ∧
    (judgeAdmission s c reel = .ok none →
      (∀ r ∈ c.reels.drop reel, r.pictureKey = 0 ∧ r.soundKey = 0 ∧ r.subtitleKey = 0) ∧
      (c.logged = 1 → s.log.length < 128))

/-- O35. READ-LOG returns the oldest records, and RELEASE-LOG removes CLOSED records from the head.
READ-LOG clamps its count to 1 to 8 and replies OK with the number of records returned, the free
records and the oldest records in log order, changing nothing but the link. RELEASE-LOG of n held
records, 1 to 128, all CLOSED, with the oldest record's sequence number given, removes the oldest n,
and LOG-LOW is present exactly when 16 or fewer records are free after; it replies OK, the free
records and the new oldest number, or 0. A count outside 1 to 128 or above the records held is
refused BAD-VALUE, another number NOT-FOUND, and an OPEN record among the n IN-USE, in that order;
nothing but the link changes then. (R107, R108, R109, R200) -/
def Obligations.LogIsReadAndReleasedFromTheHead : Prop :=
  ∀ (s : State) (tag count : Byte), s.takes tag →
    (∀ out, out = s.log.take (max 1 (min 8 count.toNat)) →
      exec (.readLog tag count) s = .next (s.answered tag 0x50
        ([0, byteOf out.length, byteOf (128 - s.log.length)] ++ (out.map logBytes).flatten))) ∧
    (∀ (oldest : Word) (head : LogRecord), 1 ≤ count.toNat → count.toNat ≤ 128 →
      count.toNat ≤ s.log.length → s.log[0]? = some head →
      (head.seq = oldest.toNat → (∀ g ∈ s.log.take count.toNat, g.closed = true) →
        ∃ t : State, exec (.releaseLog tag count oldest) s = .next (t.answered tag 0x51
            ([0, byteOf (128 - (s.log.length - count.toNat))] ++
              leBytes 4 (((s.log[count.toNat]?).map (·.seq)).getD 0))) ∧
          t = { s with log := s.log.drop count.toNat, notices := t.notices, attn := t.attn } ∧
          t.hasCondition .logLow = decide (128 - (s.log.length - count.toNat) ≤ 16) ∧
          (∀ n, n.kind ≠ .logLow → (n ∈ t.notices ↔ n ∈ s.notices))) ∧
      (head.seq = oldest.toNat → (∃ g ∈ s.log.take count.toNat, g.closed = false) →
        ∃ fields, exec (.releaseLog tag count oldest) s = .next (s.answered tag 0x51 (0x07 :: fields))) ∧
      (head.seq ≠ oldest.toNat →
        ∃ fields, exec (.releaseLog tag count oldest) s = .next (s.answered tag 0x51 (0x06 :: fields)))) ∧
    ∀ oldest : Word, count.toNat = 0 ∨ 128 < count.toNat ∨ s.log.length < count.toNat →
      ∃ fields, exec (.releaseLog tag count oldest) s = .next (s.answered tag 0x51 (0x04 :: fields))

/-- O36. The log holds at most 128 records in rising sequence numbers, all below the next one. Every
step keeps the log law: at most 128 log records, strictly rising sequence numbers in log order, and
every one below the next sequence number. (R106, R107) -/
def Obligations.LogLawIsKept : Prop :=
  ∀ s t : State, LogLaw s → step s = .next t → LogLaw t

/-- O37. An accepted CUE flushes, restarts the port, admits and fetches the start item, and sets CUEING.
In LOADED or ENDED, with a start item and reel in range whose admission passes: the epoch rises, the
queue is empty, the credit 512, the restart epoch the new epoch and the stale count 0; RESTART and
then FETCH are sent; every slot is FREE; a fresh admission record is appended and fetched; the
licence named is reserved and pinned; a log record is taken when one is needed; stall count, latch
and refusal mark are clear; the position is the start position, not presented; the reply carries OK,
item, reel and the new epoch. The other channel is untouched. With a log record its count point is
the frames from the start reel times the licence's count percent (50 without a licence), divided by
100, rounded up, and at least 1. The subtitle scheduler holds no context, no stored or shown cue and
no jump mark, its bank turn is 0, and its styles, offsets and track enable set are kept; no subtitle
event is sent. The sound router takes the channel's sample rate; every lane's line has the length of
the delay of the map in force at that rate and is emptied when the length changes; the sound mark is
QUIET; the map in force, the pending image and running decays are kept (a decay keeps its length:
log entry 10, DEDUCED). (R115, R116, R117, R46, R47, R98, R74, R32, R166, R177, R28) -/
def Obligations.CueStartsAShow : Prop :=
  ∀ (s : State) (tag item reel : Byte) (ch : ChannelId) (n r : Nat) (i : ShowItem) (comp : Composition)
    (licence : Option Nat), s.takes tag → (s.chan ch).state ∈ [.loaded, .ended] →
    n = (if item = 255 then 0 else item.toNat) → (s.chan ch).items[n]? = some i →
    s.composition i.slot.toNat = some comp →
    r = (if reel = 255 then i.entryReel.toNat else reel.toNat) → r < comp.reels.length →
    judgeAdmission s comp r = .ok licence →
    ∃ (t : State) (a : AdmissionRecord), exec (.cue tag (ChannelId.number ch) item reel) s =
        .next (t.answered tag 0x30 [0, byteOf n, byteOf r, (s.chan ch).epoch + 1]) ∧
      t.chan ch = { s.chan ch with
        state := .cueing, epoch := (s.chan ch).epoch + 1, restartEpoch := (s.chan ch).epoch + 1
        queue := [], granted := 512, stale := 0, stallCount := 0, latch := false, refusal := false
        slots := (s.chan ch).slots.map (fun _ => .free), present := (s.chan ch).take
        records := (s.chan ch).records ++ [a], nextIdent := (s.chan ch).nextIdent + 1
        noNext := false, lastRecord := none
        assembly := Assembly.mk (some a.ident) (.start r) false UnpackCounts.zero
        position := some { pos := { item := n, reel := r, frame := 0 }, presented := false }
        subs := { (s.chan ch).subs with
          contexts := [], pendingCues := [], shown := [], jumpMark := false, turn := 0, served := none }
        sound := { (s.chan ch).sound with
          rate := (s.chan ch).config.sampleRate, mark := .quiet
          lanes := (s.chan ch).sound.lanes.map (fun l => { l with
            line := if l.line.length = (l.setting.delay * (s.chan ch).config.sampleRate + 5000) / 10000
              then l.line
              else List.replicate
                ((l.setting.delay * (s.chan ch).config.sampleRate + 5000) / 10000) 0 }) } } ∧
      a.item = n ∧ a.slot = i.slot.toNat ∧ a.entryReel = r ∧ a.licence = licence ∧
      a.countPoint = (if needsLog comp r then some (max 1
        ((comp.framesFrom r * ((licence.bind s.licence).map (fun l => l.percent)).getD 50 + 99) / 100))
        else none) ∧
      a.charged = false ∧ a.chargeable = true ∧ a.presented = 0 ∧ a.held = 0 ∧ a.damaged = 0 ∧
      t.returns = s.returns ++ [.restart ch ((s.chan ch).epoch + 1) 512,
        .fetch ch ((s.chan ch).epoch + 1) n comp.id r] ∧
      (∀ j, t.licence j = if licence = some j then
        (s.licence j).map (fun l => { l with reserved := l.reserved + 1, pins := l.pins + 1 })
        else s.licence j) ∧
      (if needsLog comp r then
        ∃ g, t.log = s.log ++ [g] ∧ t.nextSeq = s.nextSeq + 1 ∧ a.logSeq = some s.nextSeq ∧
          g.seq = s.nextSeq ∧ g.compositionId = comp.id ∧ g.admitted = s.clock.time ∧ g.closed = false
      else t.log = s.log ∧ t.nextSeq = s.nextSeq ∧ a.logSeq = none) ∧
      (t.chan ch.other = s.chan ch.other ∧ t = { s with
        chanA := t.chanA, chanB := t.chanB, returns := t.returns, licences := t.licences, log := t.log
        nextSeq := t.nextSeq, notices := t.notices, attn := t.attn, work := t.work })

/-- O38. START, PAUSE and RESUME move the channel state as R119, R124, R125 and R150 state. START in
PRIMED sets PLAYING and arms the timer at count 0. PAUSE in PLAYING or HOLDING sets PAUSED. RESUME
in PAUSED sets PLAYING with stall count 0 when the show is over or the slot at the present pointer
is READY, and HOLDING otherwise. RESUME in SUSPENDED is refused STALL-LATCHED with the latch set and
NOT-READY below the resume depth, and sets PLAYING otherwise. In other states each is refused WRONG-
STATE. Nothing else changes. The layout of the NOT-READY reply (state 0, READY count, depth) is log
entry 14 (DESIGN CHOICE). (R115, R119, R124, R125, R150) -/
def Obligations.StartPauseAndResume : Prop :=
  ∀ (s : State) (tag : Byte) (ch : ChannelId), s.takes tag →
    ((s.chan ch).state = .primed →
      exec (.start tag (ChannelId.number ch)) s = .next
        ((s.setChan ch { s.chan ch with
            state := .playing, timer := { (s.chan ch).timer with state := .armed, count := 0 } }).answered
          tag 0x31 [0])) ∧
    ((s.chan ch).state ≠ .primed →
      exec (.start tag (ChannelId.number ch)) s = .next (s.answered tag 0x31 [0x05])) ∧
    ((s.chan ch).state ∈ [.playing, .holding] →
      exec (.pause tag (ChannelId.number ch)) s = .next
        ((s.setChan ch { s.chan ch with state := .paused }).answered tag 0x32 [0])) ∧
    ((s.chan ch).state ∉ [.playing, .holding] →
      exec (.pause tag (ChannelId.number ch)) s = .next (s.answered tag 0x32 [0x05])) ∧
    ((s.chan ch).state = .paused → (s.showOver ch = true ∨
        ((s.chan ch).slotAt (s.chan ch).present).isReady = true) →
      exec (.resume tag (ChannelId.number ch)) s = .next
        ((s.setChan ch { s.chan ch with state := .playing, stallCount := 0 }).answered tag 0x33 [0, 4])) ∧
    ((s.chan ch).state = .paused → s.showOver ch = false →
        ((s.chan ch).slotAt (s.chan ch).present).isReady = false →
      exec (.resume tag (ChannelId.number ch)) s = .next
        ((s.setChan ch { s.chan ch with state := .holding }).answered tag 0x33 [0, 6])) ∧
    ((s.chan ch).state = .suspended → (s.chan ch).latch = true →
      exec (.resume tag (ChannelId.number ch)) s = .next (s.answered tag 0x33 [0x11, 0])) ∧
    ((s.chan ch).state = .suspended → (s.chan ch).latch = false →
        (s.chan ch).slots.countP Slot.isReady < (s.chan ch).config.resume →
      exec (.resume tag (ChannelId.number ch)) s = .next (s.answered tag 0x33
        ([0x12, 0, byteOf ((s.chan ch).slots.countP Slot.isReady)] ++
          leBytes 2 (s.chan ch).config.resume))) ∧
    ((s.chan ch).state = .suspended → (s.chan ch).latch = false →
        (s.chan ch).config.resume ≤ (s.chan ch).slots.countP Slot.isReady →
      exec (.resume tag (ChannelId.number ch)) s = .next
        ((s.setChan ch { s.chan ch with state := .playing }).answered tag 0x33 [0, 4])) ∧
    ((s.chan ch).state ∉ [.paused, .suspended] →
      exec (.resume tag (ChannelId.number ch)) s = .next (s.answered tag 0x33 [0x05, 0]))

/-- O39. ACKNOWLEDGE-SUSPENSION clears latch and stall count in SUSPENDED alone. In SUSPENDED,
ACKNOWLEDGE-SUSPENSION clears the stall latch and the stall count and replies OK with the READY
count and the resume depth; the channel stays SUSPENDED and its outputs, like everything else, are
unchanged. In every other state it is refused WRONG-STATE, and a channel other than 0 and 1 BAD-
VALUE, and nothing but the link changes. (R149) -/
def Obligations.AcknowledgeClearsTheLatch : Prop :=
  ∀ (s : State) (tag : Byte), s.takes tag →
    (∀ n : Byte, n ≠ 0 → n ≠ 1 →
      ∃ fields, exec (.acknowledgeSuspension tag n) s = .next (s.answered tag 0x36 (0x04 :: fields))) ∧
    ∀ ch : ChannelId,
      ((s.chan ch).state = .suspended →
        exec (.acknowledgeSuspension tag (ChannelId.number ch)) s = .next
          ((s.setChan ch { s.chan ch with latch := false, stallCount := 0 }).answered tag 0x36
            ([0, byteOf ((s.chan ch).slots.countP Slot.isReady)] ++
              leBytes 2 (s.chan ch).config.resume))) ∧
      ((s.chan ch).state ≠ .suspended →
        ∃ fields, exec (.acknowledgeSuspension tag (ChannelId.number ch)) s =
          .next (s.answered tag 0x36 (0x05 :: fields)))

/-- O40. An accepted STOP closes or discards the records, flushes, halts the stream, goes black and sets
ENDED. In CUEING, PRIMED, PLAYING, PAUSED, HOLDING and SUSPENDED: no admission record is left; the
log record of one that presented frames stays, CLOSED as STOPPED, or SUSPENDED-STOPPED from
SUSPENDED, with the booth time as its end; that of one that presented none leaves the log; every
other log record is kept as it is. Every slot is FREE; the epoch rises, the queue is empty and its
blocks return in one CREDIT before HALT; the timer is STOPPED, the picture BLACK and dark, stall
count, latch and jump clear, every context and cue released with a CLEAR event for each shown cue;
every lane decays from its last value over N samples, and a gain ramp ends at its new factor; SHOW-
ENDED is pending; the reply is OK. The position is kept and the other channel is untouched. The
order of the CLEAR events among tracks is log entry 16 and the lanes' part at STOP log entry 24, the
model's. (R115, R129, R103, R105, R45, R48, R163, R174, R176) -/
def Obligations.StopEndsTheShow : Prop :=
  ∀ (s : State) (tag : Byte) (ch : ChannelId), s.takes tag →
    (s.chan ch).state ∈ [.cueing, .primed, .playing, .paused, .holding, .suspended] →
    ∃ t : State, exec (.stop tag (ChannelId.number ch)) s = .next (t.answered tag 0x34 [0]) ∧
      t.chan ch = { s.chan ch with
        state := .ended, records := [], timer := { state := .stopped, count := 0, period := none }
        slots := (s.chan ch).slots.map (fun _ => .free), present := (s.chan ch).take
        epoch := (s.chan ch).epoch + 1, queue := []
        granted := (s.chan ch).granted + blocksHeld (s.chan ch).queue
        picture := .black, lit := false, lastGood := (t.chan ch).lastGood
        stallCount := 0, latch := false, jump := none
        assembly := { (s.chan ch).assembly with fetching := none, cursor := .start 0, complete := false }
        subs := { (s.chan ch).subs with
          contexts := [], pendingCues := [], shown := [], jumpMark := false, served := none }
        sound := { (s.chan ch).sound with
          block := none, mark := .quiet
          lanes := (s.chan ch).sound.lanes.map (fun l => { l with
            decay := some { value := l.last, length := (s.chan ch).sound.rate / 200, next := 0 }
            rampIn := none
            gain := match l.gain with
              | .steady g => .steady g
              | .ramp _ new => .steady new }) } } ∧
      t.log = s.log.filterMap (fun g =>
        if (s.chan ch).records.any (fun a => a.logSeq = some g.seq && a.presented = 0) then none
        else if (s.chan ch).records.any (fun a => a.logSeq = some g.seq) then some { g with
          ended := some s.clock.time, closed := true
          outcome := some (if (s.chan ch).state = .suspended then .suspendedStopped else .stopped) }
        else some g) ∧
      t.subtitlePort = s.subtitlePort ++ (s.chan ch).clearEvents ch ∧
      t.returns = (if 0 < blocksHeld (s.chan ch).queue then
          addCredit ch (blocksHeld (s.chan ch).queue) s.returns else s.returns) ++
        [.halt ch ((s.chan ch).epoch + 1)] ∧
      t.notices.any (fun n => n.isOf .showEnded (some ch)) = true ∧
      t.chan ch.other = s.chan ch.other ∧ t = { s with
        chanA := t.chanA, chanB := t.chanB, returns := t.returns, licences := t.licences, keys := t.keys
        log := t.log, notices := t.notices, attn := t.attn, work := t.work
        subtitlePort := t.subtitlePort }

/-- O41. A JUMP within the presenting record's item keeps that record, flushes after the committed
frames and fetches. A JUMP to a reel of the presenting record's item, not before its entry reel and
with no committed frames left of a jump: the presenting record stays as it is and is fetched from
the target reel; the other record is gone; the ring keeps the committed frames and the PRESENTING
slot; the epoch rises, the queue is emptied with its CREDIT and FETCH is sent; the pending jump is
set, the refusal mark cleared, contexts marked LEFT; in CUEING and PRIMED the state becomes CUEING.
The reply carries OK, the committed frames, the new epoch and the state. Distinct record names are
presumed (log entry 9). That the position is kept in PAUSED and HOLDING also with the timer ARMED is
log entry 31 (DEDUCED). (R134, R135, R136, R138, R133, R164) -/
def Obligations.JumpWithinTheItemKeepsItsRecord : Prop :=
  ∀ (s : State) (tag item reel : Byte) (ch : ChannelId) (a : AdmissionRecord) (i : ShowItem)
    (comp : Composition), s.takes tag →
    (s.chan ch).state ∈ [.cueing, .primed, .playing, .paused, .holding] →
    isCommitted (s.chan ch).jump = false → (s.chan ch).records.head? = some a → a.item = item.toNat →
    (s.chan ch).items[item.toNat]? = some i → s.composition i.slot.toNat = some comp →
    reel.toNat < comp.reels.length → a.entryReel ≤ reel.toNat → (s.chan ch).namesLaw →
    ∃ (t : State) (st : ChannelState) (k : Nat), k = (s.chan ch).committedFrames ∧
      st = (if (s.chan ch).state ∈ [.cueing, .primed] then .cueing else (s.chan ch).state) ∧
      exec (.jump tag (ChannelId.number ch) item reel) s =
        .next (t.answered tag 0x35 [0, byteOf k, (s.chan ch).epoch + 1, ChannelState.code st]) ∧
      t.chan ch = { s.chan ch with
        state := st, records := [a], refusal := false, noNext := false
        jump := some (if k = 0 then .targetWait item.toNat reel.toNat
          else .committed k item.toNat reel.toNat)
        epoch := (s.chan ch).epoch + 1, queue := []
        granted := (s.chan ch).granted + blocksHeld (s.chan ch).queue
        assembly := { (s.chan ch).assembly with
          fetching := some a.ident, cursor := .start reel.toNat, complete := false }
        slots := (s.chan ch).slots.mapIdx (fun j x =>
          if x.isPresenting || ringDistance (s.chan ch).present j < k then x else .free)
        take := ((s.chan ch).present + k) % 96, lastGood := (t.chan ch).lastGood
        position := (t.chan ch).position
        subs := { (s.chan ch).subs with
          jumpMark := true
          contexts := (s.chan ch).subs.contexts.map (fun x => { x with left := true }) } } ∧
      t.returns = (if 0 < blocksHeld (s.chan ch).queue then
          addCredit ch (blocksHeld (s.chan ch).queue) s.returns else s.returns) ++
        [.fetch ch ((s.chan ch).epoch + 1) item.toNat (((s.composition a.slot).map (·.id)).getD 0)
          reel.toNat] ∧
      (t.chan ch).position = (if st = .cueing ∨ (st = .playing ∧ (s.chan ch).timer.state = .armed) then
          some { pos := { item := item.toNat, reel := reel.toNat, frame := 0 }, presented := false }
        else (s.chan ch).position) ∧
      t.chan ch.other = s.chan ch.other

/-- O42. A JUMP to another item admits the target against the state its releases leave, or changes
nothing. A JUMP to an item that is not the presenting record's, with no committed frames left of a
jump, is judged by the admission checks on the state that its own releases leave. When they pass,
the target's fresh record is the newest and is fetched from the target reel with the new epoch;
without committed frames it is the only record; the queue is emptied; the pending jump is set. When
they fail, the reply carries the status and nothing but the link changes. That the judgment sees
these releases and not the close of the presenting record is log entry 30 (DEDUCED). The left record
and the licence counts are not claimed here. (R97, R133, R134, R136, R137) -/
def Obligations.JumpToAnotherItemAdmitsIt : Prop :=
  ∀ (s : State) (tag item reel : Byte) (ch : ChannelId) (i : ShowItem) (comp : Composition)
    (k : Nat), s.takes tag → (s.chan ch).state ∈ [.cueing, .primed, .playing, .paused, .holding] →
    isCommitted (s.chan ch).jump = false →
    (∀ a, (s.chan ch).records.head? = some a → a.item ≠ item.toNat) →
    (s.chan ch).items[item.toNat]? = some i → s.composition i.slot.toNat = some comp →
    reel.toNat < comp.reels.length → k = (s.chan ch).committedFrames →
    (∀ licence, judgeAdmission (s.jumpReleases ch k) comp reel.toNat = .ok licence →
      ∃ (t : State) (st : ChannelState), exec (.jump tag (ChannelId.number ch) item reel) s =
          .next (t.answered tag 0x35 [0, byteOf k, (s.chan ch).epoch + 1, ChannelState.code st]) ∧
        st = (if (s.chan ch).state ∈ [.cueing, .primed] then .cueing else (s.chan ch).state) ∧
        (t.chan ch).state = st ∧ (t.chan ch).epoch = (s.chan ch).epoch + 1 ∧ (t.chan ch).queue = [] ∧
        (t.chan ch).granted = (s.chan ch).granted + blocksHeld (s.chan ch).queue ∧
        (t.chan ch).jump = some (if k = 0 then .targetWait item.toNat reel.toNat
          else .committed k item.toNat reel.toNat) ∧
        (t.chan ch).timer = (s.chan ch).timer ∧ (t.chan ch).stallCount = (s.chan ch).stallCount ∧
        (∃ a, (t.chan ch).records.getLast? = some a ∧ a.item = item.toNat ∧
          a.slot = i.slot.toNat ∧ a.entryReel = reel.toNat ∧ a.licence = licence ∧ a.presented = 0 ∧
          a.charged = false ∧ a.chargeable = true ∧
          (t.chan ch).assembly.fetching = some a.ident ∧ (k = 0 → (t.chan ch).records = [a])) ∧
        (t.chan ch).assembly.cursor = .start reel.toNat ∧
        t.returns.getLast? = some (.fetch ch ((s.chan ch).epoch + 1) item.toNat comp.id reel.toNat) ∧
        t.chan ch.other = s.chan ch.other) ∧
    (∀ status, judgeAdmission (s.jumpReleases ch k) comp reel.toNat = .error status →
      ∃ fields, exec (.jump tag (ChannelId.number ch) item reel) s =
        .next (s.answered tag 0x35 (status.code :: fields)))

/-- O43. A deadline that presents the READY slot at the present pointer takes its picture, sound, cues,
period and position, also under a jump and at recovery. In PLAYING with a pending jump, or with the
show not over and no pause after the item (the frame last presented is not its item's last, or its
flag is clear, or no slot is PRESENTING as after a RESUME (entry 18, DEDUCED), or no admission
record follows), and in HOLDING when it recovers (READY count at the resume depth, or fetch complete
and one READY slot), a deadline that finds the slot at the present pointer READY: frees the
PRESENTING slot, makes that slot PRESENTING and advances the pointer; sends NEW with its undamaged
picture unit, else REPEAT or BLACK; gives the router its undamaged sound block, as a known end for
the last committed frame and as a target for a jump's first frame, else none; hands the frame to the
subtitle scheduler, whose events go to the port; begins a period of the item's samples per frame;
makes the position its own, presented. A committed frame lowers the committed remaining, the last
one moves the jump to TARGET-WAIT, and the target's first frame ends it. With the last committed
frame the record whose chargeable flag is clear closes JUMPED-AWAY. The state is PLAYING, at
recovery with stall count 0; the other channel is untouched. A DEADLINE row with edges missing makes
them first (log entry 25). (R113, R120, R121, R21, R122, R133, R139, R140, R145, R146, R160, R172) -/
def Obligations.PlayingDeadlinesPresentTheNextFrame : Prop :=
  ∀ (s : State) (ch : ChannelId) (f : Frame) (comp : Composition), s.powered = true →
    (s.chan ch).timer.state ≠ .stopped →
    ((s.chan ch).state = .playing ∧ ((s.chan ch).jump.isSome = true ∨
        s.showOver ch = false ∧ (s.atItemEnd ch = false ∨ (s.chan ch).pauseAfterSet = false ∨
          (s.chan ch).slots.any Slot.isPresenting = false ∨ (s.chan ch).records = [])) ∨
      (s.chan ch).state = .holding ∧ ((s.chan ch).config.resume ≤ (s.chan ch).readyCount ∨
        (s.chan ch).assembly.complete = true ∧ 1 ≤ (s.chan ch).readyCount)) →
    (s.chan ch).slotAt (s.chan ch).present = .ready f → s.itemComposition ch f.pos.item = some comp →
    ∃ (t : State) (spf : Nat) (shown : SubsResult), exec (.deadline ch) s = .next t ∧
      spf = (s.chan ch).config.sampleRate / comp.frameRate.toNat ∧
      (t.chan ch).slots = (((s.chan ch).slots.map (fun x => if x.isPresenting then .free else x)).set
        (s.chan ch).present (.presenting f)) ∧
      (t.chan ch).present = ((s.chan ch).present + 1) % 96 ∧ (t.chan ch).take = (s.chan ch).take ∧
      (t.chan ch).state = .playing ∧
      (t.chan ch).stallCount = (if (s.chan ch).state = .holding then 0 else (s.chan ch).stallCount) ∧
      (t.chan ch).jump = (match (s.chan ch).jump with
        | some (.committed n item reel) =>
          if n ≤ 1 then some (.targetWait item reel) else some (.committed (n - 1) item reel)
        | _ => none) ∧
      (t.chan ch).position = some { pos := f.pos, presented := true } ∧
      (t.chan ch).timer = FrameTimer.mk .running 0 (some spf) ∧
      (f.picture.damage = none →
        (t.chan ch).picture = .new f.picture.bytes ∧ (t.chan ch).lit = true) ∧
      (f.picture.damage ≠ none → (s.chan ch).lastGood = some f.record →
        (t.chan ch).picture = .repeated ∧ (t.chan ch).lit = true) ∧
      (f.picture.damage ≠ none → (s.chan ch).lastGood ≠ some f.record →
        (t.chan ch).picture = .black ∧ (t.chan ch).lit = false) ∧
      (∀ p, f.sound = some p → p.damage = none →
        (t.chan ch).sound = ((s.chan ch).routerAtDeadline.beginBlock
          { bytes := p.bytes, channels := comp.sourceChannels.toNat
            knownEnd := isLastCommitted (s.chan ch).jump } (isTargetWait (s.chan ch).jump)).edge 0 spf) ∧
      ((∀ p, f.sound = some p → p.damage ≠ none) →
        (t.chan ch).sound = (s.chan ch).routerAtDeadline.beginQuiet.edge 0 spf) ∧
      shown = (s.chan ch).subs.present ch comp (s.chan ch).lastPresented f.pos
        (isTargetWait (s.chan ch).jump) ∧
      (t.chan ch).subs = shown.subs ∧ t.subtitlePort = s.subtitlePort ++ shown.events ∧
      (isLastCommitted (s.chan ch).jump = true → (s.chan ch).namesLaw →
        ∀ a, (s.chan ch).records.find? (fun r => r.ident = f.record) = some a → a.chargeable = false →
          (∀ r ∈ (t.chan ch).records, r.ident ≠ f.record) ∧
          ∀ n, a.logSeq = some n → n < s.nextSeq → ∀ g ∈ t.log, g.seq = n →
            g.closed = true ∧ g.outcome = some .jumpedAway) ∧
      (t.chan ch).queue = (s.chan ch).queue ∧ (t.chan ch).epoch = (s.chan ch).epoch ∧
      t.chan ch.other = s.chan ch.other ∧ t = { s with
        chanA := t.chanA, chanB := t.chanB, returns := t.returns, licences := t.licences, keys := t.keys
        log := t.log, nextSeq := t.nextSeq, notices := t.notices, attn := t.attn
        subtitlePort := t.subtitlePort }

/-- O44. A presented frame counts to its record and log record, the count point charges the licence
once, and the close comes after the counting. At every deadline of
PlayingDeadlinesPresentTheNextFrame (also a committed frame, a jump target's first frame, and the
frame of a recovery) whose slot belongs to an admission record: the record and its log record have
frames presented one more, frames damaged one more when a part is damaged (up to 4294967295), and
with the first frame the first-frame time. When frames presented come to the count point of a
chargeable record, the counted time is set and SHOW-COUNTED is pending; an uncharged record that
names a licence with a reservation is then charged: its charged flag is set, the licence's charged
count is one more and its reserved count one less, and otherwise no licence changes unless the
record closes. After this the record closes at its item's last frame when chargeable, COMPLETED with
a counted time and JUMPED-AWAY without, or JUMPED-AWAY at the last committed frame when not
chargeable: the log record is CLOSED with now as its end, the record leaves the list, and at most
the next item's record, with its own log record and reservation, is appended. No other record and no
other log record changes. That a chargeable record stays open at a committed frame, also its item's
last, is log entry 19 (DEDUCED). That a pause-after flag is read at the deadline that frees a
PRESENTING slot is log entry 18 (DEDUCED). (R74, R93, R101, R102, R103, R104, R138, R139, R140,
R146, R120, R127) -/
def Obligations.PresentationsAreCountedAndCharged : Prop :=
  ∀ (s : State) (ch : ChannelId) (f : Frame) (comp : Composition) (a : AdmissionRecord)
    (presented damaged : Nat) (reached charges closes : Bool), s.powered = true →
    (s.chan ch).timer.state ≠ .stopped →
    ((s.chan ch).state = .playing ∧ ((s.chan ch).jump.isSome = true ∨
        s.showOver ch = false ∧ (s.atItemEnd ch = false ∨ (s.chan ch).pauseAfterSet = false ∨
          (s.chan ch).slots.any Slot.isPresenting = false ∨ (s.chan ch).records = [])) ∨
      (s.chan ch).state = .holding ∧ ((s.chan ch).config.resume ≤ (s.chan ch).readyCount ∨
        (s.chan ch).assembly.complete = true ∧ 1 ≤ (s.chan ch).readyCount)) →
    (s.chan ch).slotAt (s.chan ch).present = .ready f → s.itemComposition ch f.pos.item = some comp →
    (s.chan ch).records.find? (fun r => r.ident = f.record) = some a →
    presented = min 4294967295 (a.presented + 1) →
    damaged = (if f.picture.damage ≠ none ∨ (∃ p, f.sound = some p ∧ p.damage ≠ none) then
      min 4294967295 (a.damaged + 1) else a.damaged) →
    reached = (a.chargeable && decide (a.countPoint = some (a.presented + 1))) →
    charges = (reached && a.licence.isSome && !a.charged) →
    closes = (if a.chargeable then
        comp.isLastFrame f.pos.reel f.pos.frame && !isCommitted (s.chan ch).jump
      else isLastCommitted (s.chan ch).jump) →
    ∃ (t : State) (later : List LogRecord) (next : List AdmissionRecord),
      exec (.deadline ch) s = .next t ∧
      t.log = s.log.map (fun g =>
        if a.logSeq = some g.seq then { g with
          presented := presented, held := a.held, damaged := damaged
          firstFrame := if a.presented = 0 then some s.clock.time else g.firstFrame
          counted := if reached then some s.clock.time else g.counted
          ended := if closes then some s.clock.time else g.ended
          outcome := if closes then some
              (if a.chargeable && (reached || s.log.any (fun x =>
                a.logSeq = some x.seq && x.counted.isSome)) then .completed else .jumpedAway)
            else g.outcome
          closed := closes || g.closed }
        else g) ++ later ∧
      (∀ g ∈ later, g.seq = s.nextSeq) ∧ (∀ r ∈ next, r.ident = (s.chan ch).nextIdent) ∧
      next.length ≤ 1 ∧ (closes = false → later = [] ∧ next = []) ∧
      (t.chan ch).records = (if closes then
          (s.chan ch).records.filter (fun r => r.ident ≠ f.record)
        else (s.chan ch).records.map (fun r =>
          if r.ident = f.record then { r with
            presented := presented, held := a.held, damaged := damaged
            charged := charges || r.charged }
          else r)) ++ next ∧
      (reached = true → t.notices.any (fun n => n.isOf .showCounted (some ch)) = true) ∧
      (closes = false → charges = false → t.licences = s.licences) ∧
      ∀ i l, charges = true → a.licence = some i → s.licence i = some l → 1 ≤ l.reserved →
        ∃ l', t.licence i = some l' ∧ l'.charged = l.charged + 1 ∧
          l'.reserved = l.reserved - 1 + next.countP (fun r => r.licence = some i) ∧
          (closes = false → l' = { l with charged := l.charged + 1, reserved := l.reserved - 1 }) ∧
          ∀ j ≠ i, closes = false → t.licence j = s.licence j

/-- O45. PAUSED repeats the picture, SUSPENDED stays black, an item with its pause-after flag pauses the
show, and none counts anything. A deadline in PAUSED frees the PRESENTING slot, sends REPEAT when
the screen is lit and BLACK when it is dark, lets every lane decay, and begins a period of the
running length, or, at the first deadline of a channel paused between START and its first edge
(timer ARMED), of the presenting record's item, the timer RUNNING from then on; a deadline in
SUSPENDED sends BLACK. The deadline in PLAYING after the last frame of an item whose pause-after
flag is set, with no pending jump and an admission record left, sets PAUSED and does the same as a
paused deadline. None moves position, stall count, latch, records, jump or subtitles, and nothing
outside the channel changes. That the flag is read at the deadline that frees a PRESENTING slot is
log entry 18 (DEDUCED). A DEADLINE row with edges missing makes them first (log entry 25, DESIGN
CHOICE). (R113, R123, R127, R147, R21, R173, R119, R124) -/
def Obligations.DeadlinesThatPresentNothing : Prop :=
  ∀ (s : State) (ch : ChannelId) (p : Option Nat), s.powered = true →
    (s.chan ch).timer.state ≠ .stopped →
    p = (match (s.chan ch).timer.period with
      | some n => some n
      | none => (s.chan ch).records.head?.bind (fun r => (s.itemComposition ch r.item).map (fun c =>
          (s.chan ch).config.sampleRate / c.frameRate.toNat))) →
    ((s.chan ch).state = .paused ∨ (s.chan ch).state = .suspended ∨
      (s.chan ch).state = .playing ∧ (s.chan ch).jump = none ∧
        (s.chan ch).slots.any Slot.isPresenting = true ∧ s.atItemEnd ch = true ∧
        (s.chan ch).pauseAfterSet = true ∧ (s.chan ch).records ≠ []) →
    exec (.deadline ch) s = .next (s.setChan ch { s.chan ch with
      state := if (s.chan ch).state = .suspended then .suspended else .paused
      slots := (s.chan ch).slots.map (fun x => if x.isPresenting then .free else x)
      timer := { state := .running, count := 0, period := p }
      picture := if (s.chan ch).state ≠ .suspended ∧ (s.chan ch).lit = true then .repeated else .black
      lit := (s.chan ch).state ≠ .suspended && (s.chan ch).lit
      sound := (s.chan ch).routerAtDeadline.beginQuiet.edge 0 (p.getD 0) })

/-- O46. A deadline without a READY frame holds, and the stall limit suspends with the latch set. In
PLAYING with a pending jump, or with the show not over and no pause after the item (as in
PlayingDeadlinesPresentTheNextFrame; log entry 18, DEDUCED), a deadline whose present pointer has no
READY slot raises UNDERRUN, and the stall count becomes 1; in HOLDING without recovery the count
rises by 1. Below the stall limit the channel is HOLDING and its picture repeats, or stays black
when dark; at the limit it is SUSPENDED with the latch set, BLACK, its shown cues cleared with a
CLEAR event each, its lanes silenced at once, and SUSPENDED raised. A held deadline lets every lane
decay, sends no subtitle event, and counts one frame held to the record of the frame last presented
and its log record, if that record is open; a suspending deadline counts nothing. Both begin a
period of the running length, or, before the first period, of the presenting record's item. The
position and the pending jump stay. The order of the CLEAR events among tracks is log entry 16
(DESIGN CHOICE). A DEADLINE row with edges missing makes them first (log entry 25, DESIGN CHOICE).
(R143, R144, R145, R147, R140, R163, R173, R175, R21, R101, R120, R127) -/
def Obligations.UnderrunsHoldAndSuspend : Prop :=
  ∀ (s : State) (ch : ChannelId) (count : Nat), s.powered = true →
    (s.chan ch).timer.state ≠ .stopped →
    ((s.chan ch).state = .playing ∧ ((s.chan ch).jump.isSome = true ∨ s.showOver ch = false ∧
        (s.atItemEnd ch = false ∨ (s.chan ch).pauseAfterSet = false ∨
          (s.chan ch).slots.any Slot.isPresenting = false ∨ (s.chan ch).records = [])) ∧
        ((s.chan ch).slotAt (s.chan ch).present).isReady = false ∧ count = 1 ∨
      (s.chan ch).state = .holding ∧ (s.chan ch).readyCount < (s.chan ch).config.resume ∧
        ((s.chan ch).assembly.complete = true → (s.chan ch).readyCount = 0) ∧
        (s.chan ch).stallCount < 250 ∧ count = (s.chan ch).stallCount + 1) →
    ∃ t : State, exec (.deadline ch) s = .next t ∧ (t.chan ch).stallCount = count ∧
      (t.chan ch).position = (s.chan ch).position ∧ (t.chan ch).jump = (s.chan ch).jump ∧
      (t.chan ch).slots = (s.chan ch).slots.map (fun x => if x.isPresenting then .free else x) ∧
      ((s.chan ch).state = .playing →
        t.notices.any (fun n => n.isOf .underrun (some ch)) = true) ∧
      (count < (s.chan ch).config.stallLimit →
        (t.chan ch).state = .holding ∧ (t.chan ch).latch = (s.chan ch).latch ∧
        (t.chan ch).picture = (if (s.chan ch).lit then .repeated else .black) ∧
        (t.chan ch).lit = (s.chan ch).lit ∧ (t.chan ch).subs = (s.chan ch).subs ∧
        t.subtitlePort = s.subtitlePort ∧ (t.chan ch).sound =
          (s.chan ch).routerAtDeadline.beginQuiet.edge 0 ((t.chan ch).timer.period.getD 0)) ∧
      ((s.chan ch).config.stallLimit ≤ count →
        (t.chan ch).state = .suspended ∧ (t.chan ch).latch = true ∧ (t.chan ch).picture = .black ∧
        (t.chan ch).lit = false ∧ (t.chan ch).subs.shown = [] ∧
        t.subtitlePort = s.subtitlePort ++ (s.chan ch).clearEvents ch ∧ (t.chan ch).sound =
          (s.chan ch).routerAtDeadline.suspend.edge 0 ((t.chan ch).timer.period.getD 0) ∧
        t.notices.any (fun n => n.isOf .suspended (some ch)) = true) ∧
      (t.chan ch).timer = FrameTimer.mk .running 0 (match (s.chan ch).timer.period with
        | some n => some n
        | none => (s.chan ch).records.head?.bind (fun r => (s.itemComposition ch r.item).map (fun c =>
            (s.chan ch).config.sampleRate / c.frameRate.toNat))) ∧
      (∀ a, count < (s.chan ch).config.stallLimit → (s.chan ch).lastRecord = some a.ident →
        (s.chan ch).records.find? (fun r => r.ident = a.ident) = some a →
        (t.chan ch).records = (s.chan ch).records.map (fun r =>
          if r.ident = a.ident then { r with
            presented := a.presented, held := min 4294967295 (a.held + 1), damaged := a.damaged }
          else r) ∧
        t.log = s.log.map (fun g =>
          if a.logSeq = some g.seq then { g with
            presented := a.presented, held := min 4294967295 (a.held + 1), damaged := a.damaged }
          else g)) ∧
      ((s.chan ch).config.stallLimit ≤ count ∨
          (∀ r ∈ (s.chan ch).records, (s.chan ch).lastRecord ≠ some r.ident) →
        (t.chan ch).records = (s.chan ch).records ∧ t.log = s.log) ∧
      t.chan ch.other = s.chan ch.other ∧ t.licences = s.licences ∧ t.keys = s.keys

/-- O47. The deadline after the last frame of the last admitted item ends the show. In PLAYING with no
pending jump, when the frame last presented was its item's last, no admission record is left and no
item follows, the deadline sets ENDED, stops the timer, sends BLACK, releases contexts and cues with
a CLEAR event for each shown cue, lets every lane decay with its gain steady, and raises SHOW-ENDED.
Position and show list stay, no HALT is sent, and nothing else outside the channel changes but the
subtitle port and the notices. The order of the CLEAR events among tracks is log entry 16 (DESIGN
CHOICE). A DEADLINE row with edges missing makes them first (log entry 25, DESIGN CHOICE). (R120,
R128, R163, R162, R173, R174) -/
def Obligations.FinishedShowsEndAtTheDeadline : Prop :=
  ∀ (s : State) (ch : ChannelId), s.powered = true → (s.chan ch).state = .playing →
    (s.chan ch).timer.state ≠ .stopped → (s.chan ch).jump = none → s.showOver ch = true →
    ∃ t : State, exec (.deadline ch) s = .next t ∧
      t.chan ch = { s.chan ch with
        state := .ended, timer := { state := .stopped, count := 0, period := none }
        slots := (s.chan ch).slots.map (fun x => if x.isPresenting then .free else x)
        picture := .black, lit := false
        subs := { (s.chan ch).subs with
          contexts := [], pendingCues := [], shown := [], jumpMark := false, served := none }
        sound := (s.chan ch).routerAtDeadline.beginQuiet.settleGains.edge 0 0 } ∧
      t.subtitlePort = s.subtitlePort ++ (s.chan ch).clearEvents ch ∧
      t.notices.any (fun n => n.isOf .showEnded (some ch)) = true ∧
      t.chan ch.other = s.chan ch.other ∧ t = { s with
        chanA := t.chanA, chanB := t.chanB, notices := t.notices, attn := t.attn
        subtitlePort := t.subtitlePort }

/-- O48. Each sample edge sends one sample a lane, the edge that fills the period is the deadline, and
the lanes take blocks, decays and routes as file 11 states. An edge in STOPPED changes only the
lanes. In RUNNING an edge before the period's last raises the count by 1 and sends the lanes' sample
of that index. The edge that would bring the count to the period, and the first edge in ARMED, act
exactly as the deadline. At an edge a lane's source side gives its decay, over the decay's own
length, else its block's sample under its ramps, else 0; the value enters the line, and the value
that leaves is sent under the gain factor. At a deadline a pending image takes effect: a changed
length empties the line, and a changed gain ramps. A block ramps in over N samples when the mark is
QUIET; when it is OPEN, a changed lane or a jump target decays first. Without a block every lane
decays and its source is SILENT. A suspension silences every lane at once. That a QUIET mark drops
the rest of a decay is log entry 22 (DEDUCED). (R16, R18, R19, R29, R168, R170, R171, R172, R173,
R174, R175, R178) -/
def Obligations.EdgesCountUpToTheDeadline : Prop :=
  (∀ (s : State) (ch : ChannelId), s.powered = true →
    ((s.chan ch).timer.state = .stopped →
      exec (.sampleClockEdge ch) s = .next (s.setChan ch { s.chan ch with
        sound := (s.chan ch).sound.edge 0 ((s.chan ch).timer.period.getD 0) })) ∧
    ((s.chan ch).timer.state = .running → (s.chan ch).timer.period ≠ some ((s.chan ch).timer.count + 1) →
      exec (.sampleClockEdge ch) s = .next (s.setChan ch { s.chan ch with
        timer := { (s.chan ch).timer with count := (s.chan ch).timer.count + 1 }
        sound := (s.chan ch).sound.edge ((s.chan ch).timer.count + 1)
          ((s.chan ch).timer.period.getD 0) })) ∧
    ((s.chan ch).timer.state = .armed ∨
        (s.chan ch).timer.state = .running ∧
          (s.chan ch).timer.period = some ((s.chan ch).timer.count + 1) →
      ∃ t : State, exec (.sampleClockEdge ch) s = .next t ∧ exec (.deadline ch) s = .next t)) ∧
  ∀ (r : SoundRouter) (i : Nat) (l : Lane), r.lanes[i]? = some l →
    (∀ j spf : Nat, ∃ (l' : Lane) (v : Int), (r.edge j spf).lanes[i]? = some l' ∧
      (∀ d, l.decay = some d → v = scaleValue d.value (d.length - 1 - d.next) d.length) ∧
      (l.decay = none → r.block = none → v = 0) ∧
      (∀ b, l.decay = none → r.block = some b → v = blockValue b l j (r.rate / 200) spf) ∧
      l' = { l with
        last := v, line := (l.line ++ [v]).tail
        decay := l.decay.bind (fun d =>
          if d.next + 1 < d.length then some { d with next := d.next + 1 } else none)
        sent := applyGain ((l.line ++ [v]).headD v) (match l.gain with
          | .steady g => g
          | .ramp old new => rampedFactor old new j spf) }) ∧
    ∀ (e : LaneSetting) (line : List Int) (g : Nat) (gain : GainFactor) (changed : Bool) (mark : SoundMark),
      (match r.pendingMap with
        | some image => image[i]?
        | none => some l.setting) = some e →
      line = (if r.pendingMap = none ∨ l.line.length = laneDelaySamples e.delay r.rate then l.line
        else List.replicate (laneDelaySamples e.delay r.rate) 0) →
      changed = !(decide (line.length = l.line.length)) →
      g = (match l.gain with
        | .steady g => g
        | .ramp _ new => new) →
      gain = (if e.gain = l.setting.gain then .steady g else .ramp g (gainFactorOf e.gain)) →
      mark = (match r.block with
        | some b => if b.knownEnd then .quiet else .opened
        | none => r.mark) →
      (∀ (b : SoundBlock) (target : Bool) (eff : Option Nat),
        eff = e.source.bind (fun c => if c < b.channels then some c else none) →
        (r.beginBlock b target).lanes[i]? = some { l with
          setting := e, line := line, gain := gain, effective := eff
          decay := if mark = .opened ∧ (changed = true ∨ eff ≠ l.effective ∨ target = true) then
              some { value := l.last, length := r.rate / 200, next := 0 } else none
          rampIn := if mark = .quiet then some 0
            else if changed = true ∨ eff ≠ l.effective ∨ target = true then some (r.rate / 200)
            else none }) ∧
      r.beginQuiet.lanes[i]? = some { l with
        setting := e, line := line, gain := gain, effective := none, rampIn := none
        decay := some { value := l.last, length := r.rate / 200, next := 0 } } ∧
      r.suspend.lanes[i]? = some { l with
        setting := e, line := List.replicate line.length 0, gain := gain, effective := none
        rampIn := none, decay := none, last := 0 }

/-- O49. With the stall latch set, one step leaves a SUSPENDED channel SUSPENDED, or ENDED as STOP
leaves it, or IDLE as a reset leaves it. From every state in which a channel is SUSPENDED with its
latch set, one step, whatever the command, leaves it SUSPENDED; or ENDED with no admission record,
jump or latch, the timer STOPPED, the picture BLACK and SHOW-ENDED pending, as an accepted STOP
leaves it; or IDLE with everything of the channel at its value after a reset. No deadline, request
or segment returns it to playing before it is acknowledged. (R129, R131, R147, R149, R150) -/
def Obligations.LatchedSuspensionHolds : Prop :=
  ∀ (s t : State) (ch : ChannelId), (s.chan ch).state = .suspended → (s.chan ch).latch = true →
    step s = .next t →
    (t.chan ch).state = .suspended ∨
    ((t.chan ch).state = .ended ∧ (t.chan ch).records = [] ∧ (t.chan ch).jump = none ∧
      (t.chan ch).latch = false ∧ (t.chan ch).timer.state = .stopped ∧ (t.chan ch).picture = .black ∧
      t.notices.any (fun n => n.isOf .showEnded (some ch)) = true) ∨
    t.chan ch = Channel.reset

/-- O50. Timer, records, latch and slots keep their laws in every channel state. Every step keeps, for
both channels: the frame timer is STOPPED exactly in IDLE, LOADED, CUEING, PRIMED and ENDED; there
are at most two admission records, and none in IDLE, LOADED and ENDED; the stall latch is set only
in SUSPENDED. Every step keeps, for both channels, at most one slot in state PRESENTING and at most
one in state FILLING. (R18, R93, R114, R128, R129, R143, R63, R111, R113) -/
def Obligations.ShowLawsAreKept : Prop :=
  ∀ s t : State, ShowLaw s ∧ SlotLaw s → step s = .next t → ShowLaw t ∧ SlotLaw t

/-- O51. A command for one channel leaves the other channel as it is, and a request for none leaves
both. A request that names a channel, a deadline and a sample edge leave everything the part holds
for the other channel unchanged: queue, credit, epoch, slots, records, subtitles with every byte of
both banks, sound and settings. A request that names no channel leaves both channels unchanged.
(R13, R45, R52, R115, R178) -/
def Obligations.ChannelsDoNotInterfere : Prop :=
  ∀ (c : Instr) (s t : State), exec c s = .next t →
    (∀ tag r n ch, requestOf c = some (tag, r) → channelByte r = some n → channelOf n = some ch →
      t.chan ch.other = s.chan ch.other) ∧
    (∀ tag r ch, requestOf c = some (tag, r) → channelByte r = none → t.chan ch = s.chan ch) ∧
    (∀ ch, c = .deadline ch ∨ c = .sampleClockEdge ch → t.chan ch.other = s.chan ch.other)

/-- O52. The marker opens a header, a good header its payload, and the last payload byte the arrival
that R39 judges. With main power on: the marker's bytes in HUNT move the receiver to HEADER. The
last header byte moves it to PAYLOAD when every check passes and the payload is not empty; when a
check fails, INGEST-FAULT is raised, the hunt resumes at the second byte, and nothing else changes.
The last payload byte makes the segment arrive: of the current epoch and within the credit it joins
the queue's tail and takes its blocks from granted-unused; beyond the credit INGEST-OVERRUN is
raised; of another epoch it is counted stale, with CREDIT when its epoch was met since the last
RESTART. Nothing else changes. (R36, R38, R39, R40, R41, R42, R198) -/
def Obligations.ForwardPathBytesMakeSegments : Prop :=
  ∀ s : State, s.powered = true →
    (s.path = { rx := .hunt, held := [] } → exec (.markerFound [0xE7, 0x3C, 0x91, 0x0D]) s =
      .next { s with path := { rx := .header, held := [0xE7, 0x3C, 0x91, 0x0D] } }) ∧
    (∀ bytes h : List Byte, s.path.rx = .header → bytes ≠ [] → s.path.held ++ bytes = h → h.length = 32 →
      (h.take 4 = [0xE7, 0x3C, 0x91, 0x0D] → fieldAt h 30 2 = (crc16 (h.take 30)).toNat →
        (byteAt h 4).toNat ≤ 1 → 1 ≤ (byteAt h 6).toNat → (byteAt h 6).toNat ≤ 4 → 1 ≤ fieldAt h 20 4 →
        fieldAt h 20 4 ≤ 65536 →
        exec (.segmentHeader bytes) s = .next { s with path := { rx := .payload, held := h } }) ∧
      (∀ reason, judgeHeader h = some reason →
        exec (.segmentHeader bytes) s = .next
          (State.raise { s with path := huntScan (h.drop 1) } .ingestFault none (.ingestFault reason)))) ∧
    (∀ (bytes whole : List Byte) (ch : ChannelId) (g : Segment), s.path.rx = .payload → bytes ≠ [] →
      32 ≤ s.path.held.length → s.path.held ++ bytes = whole →
      whole.length = 32 + fieldAt whole 20 4 → byteAt whole 4 = ChannelId.number ch →
      g = segmentOf whole →
      let blocks := (32 + fieldAt whole 20 4 + 4095) / 4096
      let ready := { s with path := { rx := .header, held := [] } }
      (byteAt whole 5 = (s.chan ch).epoch → blocks ≤ (s.chan ch).granted →
        exec (.segmentArrival bytes) s = .next (ready.setChan ch { s.chan ch with
          queue := (s.chan ch).queue ++ [g], granted := (s.chan ch).granted - blocks })) ∧
      (byteAt whole 5 = (s.chan ch).epoch → (s.chan ch).granted < blocks →
        exec (.segmentArrival bytes) s = .next (ready.raise .ingestOverrun (some ch)
          (.ingestOverrun blocks (s.chan ch).granted))) ∧
      (byteAt whole 5 ≠ (s.chan ch).epoch →
        exec (.segmentArrival bytes) s = .next (State.setChan { ready with
          returns :=
            if (byteAt whole 5 - (s.chan ch).restartEpoch).toNat <
                ((s.chan ch).epoch - (s.chan ch).restartEpoch).toNat then
              addCredit ch blocks s.returns else s.returns } ch { s.chan ch with
          stale := min 65535 ((s.chan ch).stale + 1) })))

/-- O53. Granted-unused credit and the blocks held in the queue always make up the 512 blocks of the
allotment. Every step keeps, for both channels, the credit law: granted-unused credit plus the
blocks held in the channel's queue is 512. (R37, R39, R44, R45, R46) -/
def Obligations.CreditLawIsKept : Prop :=
  ∀ s t : State, CreditLaw s → step s = .next t → CreditLaw t

/-- O54. SEGMENT_TAKE serves an eligible channel of least lead, works its head segment, or discards it
as ORDER. With main power on and the unpacker free: the channel served is eligible; when both are,
its lead is not the greater, and at equal leads it is not the last-served one; when none is, nothing
changes. The served channel becomes the last-served. A head segment that passes the order check
becomes the segment in work with its key chosen; one that fails leaves the queue at once, its blocks
return as credit, and the ORDER count rises by 1. Nothing else changes. (R44, R52, R54, R56, R58) -/
def Obligations.TheUnpackerServesTheSmallerLead : Prop :=
  ∀ s : State, s.powered = true → s.work = none →
    (s.eligible .a = false → s.eligible .b = false → exec .segmentTake s = .next s) ∧
    (∀ ch g rest, s.eligible ch = true → (s.chan ch).queue = g :: rest →
      (s.eligible ch.other = true →
        s.lead ch < s.lead ch.other ∨ s.lead ch = s.lead ch.other ∧ s.lastServed ≠ ch) →
      (s.orderPasses ch g = true → exec .segmentTake s = .next { s with
        lastServed := ch, work := some { channel := ch, key := s.chooseKey ch g } }) ∧
      (s.orderPasses ch g = false → exec .segmentTake s = .next (State.setChan { s with
        lastServed := ch, returns := addCredit ch g.blocks s.returns } ch { s.chan ch with
          queue := rest, granted := (s.chan ch).granted + g.blocks
          assembly := { (s.chan ch).assembly with counts := { (s.chan ch).assembly.counts with
            order := min 65535 ((s.chan ch).assembly.counts.order + 1) } } })))

/-- O55. SEGMENT_FINISH closes what its head segment skips, places or hands off the segment, judges
priming and completion, and returns its blocks. For the head segment of a channel in work that
passes the order check. With the cursor below its key, the open parts of the FILLING frame are
closed MISSING; then each frame position skipped, in order while a FREE slot is left, takes the slot
at the take pointer, READY with every part MISSING. Each part or frame so closed, unless damaged
before (log entry 20, DEDUCED), adds 1 to MISSING; nothing else of the channel changes. When no FREE
slot is left for the segment, it stays at the head. Otherwise the unpacker is free, the segment
leaves the queue, its blocks are granted again and CREDIT is sent ahead of any FETCH (entry 16,
DESIGN CHOICE). A fragment joins its FILLING slot or opens the slot at the take pointer; a frame
with all parts closed is READY; unusable or badly checked payloads and new FRAGMENT or LENGTH damage
add to their counts. A part appends fragments in order up to its limit and closes with the last; a
wrong index or count gives FRAGMENT (as R61; for inconsistent fields against R34, entry 44, DESIGN
CHOICE), too many bytes or a sound block of another length LENGTH, a bad payload its cause; the
first cause stays. A good CUES or RESOURCE payload is handed to the scheduler, a bad one not. A
channel in CUEING becomes PRIMED at the priming depth when READY frames were added, or when the
fetch of its presenting item completes. A completed fetch of the channel's one record sets the
fetch-complete mark and admits the next item with its FETCH, or reports that none follows, or raises
ADMISSION-REFUSED. The other channel is untouched; a finish with nothing in work changes nothing
(log entry 12, DESIGN CHOICE). (R44, R52, R57, R59, R61, R62, R63, R64, R65, R66, R94, R118) -/
def Obligations.FinishedSegmentsReturnTheirCredit : Prop :=
  (∀ s : State, s.powered = true →
    (s.work = none → exec .segmentFinish s = .next s) ∧
    (∀ (w : Work) (g : Segment) (rest : List Segment) (a : AdmissionRecord) (comp : Composition),
      s.work = some w → (s.chan w.channel).queue = g :: rest → s.orderPasses w.channel g = true →
      (s.chan w.channel).fetchingRecord = some a → s.composition a.slot = some comp →
      staysAtHead ((s.chan w.channel).closeBefore comp a.ident g) comp g = false →
      ∃ (t : State) (grew completed : Bool), exec .segmentFinish s = .next t ∧ t.work = none ∧
        grew = decide ((s.chan w.channel).readyCount < (t.chan w.channel).readyCount) ∧
        completed = (g.isFragment && comp.isLastFrame g.reel g.frame &&
          !((t.chan w.channel).fillingFrame.any (fun f => f.pos = g.position))) ∧
        (t.chan w.channel).state = (if (s.chan w.channel).state = .cueing ∧
            (grew = true ∧ (s.chan w.channel).config.priming ≤ (t.chan w.channel).readyCount ∨
              completed = true ∧
                ((s.chan w.channel).config.priming ≤ (t.chan w.channel).readyCount ∨
                  (s.chan w.channel).records.head?.map (·.ident) = some a.ident)) then .primed
          else (s.chan w.channel).state) ∧
        ((t.chan w.channel).state ≠ (s.chan w.channel).state →
          t.notices.any (fun n => n.isOf .channelPrimed (some w.channel)) = true) ∧
        (completed = false ∨ (s.chan w.channel).records ≠ [a] →
          (t.chan w.channel).records = (s.chan w.channel).records ∧ t.log = s.log ∧
          t.licences = s.licences ∧ t.returns = addCredit w.channel g.blocks s.returns ∧
          (t.chan w.channel).assembly.complete = completed) ∧
        (completed = true → (s.chan w.channel).records = [a] →
          ((s.chan w.channel).refusal = true ∨ (s.chan w.channel).items[a.item + 1]? = none →
            (t.chan w.channel).assembly.complete = true ∧ (t.chan w.channel).noNext = true ∧
            (t.chan w.channel).records = [a]) ∧
          ∀ (i : ShowItem) (after : Composition), (s.chan w.channel).refusal = false →
            (s.chan w.channel).items[a.item + 1]? = some i → s.composition i.slot.toNat = some after →
            (∀ st, judgeAdmission s after i.entryReel.toNat = .error st →
              (t.chan w.channel).assembly.complete = true ∧ (t.chan w.channel).noNext = true ∧
              (t.chan w.channel).refusal = true ∧ (t.chan w.channel).records = [a] ∧
              t.notices.any (fun n => n.isOf .admissionRefused (some w.channel)) = true) ∧
            ∀ lic, judgeAdmission s after i.entryReel.toNat = .ok lic →
              ∃ b : AdmissionRecord, (t.chan w.channel).records = [a, b] ∧ b.item = a.item + 1 ∧
                b.slot = i.slot.toNat ∧ b.entryReel = i.entryReel.toNat ∧ b.licence = lic ∧
                b.presented = 0 ∧ b.charged = false ∧ b.chargeable = true ∧
                (t.chan w.channel).assembly.fetching = some b.ident ∧
                (t.chan w.channel).assembly.cursor = .start i.entryReel.toNat ∧
                (t.chan w.channel).assembly.complete = false ∧
                t.returns = addCredit w.channel g.blocks s.returns ++
                  [.fetch w.channel (s.chan w.channel).epoch (a.item + 1) after.id i.entryReel.toNat]) ∧
        (t.chan w.channel).queue = rest ∧
        (t.chan w.channel).granted = (s.chan w.channel).granted + g.blocks ∧
        (∃ later, t.returns = addCredit w.channel g.blocks s.returns ++ later) ∧
        (g.isFragment = true → (t.chan w.channel).subs = (s.chan w.channel).subs ∧
          t.subtitlePort = s.subtitlePort) ∧
        (g.isFragment = false → (t.chan w.channel).assembly.cursor = g.key ∧
          t.returns = addCredit w.channel g.blocks s.returns ∧
          (∀ cause, g.unpacked w.key = .bad cause →
            (t.chan w.channel).subs = (s.chan w.channel).subs ∧ t.subtitlePort = s.subtitlePort) ∧
          ∀ (plain : List Byte) (handed : SubsResult), g.unpacked w.key = .good plain →
            handed = (if g.kind = .resource then
              (s.chan w.channel).subs.takeResource comp g.item g.reel g.resourceOffset plain
            else (s.chan w.channel).subs.takeCues comp g.item g.reel plain) →
            (t.chan w.channel).subs = handed.subs ∧
            t.subtitlePort = s.subtitlePort ++ handed.events ∧
            (handed.drops ≠ [] →
              t.notices.any (fun n => n.isOf .cueDropped (some w.channel)) = true)) ∧
        (g.isFragment = true → ∃ (c : Channel) (payload : Payload) (open_ : List Slot),
          c = (s.chan w.channel).closeBefore comp a.ident g ∧ payload = g.unpacked w.key ∧
          (if c.fillingFrame.any (fun f => f.pos = g.position) then
            open_ = c.slots ∧ (t.chan w.channel).take = c.take
          else (t.chan w.channel).take = (c.take + 1) % 96 ∧ open_ = c.slots.set c.take (.filling
            { pos := g.position, record := a.ident
              picture := if g.kind = .sound then Part.missing else Part.fresh
              sound := if comp.sourceChannels ≠ 0 then some Part.fresh else none })) ∧
          (t.chan w.channel).slots = open_.map (fun x =>
            match x with
            | .filling f => Slot.settle (.filling (f.takeFragment g
                ((s.chan w.channel).config.sampleRate / comp.frameRate.toNat *
                  comp.sourceChannels.toNat * 3) payload))
            | x => x) ∧
          (comp.isLastFrame g.reel g.frame = false →
            (t.chan w.channel).assembly.cursor = g.key) ∧
          (payload = .bad .keyUnusable →
            (t.chan w.channel).assembly.counts.keyUnusable =
              min 65535 ((s.chan w.channel).assembly.counts.keyUnusable + 1) ∧
            t.notices.any (fun n => n.isOf .frameDamaged (some w.channel)) = true) ∧
          (payload = .bad .check →
            (t.chan w.channel).assembly.counts.check =
              min 65535 ((s.chan w.channel).assembly.counts.check + 1)) ∧
          (t.chan w.channel).assembly.counts.missing =
            (if g.kind = .sound ∧ c.fillingFrame.any (fun f => f.pos = g.position) = false then
              min 65535 (c.assembly.counts.missing + 1)
            else c.assembly.counts.missing) ∧
          ∀ (f : Frame) (p q : Part), Slot.filling f ∈ open_ → (∀ f', Slot.filling f' ∈ open_ → f' = f) →
            (if g.kind = .sound then
              f.sound = some p ∧ (f.takeFragment g ((s.chan w.channel).config.sampleRate /
                comp.frameRate.toNat * comp.sourceChannels.toNat * 3) payload).sound = some q
            else p = f.picture ∧ q = (f.takeFragment g 0 payload).picture) →
            (t.chan w.channel).assembly.counts.assembly =
              min 65535 ((s.chan w.channel).assembly.counts.assembly +
                if p.damage = none ∧ (q.damage = some .fragment ∨ q.damage = some .length) then 1 else 0)) ∧
        t.chan w.channel.other = s.chan w.channel.other ∧ t.keys = s.keys ∧
        t = { s with
          work := none, chanA := t.chanA, chanB := t.chanB, returns := t.returns
          licences := t.licences, log := t.log, nextSeq := t.nextSeq, notices := t.notices
          attn := t.attn, subtitlePort := t.subtitlePort }) ∧
    (∀ (w : Work) (g : Segment) (rest : List Segment) (a : AdmissionRecord) (comp : Composition) (c : Channel),
      s.work = some w → (s.chan w.channel).queue = g :: rest → s.orderPasses w.channel g = true →
      (s.chan w.channel).fetchingRecord = some a → s.composition a.slot = some comp →
      c = (s.chan w.channel).closeBefore comp a.ident g → staysAtHead c comp g = true →
      ∃ t : State, exec .segmentFinish s = .next t ∧ t.work = none ∧ t.returns = s.returns ∧
        t.chan w.channel = { c with
          state := if c.state = .cueing ∧ (s.chan w.channel).readyCount < c.readyCount ∧
            c.config.priming ≤ c.readyCount then .primed else c.state } ∧
        t.licences = s.licences ∧ t.log = s.log ∧ t.subtitlePort = s.subtitlePort ∧
        t.chan w.channel.other = s.chan w.channel.other)) ∧
  (∀ (c : Channel) (comp : Composition) (record : Nat) (g : Segment) (closed : Frame → Frame),
    (∀ f, closed f = { f with
      picture := if f.picture.closed then f.picture else f.picture.closeEarly
      sound := f.sound.map (fun p =>
        if p.closed || (g.kind = .sound && f.pos = g.position) then p else p.closeEarly) }) →
    (c.assembly.cursor.below g.key = false → c.closeBefore comp record g = c) ∧
    (c.assembly.cursor.below g.key = true →
      ∃ (n : Nat) (slots : Nat → List Slot) (cursor : Nat → Cursor) (at_ : Nat → Nat × Nat),
        slots 0 = c.slots.map (fun x =>
          match x with
          | .filling f => Slot.settle (.filling (closed f))
          | x => x) ∧
        cursor 0 = (match c.fillingFrame with
          | some f => if (closed f).complete then lastKey comp f.pos.reel f.pos.frame
            else c.assembly.cursor
          | none => c.assembly.cursor) ∧
        (∀ j < n, nextSkipped comp (cursor j) g.key = some (at_ j) ∧
          0 < (slots j).countP Slot.isFree ∧
          slots (j + 1) = (slots j).set (if j = 0 then c.take else (c.take + j) % 96) (.ready
            { pos := { item := g.item, reel := (at_ j).1, frame := (at_ j).2 }, record := record
              picture := Part.missing
              sound := if comp.sourceChannels ≠ 0 then some Part.missing else none }) ∧
          cursor (j + 1) = lastKey comp (at_ j).1 (at_ j).2) ∧
        (nextSkipped comp (cursor n) g.key = none ∨ (slots n).countP Slot.isFree = 0 ∨ 96 < n) ∧
        c.closeBefore comp record g = { c with
          slots := slots n, take := if n = 0 then c.take else (c.take + n) % 96
          assembly := { c.assembly with
            cursor := cursor n
            counts := { c.assembly.counts with
              missing := if n = 0 ∧ c.fillingFrame = none then c.assembly.counts.missing
                else min 65535 (c.assembly.counts.missing + n + (match c.fillingFrame with
                  | none => 0
                  | some f =>
                    (if f.picture.closed = false ∧ f.picture.damage = none then 1 else 0) +
                    (match f.sound with
                      | none => 0
                      | some p =>
                        if p.closed = false ∧ p.damage = none ∧
                          ¬(g.kind = .sound ∧ f.pos = g.position) then 1 else 0))) } } })) ∧
  ∀ (p : Part) (index count limit : Nat) (exact : Option Nat),
    (∀ cause payload, p.damage = some cause →
      (p.take index count limit exact payload).damage = some cause) ∧
    (p.damage = none →
      (∀ cause, (p.take index count limit exact (.bad cause)).damage = some cause ∧
        (p.take index count limit exact (.bad cause)).bytes = []) ∧
      ∀ plain : List Byte,
        (index < 1 ∨ 32 < index ∨ count < 1 ∨ 32 < count ∨ count < index ∨
            p.fixedCount.any (fun n => n ≠ count) = true ∨ index ≠ p.lastIndex + 1 →
          (p.take index count limit exact (.good plain)).damage = some .fragment ∧
          (p.take index count limit exact (.good plain)).bytes = []) ∧
        (1 ≤ index → index ≤ count → count ≤ 32 → p.fixedCount.getD count = count →
          index = p.lastIndex + 1 →
          (limit < p.bytes.length + plain.length →
            (p.take index count limit exact (.good plain)).damage = some .length) ∧
          (p.bytes.length + plain.length ≤ limit → index < count →
            p.take index count limit exact (.good plain) = { p with
              fixedCount := some count, lastIndex := index, bytes := p.bytes ++ plain }) ∧
          (p.bytes.length + plain.length ≤ limit → index = count →
            p.take index count limit exact (.good plain) =
              if exact = none ∨ exact = some (p.bytes.length + plain.length) then { p with
                fixedCount := some count, lastIndex := index, bytes := p.bytes ++ plain, closed := true }
              else { p with
                fixedCount := some count, lastIndex := index, bytes := [], damage := some .length
                closed := true })))

/-- O56. A payload is decrypted only under a key whose owning licence the fetching record names and is
OPEN, CLOSING or REVOKING. When the key chosen for a segment is material, the channel has a fetching
record that names a licence, the key record holds the key id that the segment's reel names for its
kind, is owned by that licence and holds that material, and the licence is OPEN, CLOSING or
REVOKING. The payload of a segment that is usable has the CRC-32 of its header, and decryption
undoes the content cipher, with equal lengths. (R58, R60) -/
def Obligations.KeysServeOnlyTheirAdmittedLicence : Prop :=
  (∀ (s : State) (ch : ChannelId) (g : Segment) (m : Material), s.chooseKey ch g = .material m →
    ∃ a comp reel i l k, (s.chan ch).fetchingRecord = some a ∧ s.composition a.slot = some comp ∧
      comp.reels[g.reel]? = some reel ∧ a.licence = some i ∧ s.licence i = some l ∧
      l.state ∈ [.opened, .closing, .revoking] ∧
      s.findKey (match g.kind with
        | .picture => reel.pictureKey
        | .sound => reel.soundKey
        | .cues | .resource => reel.subtitleKey) = some k ∧ k.owner = i ∧ k.material = m) ∧
  (∀ (g : Segment) (key : KeyChoice) (plain : List Byte), g.unpacked key = .good plain →
    crc32 plain = g.crc ∧ plain.length = g.payload.length) ∧
  ∀ (m : Material) (plain : List Byte),
    decrypt m (List.ofFn (Config.contentCipher m plain.length plain.get)) = plain

/-- O57. No track shows more than 8 cues, and the resource banks keep their canonical form. Every step
keeps, for both channels: at most 8 SHOWN cues on each track, and both resource banks as byte lists
with strictly rising offsets and no zero byte, so that equal banks are equal data. That unwritten
bytes read 0 is R156; the form is the model's own. (R152, R156, R161) -/
def Obligations.SubtitleLawsAreKept : Prop :=
  ∀ s t : State, ShownLaw s ∧ BankLaw s → step s = .next t → ShownLaw t ∧ BankLaw t

/-- O58. RESOURCE bytes land in their context's bank, CUES records are stored or dropped in order, and a
deadline shows and clears the cues that are due. A RESOURCE plaintext handed to an existing context
of its item and reel on a bank of canonical form: when offset plus length is at most 262144, each of
its bytes is read at its offset, every other byte of the bank reads as before, the other bank is
unchanged, and nothing is dropped; when it is more, no byte is copied and the drop is RESOURCE-
RANGE. At the deadline of frame p every cue shown whose end has come is cleared with a CLEAR event,
and every cue left shown ends after p. A PENDING cue of the frame's context is dropped BEYOND-REEL
or, when its end has come, MISSED; is shown with its SHOW event when p lies in its interval; and
waits when p is before it. A jump target's first frame clears every cue shown, releases the contexts
with the LEFT mark and clears the jump mark. That a deadline hands these results on is stated in
PlayingDeadlinesPresentTheNextFrame. Of several contexts matched to a frame the newest is taken (log
entry 21, DEDUCED). A hand-off uses the unmarked context of its item and reel, or makes one on a
free bank, the bank of the turn when both are free; with neither free it releases the oldest context
with the LEFT mark, no SHOWN cue and not the matching context of the frame last presented, drops its
PENDING cues BANK-BUSY and takes its bank, the turn staying; with none such it makes no context (the
turn: entry 32, DEDUCED). Every whole CUES record is stored PENDING with its frames and its record's
fields, or dropped; one check after the other decides, the first that fails naming the reason;
without a context every record is dropped BANK-BUSY. Bytes after the last whole record are one drop
more, also when the records are all dropped (entry 13, DESIGN CHOICE). At a new reel the context
matched to the previous frame ends: its shown cues are cleared, its PENDING cues dropped MISSED. The
matching context of each presented frame is remembered as that of the frame last presented. (R152,
R153, R154, R155, R156, R26, R27, R140, R160, R161, R162, R164) -/
def Obligations.ResourceBytesLandAtTheirOffset : Prop :=
  ((∀ (x : Subtitles) (comp : Composition) (item reel offset : Nat)
    (plain : List Byte) (c : Context), comp.tracks ≠ [] → x.unmarked item reel = some c → c.bank ≤ 1 →
    Memory.wf (x.bank c.bank) = true →
    (offset + plain.length ≤ 262144 →
      (x.takeResource comp item reel offset plain).drops = [] ∧
      (x.takeResource comp item reel offset plain).events = [] ∧
      (∀ a, Memory.read ((x.takeResource comp item reel offset plain).subs.bank c.bank) a =
        if offset ≤ a ∧ a < offset + plain.length then plain.getD (a - offset) 0
        else Memory.read (x.bank c.bank) a) ∧
      (x.takeResource comp item reel offset plain).subs =
        x.setBank c.bank ((x.takeResource comp item reel offset plain).subs.bank c.bank)) ∧
    (262144 < offset + plain.length →
      (x.takeResource comp item reel offset plain).subs = x ∧
      (x.takeResource comp item reel offset plain).drops.map (·.reason) = [.resourceRange])) ∧
  (∀ (x y : Subtitles) (ch : ChannelId) (comp : Composition) (item reel p : Nat) (c : Context)
      (events : List PortEvent) (drops : List DropFault),
    x.matching item reel = some c → x.schedule ch comp item reel p = SubsResult.mk y events drops →
    (∀ q ∈ y.shown, p < q.eo) ∧
    (∀ q ∈ x.shown, q.cue.track ≤ 3 → q.eo ≤ p →
      PortEvent.clear ch q.cue.track q.cue.number false ∈ events) ∧
    (∀ q ∈ x.pendingCues, q.context = c.serial → q.track ≤ 3 →
      (effectiveInterval q.ri q.ro (x.offsets.getD q.track 0) (x.styleOf q.style).minimum
          (comp.duration c.reel) = .beyondReel →
        q ∉ y.pendingCues ∧ q.fault .beyondReel c.item c.reel ∈ drops) ∧
      ∀ ei eo stretched, effectiveInterval q.ri q.ro (x.offsets.getD q.track 0)
          (x.styleOf q.style).minimum (comp.duration c.reel) = .span ei eo stretched →
        (eo ≤ p → q ∉ y.pendingCues ∧ q.fault .missed c.item c.reel ∈ drops) ∧
        (p < ei → q ∈ y.pendingCues) ∧
        (ei ≤ p → p < eo → q ∉ y.pendingCues ∧
          PortEvent.showCue ch q.track (((comp.tracks[q.track]?).map (·.kind)).getD 0)
            (((comp.tracks[q.track]?).map (·.language)).getD 0) q.number q.region
            (x.styleOf q.style).handle (showFadeIn q.fadeIn ei eo p) (showFadeOut q.fadeOut ei eo)
            (Memory.readAll (x.bank c.bank) q.contentOffset q.contentLength) ∈ events))) ∧
  (∀ (x : Subtitles) (ch : ChannelId) (comp : Composition) (previous : Option (Nat × Nat)) (pos : Position),
    (∀ q ∈ x.shown, q.cue.track ≤ 3 →
      PortEvent.clear ch q.cue.track q.cue.number false ∈ (x.present ch comp previous pos true).events) ∧
    (x.present ch comp previous pos true).subs.jumpMark = false ∧
    (∀ c ∈ (x.present ch comp previous pos true).subs.contexts, c.left = false) ∧
    (∀ (p : Nat × Nat) (c : Context) (y : Subtitles) (events : List PortEvent) (drops : List DropFault),
      previous = some p → p ≠ (pos.item, pos.reel) → x.servedContext = some c →
      x.present ch comp previous pos false = SubsResult.mk y events drops →
      (∀ k ∈ y.contexts, k.serial ≠ c.serial) ∧ (∀ q ∈ y.shown, q.cue.context ≠ c.serial) ∧
      (∀ q ∈ y.pendingCues, q.context ≠ c.serial) ∧
      (∀ q ∈ x.shown, q.cue.context = c.serial → q.cue.track ≤ 3 →
        PortEvent.clear ch q.cue.track q.cue.number false ∈ events) ∧
      ∀ q ∈ x.pendingCues, q.context = c.serial → q.fault .missed c.item c.reel ∈ drops) ∧
    ∀ target : Bool, (x.present ch comp previous pos target).subs.served =
      ((x.present ch comp previous pos target).subs.matching pos.item pos.reel).map (·.serial))) ∧
  (∀ (x : Subtitles) (item reel : Nat),
    (∀ c, x.unmarked item reel = some c → x.openContext item reel = SubsResult.mk x [] []) ∧
    (∀ bank turn : Nat, x.unmarked item reel = none →
      (x.bankFree 0 = true ∧ x.bankFree 1 = true ∧ bank = x.turn ∧ turn = (if x.turn = 0 then 1 else 0) ∨
        x.bankFree 0 = true ∧ x.bankFree 1 = false ∧ bank = 0 ∧ turn = 1 ∨
        x.bankFree 0 = false ∧ x.bankFree 1 = true ∧ bank = 1 ∧ turn = 0) →
      x.openContext item reel = SubsResult.mk (Subtitles.setBank { x with
        contexts := x.contexts ++ [{ serial := x.nextContext, item := item, reel := reel, bank := bank
                                     left := false, lastTick := List.replicate 4 none }]
        nextContext := x.nextContext + 1, turn := turn } bank []) [] []) ∧
    (∀ free : Context → Prop, x.unmarked item reel = none → x.bankFree 0 = false → x.bankFree 1 = false →
      (∀ c, free c ↔ c.left = true ∧ (∀ q ∈ x.shown, q.cue.context ≠ c.serial) ∧
        x.served ≠ some c.serial) →
      (∀ (c : Context) (older younger : List Context), x.contexts = older ++ c :: younger →
        (∀ k ∈ older, ¬ free k) → free c →
        x.openContext item reel = SubsResult.mk (Subtitles.setBank { x with
            contexts := x.contexts.filter (fun k => k.serial ≠ c.serial) ++
              [{ serial := x.nextContext, item := item, reel := reel, bank := c.bank
                 left := false, lastTick := List.replicate 4 none }]
            pendingCues := x.pendingCues.filter (fun q => q.context ≠ c.serial)
            nextContext := x.nextContext + 1 } c.bank []) []
          ((x.pendingCues.filter (fun q => q.context = c.serial)).map
            (fun q => q.fault .bankBusy c.item c.reel))) ∧
      ((∀ c ∈ x.contexts, ¬ free c) → x.openContext item reel = SubsResult.mk x [] []))) ∧
  (∀ (x y z : Subtitles) (comp : Composition) (item reel : Nat)
      (plain : List Byte) (c : Context) (ev0 ev : List PortEvent) (drops0 drops : List DropFault),
    comp.tracks ≠ [] → x.openContext item reel = SubsResult.mk z ev0 drops0 →
    x.takeCues comp item reel plain = SubsResult.mk y ev drops →
    (z.unmarked item reel = none → y = z ∧
      (∀ d ∈ drops, d ∈ drops0 ∨ d.reason = .bankBusy ∨ d.reason = .malformed) ∧
      drops.length = drops0.length + plain.length / 28 + (if plain.length % 28 = 0 then 0 else 1)) ∧
    (z.unmarked item reel = some c → ∃ (stored : List Cue) (faults : List DropFault),
      y = { z with pendingCues := z.pendingCues ++ stored, contexts := y.contexts } ∧
      y.contexts.map (fun k => (k.serial, k.item, k.reel, k.bank, k.left)) =
        z.contexts.map (fun k => (k.serial, k.item, k.reel, k.bank, k.left)) ∧
      drops = drops0 ++ faults ∧
      stored.length + faults.length =
        plain.length / 28 + (if plain.length % 28 = 0 then 0 else 1) ∧
      (z.pendingCues.length + z.shown.length ≤ 1024 →
        y.pendingCues.length + y.shown.length ≤ 1024) ∧
      ∀ q ∈ stored, ∃ (n : Nat) (r : CueRecord) (rate : Nat), n < plain.length / 28 ∧
        r = readCueRecord ((plain.drop (28 * n)).take 28) ∧ rate = trackRate comp r.track.toNat ∧
        q = { context := c.serial, track := r.track.toNat, number := r.number
              ri := frameOfTick r.tickIn comp.rate rate
              ro := clampOut (frameOfTick r.tickOut comp.rate rate) (comp.duration c.reel)
              fadeIn := frameOfTick r.fadeIn comp.rate rate
              fadeOut := frameOfTick r.fadeOut comp.rate rate
              tickIn := r.tickIn, tickOut := r.tickOut
              fadeInTicks := r.fadeIn, fadeOutTicks := r.fadeOut, style := r.style.toNat
              region := r.region.toNat, contentOffset := r.contentOffset
              contentLength := r.contentLength } ∧
        q.number ≠ 0 ∧ q.region ≤ 3 ∧ q.track < comp.tracks.length ∧
        z.enabled.getLsbD q.track = true ∧ q.ri < comp.duration c.reel ∧
        q.contentOffset + q.contentLength ≤ 262144)) ∧
  ∀ (x y : Subtitles) (comp : Composition) (item reel : Nat)
      (plain : List Byte) (c : Context) (r : CueRecord) (t : Nat) (ev : List PortEvent)
      (drops : List DropFault),
    comp.tracks ≠ [] → x.unmarked item reel = some c → plain.length = 28 → r = readCueRecord plain →
    t = r.track.toNat → x.takeCues comp item reel plain = SubsResult.mk y ev drops →
    (r.number = 0 ∨ 3 < r.region.toNat → y = x ∧ drops = [r.fault .malformed item reel]) ∧
    (r.number ≠ 0 → r.region.toNat ≤ 3 →
      (comp.tracks.length ≤ t → y = x ∧ drops = [r.fault .track item reel]) ∧
      (t < comp.tracks.length →
        (x.enabled.getLsbD t = false → y = x ∧ drops = [r.fault .disabled item reel]) ∧
        (x.enabled.getLsbD t = true →
          (comp.duration c.reel ≤ frameOfTick r.tickIn comp.rate (trackRate comp t) →
            y = x ∧ drops = [r.fault .beyondReel item reel]) ∧
          (frameOfTick r.tickIn comp.rate (trackRate comp t) < comp.duration c.reel →
            (262144 < r.contentOffset + r.contentLength →
              y = x ∧ drops = [r.fault .badReference item reel]) ∧
            (r.contentOffset + r.contentLength ≤ 262144 →
              (∀ k, c.lastTick[t]? = some (some k) → r.tickIn < k →
                y = x ∧ drops = [r.fault .order item reel]) ∧
              ((∀ k, c.lastTick[t]? = some (some k) → k ≤ r.tickIn) →
                (1024 ≤ x.pendingCues.length + x.shown.length →
                  y = x ∧ drops = [r.fault .storeFull item reel]) ∧
                (x.pendingCues.length + x.shown.length < 1024 →
                  drops = [] ∧ (∃ q, y.pendingCues = x.pendingCues ++ [q]) ∧
                  y.contexts = x.contexts.map (fun k => if k.serial = c.serial then
                    { k with lastTick := k.lastTick.set t (some r.tickIn) } else k))))))))

/-- O59. Cue intervals lie in their reel, gains never raise a sample, and ramps end on their target. For
every cue, offset, minimum display and duration: the cue is dropped BEYOND-REEL exactly when its
start plus offset, not below 0, is at or beyond the duration; otherwise the interval begins there,
ends after it, within the reel, and is marked STRETCHED exactly when minimum is 0 and the end plus
offset is not past the start, and then spans one frame. Every gain step has a factor of at most
32768, and MUTE has 0; a 24-bit sample sent under such a factor is not larger in magnitude; a gain
ramp's factor at the last sample of its period is the new one; and the scale at k = N leaves a
sample as it is, at k = 0 silences it. (R26, R29, R30, R31) -/
def Obligations.ConversionsStayInRange : Prop :=
  (∀ (ri ro minimum duration : Nat) (offset : Int),
    (effectiveInterval ri ro offset minimum duration = .beyondReel ↔
      (duration : Int) ≤ max 0 ((ri : Int) + offset)) ∧
    ∀ ei eo stretched, effectiveInterval ri ro offset minimum duration = .span ei eo stretched →
      (ei : Int) = max 0 ((ri : Int) + offset) ∧ ei < eo ∧ eo ≤ duration ∧
      (stretched = true ↔ minimum = 0 ∧ (ro : Int) + offset ≤ ei) ∧
      (stretched = true → eo = ei + 1) ∧
      (stretched = false → (eo : Int) = min (max ((ro : Int) + offset) ((ei : Int) + minimum)) duration)) ∧
  ((∀ g : Option Nat, gainFactorOf g ≤ 32768) ∧ gainFactorOf none = 0 ∧
  (∀ (x : Int) (factor : Nat), -8388608 ≤ x → x ≤ 8388607 → factor ≤ 32768 →
    (applyGain x factor).natAbs ≤ x.natAbs) ∧
  (∀ old new spf : Nat, 1 ≤ spf → rampedFactor old new (spf - 1) spf = new) ∧
  ∀ (x : Int) (n : Nat), 1 ≤ n → scaleValue x n n = x ∧ scaleValue x 0 n = 0)

/-- O60. The state after reset meets every law that the steps keep. State.reset meets the credit,
licence, record, log, notice, condition, link, reference, show, slot, shown-cue and bank laws, and
its queue is empty. Values of reset that the model chose are marked in the log entries of NOTES.md.
(R15, R50, R51, R91, R92, R110, R131, R166, R185, R194) -/
def Obligations.ResetMeetsEveryLaw : Prop :=
  CreditLaw State.reset ∧ CapLaw State.reset ∧ RevokedLaw State.reset ∧ AccountLaw State.reset ∧
  RecordLaws State.reset ∧ LogLaw State.reset ∧ AttnLaw State.reset ∧ NoticeLaw State.reset ∧
  ConditionLaw State.reset ∧ LinkLaw State.reset ∧ ReferenceLaw State.reset ∧ ShowLaw State.reset ∧
  SlotLaw State.reset ∧ ShownLaw State.reset ∧ BankLaw State.reset ∧ State.reset.pending = []
end

