-- ==== Sys2Proof/Laws/State.lean ====
section
/-! SUPPORT. What the elementary updates of State leave and change: one lemma per field per update. -/

namespace Sys2Proof.Machine

/-! ### Channels -/

@[simp] theorem State.chan_a (s : State) : s.chan .a = s.chanA := rfl
@[simp] theorem State.chan_b (s : State) : s.chan .b = s.chanB := rfl

theorem State.chan_setChan (s : State) (ch ch' : ChannelId) (c : Channel) :
    (s.setChan ch c).chan ch' = if ch' = ch then c else s.chan ch' := by
  cases ch <;> cases ch' <;> rfl

theorem State.chan_modChan (s : State) (ch ch' : ChannelId) (f : Channel → Channel) :
    (s.modChan ch f).chan ch' = if ch' = ch then f (s.chan ch) else s.chan ch' := by
  cases ch <;> cases ch' <;> rfl

@[simp] theorem State.chan_modChan_same (s : State) (ch : ChannelId) (f : Channel → Channel) :
    (s.modChan ch f).chan ch = f (s.chan ch) := by cases ch <;> rfl

theorem State.chan_modChan_other (s : State) {ch ch' : ChannelId} (f : Channel → Channel)
    (h : ch' ≠ ch) : (s.modChan ch f).chan ch' = s.chan ch' := by simp [State.chan_modChan, h]

@[simp] theorem State.setChan_powered (s : State) (ch : ChannelId) (c : Channel) :
    (s.setChan ch c).powered = s.powered := by cases ch <;> rfl
@[simp] theorem State.setChan_licences (s : State) (ch : ChannelId) (c : Channel) :
    (s.setChan ch c).licences = s.licences := by cases ch <;> rfl
@[simp] theorem State.setChan_keys (s : State) (ch : ChannelId) (c : Channel) :
    (s.setChan ch c).keys = s.keys := by cases ch <;> rfl
@[simp] theorem State.setChan_clock (s : State) (ch : ChannelId) (c : Channel) :
    (s.setChan ch c).clock = s.clock := by cases ch <;> rfl
@[simp] theorem State.setChan_log (s : State) (ch : ChannelId) (c : Channel) :
    (s.setChan ch c).log = s.log := by cases ch <;> rfl
@[simp] theorem State.setChan_nextSeq (s : State) (ch : ChannelId) (c : Channel) :
    (s.setChan ch c).nextSeq = s.nextSeq := by cases ch <;> rfl
@[simp] theorem State.setChan_cause (s : State) (ch : ChannelId) (c : Channel) :
    (s.setChan ch c).cause = s.cause := by cases ch <;> rfl
@[simp] theorem State.setChan_link (s : State) (ch : ChannelId) (c : Channel) :
    (s.setChan ch c).link = s.link := by cases ch <;> rfl
@[simp] theorem State.setChan_notices (s : State) (ch : ChannelId) (c : Channel) :
    (s.setChan ch c).notices = s.notices := by cases ch <;> rfl
@[simp] theorem State.setChan_masks (s : State) (ch : ChannelId) (c : Channel) :
    (s.setChan ch c).masks = s.masks := by cases ch <;> rfl
@[simp] theorem State.setChan_attn (s : State) (ch : ChannelId) (c : Channel) :
    (s.setChan ch c).attn = s.attn := by cases ch <;> rfl
@[simp] theorem State.setChan_compositions (s : State) (ch : ChannelId) (c : Channel) :
    (s.setChan ch c).compositions = s.compositions := by cases ch <;> rfl
@[simp] theorem State.setChan_path (s : State) (ch : ChannelId) (c : Channel) :
    (s.setChan ch c).path = s.path := by cases ch <;> rfl
@[simp] theorem State.setChan_returns (s : State) (ch : ChannelId) (c : Channel) :
    (s.setChan ch c).returns = s.returns := by cases ch <;> rfl
@[simp] theorem State.setChan_returnOut (s : State) (ch : ChannelId) (c : Channel) :
    (s.setChan ch c).returnOut = s.returnOut := by cases ch <;> rfl
@[simp] theorem State.setChan_work (s : State) (ch : ChannelId) (c : Channel) :
    (s.setChan ch c).work = s.work := by cases ch <;> rfl
@[simp] theorem State.setChan_lastServed (s : State) (ch : ChannelId) (c : Channel) :
    (s.setChan ch c).lastServed = s.lastServed := by cases ch <;> rfl
@[simp] theorem State.setChan_subtitlePort (s : State) (ch : ChannelId) (c : Channel) :
    (s.setChan ch c).subtitlePort = s.subtitlePort := by cases ch <;> rfl
@[simp] theorem State.setChan_pending (s : State) (ch : ChannelId) (c : Channel) :
    (s.setChan ch c).pending = s.pending := by cases ch <;> rfl

@[simp] theorem State.modChan_powered (s : State) (ch : ChannelId) (f : Channel → Channel) :
    (s.modChan ch f).powered = s.powered := by cases ch <;> rfl
@[simp] theorem State.modChan_licences (s : State) (ch : ChannelId) (f : Channel → Channel) :
    (s.modChan ch f).licences = s.licences := by cases ch <;> rfl
@[simp] theorem State.modChan_keys (s : State) (ch : ChannelId) (f : Channel → Channel) :
    (s.modChan ch f).keys = s.keys := by cases ch <;> rfl
@[simp] theorem State.modChan_clock (s : State) (ch : ChannelId) (f : Channel → Channel) :
    (s.modChan ch f).clock = s.clock := by cases ch <;> rfl
@[simp] theorem State.modChan_log (s : State) (ch : ChannelId) (f : Channel → Channel) :
    (s.modChan ch f).log = s.log := by cases ch <;> rfl
@[simp] theorem State.modChan_nextSeq (s : State) (ch : ChannelId) (f : Channel → Channel) :
    (s.modChan ch f).nextSeq = s.nextSeq := by cases ch <;> rfl
@[simp] theorem State.modChan_cause (s : State) (ch : ChannelId) (f : Channel → Channel) :
    (s.modChan ch f).cause = s.cause := by cases ch <;> rfl
@[simp] theorem State.modChan_link (s : State) (ch : ChannelId) (f : Channel → Channel) :
    (s.modChan ch f).link = s.link := by cases ch <;> rfl
@[simp] theorem State.modChan_notices (s : State) (ch : ChannelId) (f : Channel → Channel) :
    (s.modChan ch f).notices = s.notices := by cases ch <;> rfl
@[simp] theorem State.modChan_masks (s : State) (ch : ChannelId) (f : Channel → Channel) :
    (s.modChan ch f).masks = s.masks := by cases ch <;> rfl
@[simp] theorem State.modChan_attn (s : State) (ch : ChannelId) (f : Channel → Channel) :
    (s.modChan ch f).attn = s.attn := by cases ch <;> rfl
@[simp] theorem State.modChan_compositions (s : State) (ch : ChannelId) (f : Channel → Channel) :
    (s.modChan ch f).compositions = s.compositions := by cases ch <;> rfl
@[simp] theorem State.modChan_path (s : State) (ch : ChannelId) (f : Channel → Channel) :
    (s.modChan ch f).path = s.path := by cases ch <;> rfl
@[simp] theorem State.modChan_returns (s : State) (ch : ChannelId) (f : Channel → Channel) :
    (s.modChan ch f).returns = s.returns := by cases ch <;> rfl
@[simp] theorem State.modChan_returnOut (s : State) (ch : ChannelId) (f : Channel → Channel) :
    (s.modChan ch f).returnOut = s.returnOut := by cases ch <;> rfl
@[simp] theorem State.modChan_work (s : State) (ch : ChannelId) (f : Channel → Channel) :
    (s.modChan ch f).work = s.work := by cases ch <;> rfl
@[simp] theorem State.modChan_lastServed (s : State) (ch : ChannelId) (f : Channel → Channel) :
    (s.modChan ch f).lastServed = s.lastServed := by cases ch <;> rfl
@[simp] theorem State.modChan_subtitlePort (s : State) (ch : ChannelId) (f : Channel → Channel) :
    (s.modChan ch f).subtitlePort = s.subtitlePort := by cases ch <;> rfl
@[simp] theorem State.modChan_pending (s : State) (ch : ChannelId) (f : Channel → Channel) :
    (s.modChan ch f).pending = s.pending := by cases ch <;> rfl

/-! ### Notices -/

@[simp] theorem State.setNotices_powered (s : State) (n : List Notice) :
    (s.setNotices n).powered = s.powered := rfl
@[simp] theorem State.setNotices_licences (s : State) (n : List Notice) :
    (s.setNotices n).licences = s.licences := rfl
@[simp] theorem State.setNotices_keys (s : State) (n : List Notice) :
    (s.setNotices n).keys = s.keys := rfl
@[simp] theorem State.setNotices_clock (s : State) (n : List Notice) :
    (s.setNotices n).clock = s.clock := rfl
@[simp] theorem State.setNotices_log (s : State) (n : List Notice) :
    (s.setNotices n).log = s.log := rfl
@[simp] theorem State.setNotices_nextSeq (s : State) (n : List Notice) :
    (s.setNotices n).nextSeq = s.nextSeq := rfl
@[simp] theorem State.setNotices_cause (s : State) (n : List Notice) :
    (s.setNotices n).cause = s.cause := rfl
@[simp] theorem State.setNotices_link (s : State) (n : List Notice) :
    (s.setNotices n).link = s.link := rfl
@[simp] theorem State.setNotices_masks (s : State) (n : List Notice) :
    (s.setNotices n).masks = s.masks := rfl
@[simp] theorem State.setNotices_compositions (s : State) (n : List Notice) :
    (s.setNotices n).compositions = s.compositions := rfl
@[simp] theorem State.setNotices_path (s : State) (n : List Notice) :
    (s.setNotices n).path = s.path := rfl
@[simp] theorem State.setNotices_returns (s : State) (n : List Notice) :
    (s.setNotices n).returns = s.returns := rfl
@[simp] theorem State.setNotices_returnOut (s : State) (n : List Notice) :
    (s.setNotices n).returnOut = s.returnOut := rfl
@[simp] theorem State.setNotices_work (s : State) (n : List Notice) :
    (s.setNotices n).work = s.work := rfl
@[simp] theorem State.setNotices_lastServed (s : State) (n : List Notice) :
    (s.setNotices n).lastServed = s.lastServed := rfl
@[simp] theorem State.setNotices_subtitlePort (s : State) (n : List Notice) :
    (s.setNotices n).subtitlePort = s.subtitlePort := rfl
@[simp] theorem State.setNotices_pending (s : State) (n : List Notice) :
    (s.setNotices n).pending = s.pending := rfl
@[simp] theorem State.setNotices_chan (s : State) (n : List Notice) (c' : ChannelId) :
    (s.setNotices n).chan c' = s.chan c' := by cases c' <;> rfl

@[simp] theorem State.raise_powered (s : State) (k : NoticeKind) (c : Option ChannelId) (d : NoticeDetail) :
    (s.raise k c d).powered = s.powered := rfl
@[simp] theorem State.raise_licences (s : State) (k : NoticeKind) (c : Option ChannelId) (d : NoticeDetail) :
    (s.raise k c d).licences = s.licences := rfl
@[simp] theorem State.raise_keys (s : State) (k : NoticeKind) (c : Option ChannelId) (d : NoticeDetail) :
    (s.raise k c d).keys = s.keys := rfl
@[simp] theorem State.raise_clock (s : State) (k : NoticeKind) (c : Option ChannelId) (d : NoticeDetail) :
    (s.raise k c d).clock = s.clock := rfl
@[simp] theorem State.raise_log (s : State) (k : NoticeKind) (c : Option ChannelId) (d : NoticeDetail) :
    (s.raise k c d).log = s.log := rfl
@[simp] theorem State.raise_nextSeq (s : State) (k : NoticeKind) (c : Option ChannelId) (d : NoticeDetail) :
    (s.raise k c d).nextSeq = s.nextSeq := rfl
@[simp] theorem State.raise_cause (s : State) (k : NoticeKind) (c : Option ChannelId) (d : NoticeDetail) :
    (s.raise k c d).cause = s.cause := rfl
@[simp] theorem State.raise_link (s : State) (k : NoticeKind) (c : Option ChannelId) (d : NoticeDetail) :
    (s.raise k c d).link = s.link := rfl
@[simp] theorem State.raise_masks (s : State) (k : NoticeKind) (c : Option ChannelId) (d : NoticeDetail) :
    (s.raise k c d).masks = s.masks := rfl
@[simp] theorem State.raise_compositions (s : State) (k : NoticeKind) (c : Option ChannelId) (d : NoticeDetail) :
    (s.raise k c d).compositions = s.compositions := rfl
@[simp] theorem State.raise_path (s : State) (k : NoticeKind) (c : Option ChannelId) (d : NoticeDetail) :
    (s.raise k c d).path = s.path := rfl
@[simp] theorem State.raise_returns (s : State) (k : NoticeKind) (c : Option ChannelId) (d : NoticeDetail) :
    (s.raise k c d).returns = s.returns := rfl
@[simp] theorem State.raise_returnOut (s : State) (k : NoticeKind) (c : Option ChannelId) (d : NoticeDetail) :
    (s.raise k c d).returnOut = s.returnOut := rfl
@[simp] theorem State.raise_work (s : State) (k : NoticeKind) (c : Option ChannelId) (d : NoticeDetail) :
    (s.raise k c d).work = s.work := rfl
@[simp] theorem State.raise_lastServed (s : State) (k : NoticeKind) (c : Option ChannelId) (d : NoticeDetail) :
    (s.raise k c d).lastServed = s.lastServed := rfl
@[simp] theorem State.raise_subtitlePort (s : State) (k : NoticeKind) (c : Option ChannelId) (d : NoticeDetail) :
    (s.raise k c d).subtitlePort = s.subtitlePort := rfl
@[simp] theorem State.raise_pending (s : State) (k : NoticeKind) (c : Option ChannelId) (d : NoticeDetail) :
    (s.raise k c d).pending = s.pending := rfl
@[simp] theorem State.raise_chan (s : State) (k : NoticeKind) (c : Option ChannelId) (d : NoticeDetail) (c' : ChannelId) :
    (s.raise k c d).chan c' = s.chan c' := by cases c' <;> rfl

@[simp] theorem State.refreshLogLow_powered (s : State) :
    (s.refreshLogLow).powered = s.powered := rfl
@[simp] theorem State.refreshLogLow_licences (s : State) :
    (s.refreshLogLow).licences = s.licences := rfl
@[simp] theorem State.refreshLogLow_keys (s : State) :
    (s.refreshLogLow).keys = s.keys := rfl
@[simp] theorem State.refreshLogLow_clock (s : State) :
    (s.refreshLogLow).clock = s.clock := rfl
@[simp] theorem State.refreshLogLow_log (s : State) :
    (s.refreshLogLow).log = s.log := rfl
@[simp] theorem State.refreshLogLow_nextSeq (s : State) :
    (s.refreshLogLow).nextSeq = s.nextSeq := rfl
@[simp] theorem State.refreshLogLow_cause (s : State) :
    (s.refreshLogLow).cause = s.cause := rfl
@[simp] theorem State.refreshLogLow_link (s : State) :
    (s.refreshLogLow).link = s.link := rfl
@[simp] theorem State.refreshLogLow_masks (s : State) :
    (s.refreshLogLow).masks = s.masks := rfl
@[simp] theorem State.refreshLogLow_compositions (s : State) :
    (s.refreshLogLow).compositions = s.compositions := rfl
@[simp] theorem State.refreshLogLow_path (s : State) :
    (s.refreshLogLow).path = s.path := rfl
@[simp] theorem State.refreshLogLow_returns (s : State) :
    (s.refreshLogLow).returns = s.returns := rfl
@[simp] theorem State.refreshLogLow_returnOut (s : State) :
    (s.refreshLogLow).returnOut = s.returnOut := rfl
@[simp] theorem State.refreshLogLow_work (s : State) :
    (s.refreshLogLow).work = s.work := rfl
@[simp] theorem State.refreshLogLow_lastServed (s : State) :
    (s.refreshLogLow).lastServed = s.lastServed := rfl
@[simp] theorem State.refreshLogLow_subtitlePort (s : State) :
    (s.refreshLogLow).subtitlePort = s.subtitlePort := rfl
@[simp] theorem State.refreshLogLow_pending (s : State) :
    (s.refreshLogLow).pending = s.pending := rfl
@[simp] theorem State.refreshLogLow_chan (s : State) (c' : ChannelId) :
    (s.refreshLogLow).chan c' = s.chan c' := by cases c' <;> rfl

@[simp] theorem State.refreshClockUnset_powered (s : State) :
    (s.refreshClockUnset).powered = s.powered := rfl
@[simp] theorem State.refreshClockUnset_licences (s : State) :
    (s.refreshClockUnset).licences = s.licences := rfl
@[simp] theorem State.refreshClockUnset_keys (s : State) :
    (s.refreshClockUnset).keys = s.keys := rfl
@[simp] theorem State.refreshClockUnset_clock (s : State) :
    (s.refreshClockUnset).clock = s.clock := rfl
@[simp] theorem State.refreshClockUnset_log (s : State) :
    (s.refreshClockUnset).log = s.log := rfl
@[simp] theorem State.refreshClockUnset_nextSeq (s : State) :
    (s.refreshClockUnset).nextSeq = s.nextSeq := rfl
@[simp] theorem State.refreshClockUnset_cause (s : State) :
    (s.refreshClockUnset).cause = s.cause := rfl
@[simp] theorem State.refreshClockUnset_link (s : State) :
    (s.refreshClockUnset).link = s.link := rfl
@[simp] theorem State.refreshClockUnset_masks (s : State) :
    (s.refreshClockUnset).masks = s.masks := rfl
@[simp] theorem State.refreshClockUnset_compositions (s : State) :
    (s.refreshClockUnset).compositions = s.compositions := rfl
@[simp] theorem State.refreshClockUnset_path (s : State) :
    (s.refreshClockUnset).path = s.path := rfl
@[simp] theorem State.refreshClockUnset_returns (s : State) :
    (s.refreshClockUnset).returns = s.returns := rfl
@[simp] theorem State.refreshClockUnset_returnOut (s : State) :
    (s.refreshClockUnset).returnOut = s.returnOut := rfl
@[simp] theorem State.refreshClockUnset_work (s : State) :
    (s.refreshClockUnset).work = s.work := rfl
@[simp] theorem State.refreshClockUnset_lastServed (s : State) :
    (s.refreshClockUnset).lastServed = s.lastServed := rfl
@[simp] theorem State.refreshClockUnset_subtitlePort (s : State) :
    (s.refreshClockUnset).subtitlePort = s.subtitlePort := rfl
@[simp] theorem State.refreshClockUnset_pending (s : State) :
    (s.refreshClockUnset).pending = s.pending := rfl
@[simp] theorem State.refreshClockUnset_chan (s : State) (c' : ChannelId) :
    (s.refreshClockUnset).chan c' = s.chan c' := by cases c' <;> rfl

@[simp] theorem State.raiseDrops_powered (s : State) (ch : ChannelId) (fs : List DropFault) :
    (s.raiseDrops ch fs).powered = s.powered := by
  induction fs generalizing s with
  | nil => rfl
  | cons f fs ih => exact (ih _).trans rfl
@[simp] theorem State.raiseDrops_licences (s : State) (ch : ChannelId) (fs : List DropFault) :
    (s.raiseDrops ch fs).licences = s.licences := by
  induction fs generalizing s with
  | nil => rfl
  | cons f fs ih => exact (ih _).trans rfl
@[simp] theorem State.raiseDrops_keys (s : State) (ch : ChannelId) (fs : List DropFault) :
    (s.raiseDrops ch fs).keys = s.keys := by
  induction fs generalizing s with
  | nil => rfl
  | cons f fs ih => exact (ih _).trans rfl
@[simp] theorem State.raiseDrops_clock (s : State) (ch : ChannelId) (fs : List DropFault) :
    (s.raiseDrops ch fs).clock = s.clock := by
  induction fs generalizing s with
  | nil => rfl
  | cons f fs ih => exact (ih _).trans rfl
@[simp] theorem State.raiseDrops_log (s : State) (ch : ChannelId) (fs : List DropFault) :
    (s.raiseDrops ch fs).log = s.log := by
  induction fs generalizing s with
  | nil => rfl
  | cons f fs ih => exact (ih _).trans rfl
@[simp] theorem State.raiseDrops_nextSeq (s : State) (ch : ChannelId) (fs : List DropFault) :
    (s.raiseDrops ch fs).nextSeq = s.nextSeq := by
  induction fs generalizing s with
  | nil => rfl
  | cons f fs ih => exact (ih _).trans rfl
@[simp] theorem State.raiseDrops_cause (s : State) (ch : ChannelId) (fs : List DropFault) :
    (s.raiseDrops ch fs).cause = s.cause := by
  induction fs generalizing s with
  | nil => rfl
  | cons f fs ih => exact (ih _).trans rfl
@[simp] theorem State.raiseDrops_link (s : State) (ch : ChannelId) (fs : List DropFault) :
    (s.raiseDrops ch fs).link = s.link := by
  induction fs generalizing s with
  | nil => rfl
  | cons f fs ih => exact (ih _).trans rfl
@[simp] theorem State.raiseDrops_masks (s : State) (ch : ChannelId) (fs : List DropFault) :
    (s.raiseDrops ch fs).masks = s.masks := by
  induction fs generalizing s with
  | nil => rfl
  | cons f fs ih => exact (ih _).trans rfl
@[simp] theorem State.raiseDrops_compositions (s : State) (ch : ChannelId) (fs : List DropFault) :
    (s.raiseDrops ch fs).compositions = s.compositions := by
  induction fs generalizing s with
  | nil => rfl
  | cons f fs ih => exact (ih _).trans rfl
@[simp] theorem State.raiseDrops_path (s : State) (ch : ChannelId) (fs : List DropFault) :
    (s.raiseDrops ch fs).path = s.path := by
  induction fs generalizing s with
  | nil => rfl
  | cons f fs ih => exact (ih _).trans rfl
@[simp] theorem State.raiseDrops_returns (s : State) (ch : ChannelId) (fs : List DropFault) :
    (s.raiseDrops ch fs).returns = s.returns := by
  induction fs generalizing s with
  | nil => rfl
  | cons f fs ih => exact (ih _).trans rfl
@[simp] theorem State.raiseDrops_returnOut (s : State) (ch : ChannelId) (fs : List DropFault) :
    (s.raiseDrops ch fs).returnOut = s.returnOut := by
  induction fs generalizing s with
  | nil => rfl
  | cons f fs ih => exact (ih _).trans rfl
@[simp] theorem State.raiseDrops_work (s : State) (ch : ChannelId) (fs : List DropFault) :
    (s.raiseDrops ch fs).work = s.work := by
  induction fs generalizing s with
  | nil => rfl
  | cons f fs ih => exact (ih _).trans rfl
@[simp] theorem State.raiseDrops_lastServed (s : State) (ch : ChannelId) (fs : List DropFault) :
    (s.raiseDrops ch fs).lastServed = s.lastServed := by
  induction fs generalizing s with
  | nil => rfl
  | cons f fs ih => exact (ih _).trans rfl
@[simp] theorem State.raiseDrops_subtitlePort (s : State) (ch : ChannelId) (fs : List DropFault) :
    (s.raiseDrops ch fs).subtitlePort = s.subtitlePort := by
  induction fs generalizing s with
  | nil => rfl
  | cons f fs ih => exact (ih _).trans rfl
@[simp] theorem State.raiseDrops_pending (s : State) (ch : ChannelId) (fs : List DropFault) :
    (s.raiseDrops ch fs).pending = s.pending := by
  induction fs generalizing s with
  | nil => rfl
  | cons f fs ih => exact (ih _).trans rfl
@[simp] theorem State.raiseDrops_chan (s : State) (ch : ChannelId) (fs : List DropFault) (c' : ChannelId) :
    (s.raiseDrops ch fs).chan c' = s.chan c' := by
  induction fs generalizing s with
  | nil => rfl
  | cons f fs ih => exact (ih _).trans (by cases c' <;> rfl)

@[simp] theorem State.setNotices_notices (s : State) (n : List Notice) : (s.setNotices n).notices = n := rfl
@[simp] theorem State.setNotices_attn (s : State) (n : List Notice) :
    (s.setNotices n).attn = attnOf s.masks n := rfl

/-! ### The ports and the link -/

@[simp] theorem State.sendCredit_powered (s : State) (ch : ChannelId) (n : Nat) :
    (s.sendCredit ch n).powered = s.powered := rfl
@[simp] theorem State.sendCredit_licences (s : State) (ch : ChannelId) (n : Nat) :
    (s.sendCredit ch n).licences = s.licences := rfl
@[simp] theorem State.sendCredit_keys (s : State) (ch : ChannelId) (n : Nat) :
    (s.sendCredit ch n).keys = s.keys := rfl
@[simp] theorem State.sendCredit_clock (s : State) (ch : ChannelId) (n : Nat) :
    (s.sendCredit ch n).clock = s.clock := rfl
@[simp] theorem State.sendCredit_log (s : State) (ch : ChannelId) (n : Nat) :
    (s.sendCredit ch n).log = s.log := rfl
@[simp] theorem State.sendCredit_nextSeq (s : State) (ch : ChannelId) (n : Nat) :
    (s.sendCredit ch n).nextSeq = s.nextSeq := rfl
@[simp] theorem State.sendCredit_cause (s : State) (ch : ChannelId) (n : Nat) :
    (s.sendCredit ch n).cause = s.cause := rfl
@[simp] theorem State.sendCredit_link (s : State) (ch : ChannelId) (n : Nat) :
    (s.sendCredit ch n).link = s.link := rfl
@[simp] theorem State.sendCredit_notices (s : State) (ch : ChannelId) (n : Nat) :
    (s.sendCredit ch n).notices = s.notices := rfl
@[simp] theorem State.sendCredit_masks (s : State) (ch : ChannelId) (n : Nat) :
    (s.sendCredit ch n).masks = s.masks := rfl
@[simp] theorem State.sendCredit_attn (s : State) (ch : ChannelId) (n : Nat) :
    (s.sendCredit ch n).attn = s.attn := rfl
@[simp] theorem State.sendCredit_compositions (s : State) (ch : ChannelId) (n : Nat) :
    (s.sendCredit ch n).compositions = s.compositions := rfl
@[simp] theorem State.sendCredit_path (s : State) (ch : ChannelId) (n : Nat) :
    (s.sendCredit ch n).path = s.path := rfl
@[simp] theorem State.sendCredit_returnOut (s : State) (ch : ChannelId) (n : Nat) :
    (s.sendCredit ch n).returnOut = s.returnOut := rfl
@[simp] theorem State.sendCredit_work (s : State) (ch : ChannelId) (n : Nat) :
    (s.sendCredit ch n).work = s.work := rfl
@[simp] theorem State.sendCredit_lastServed (s : State) (ch : ChannelId) (n : Nat) :
    (s.sendCredit ch n).lastServed = s.lastServed := rfl
@[simp] theorem State.sendCredit_subtitlePort (s : State) (ch : ChannelId) (n : Nat) :
    (s.sendCredit ch n).subtitlePort = s.subtitlePort := rfl
@[simp] theorem State.sendCredit_pending (s : State) (ch : ChannelId) (n : Nat) :
    (s.sendCredit ch n).pending = s.pending := rfl
@[simp] theorem State.sendCredit_chan (s : State) (ch : ChannelId) (n : Nat) (c' : ChannelId) :
    (s.sendCredit ch n).chan c' = s.chan c' := by cases c' <;> rfl

@[simp] theorem State.sendReturn_powered (s : State) (m : ReturnMessage) :
    (s.sendReturn m).powered = s.powered := rfl
@[simp] theorem State.sendReturn_licences (s : State) (m : ReturnMessage) :
    (s.sendReturn m).licences = s.licences := rfl
@[simp] theorem State.sendReturn_keys (s : State) (m : ReturnMessage) :
    (s.sendReturn m).keys = s.keys := rfl
@[simp] theorem State.sendReturn_clock (s : State) (m : ReturnMessage) :
    (s.sendReturn m).clock = s.clock := rfl
@[simp] theorem State.sendReturn_log (s : State) (m : ReturnMessage) :
    (s.sendReturn m).log = s.log := rfl
@[simp] theorem State.sendReturn_nextSeq (s : State) (m : ReturnMessage) :
    (s.sendReturn m).nextSeq = s.nextSeq := rfl
@[simp] theorem State.sendReturn_cause (s : State) (m : ReturnMessage) :
    (s.sendReturn m).cause = s.cause := rfl
@[simp] theorem State.sendReturn_link (s : State) (m : ReturnMessage) :
    (s.sendReturn m).link = s.link := rfl
@[simp] theorem State.sendReturn_notices (s : State) (m : ReturnMessage) :
    (s.sendReturn m).notices = s.notices := rfl
@[simp] theorem State.sendReturn_masks (s : State) (m : ReturnMessage) :
    (s.sendReturn m).masks = s.masks := rfl
@[simp] theorem State.sendReturn_attn (s : State) (m : ReturnMessage) :
    (s.sendReturn m).attn = s.attn := rfl
@[simp] theorem State.sendReturn_compositions (s : State) (m : ReturnMessage) :
    (s.sendReturn m).compositions = s.compositions := rfl
@[simp] theorem State.sendReturn_path (s : State) (m : ReturnMessage) :
    (s.sendReturn m).path = s.path := rfl
@[simp] theorem State.sendReturn_returnOut (s : State) (m : ReturnMessage) :
    (s.sendReturn m).returnOut = s.returnOut := rfl
@[simp] theorem State.sendReturn_work (s : State) (m : ReturnMessage) :
    (s.sendReturn m).work = s.work := rfl
@[simp] theorem State.sendReturn_lastServed (s : State) (m : ReturnMessage) :
    (s.sendReturn m).lastServed = s.lastServed := rfl
@[simp] theorem State.sendReturn_subtitlePort (s : State) (m : ReturnMessage) :
    (s.sendReturn m).subtitlePort = s.subtitlePort := rfl
@[simp] theorem State.sendReturn_pending (s : State) (m : ReturnMessage) :
    (s.sendReturn m).pending = s.pending := rfl
@[simp] theorem State.sendReturn_chan (s : State) (m : ReturnMessage) (c' : ChannelId) :
    (s.sendReturn m).chan c' = s.chan c' := by cases c' <;> rfl

@[simp] theorem State.setPath_powered (s : State) (p : ForwardPath) :
    (s.setPath p).powered = s.powered := rfl
@[simp] theorem State.setPath_licences (s : State) (p : ForwardPath) :
    (s.setPath p).licences = s.licences := rfl
@[simp] theorem State.setPath_keys (s : State) (p : ForwardPath) :
    (s.setPath p).keys = s.keys := rfl
@[simp] theorem State.setPath_clock (s : State) (p : ForwardPath) :
    (s.setPath p).clock = s.clock := rfl
@[simp] theorem State.setPath_log (s : State) (p : ForwardPath) :
    (s.setPath p).log = s.log := rfl
@[simp] theorem State.setPath_nextSeq (s : State) (p : ForwardPath) :
    (s.setPath p).nextSeq = s.nextSeq := rfl
@[simp] theorem State.setPath_cause (s : State) (p : ForwardPath) :
    (s.setPath p).cause = s.cause := rfl
@[simp] theorem State.setPath_link (s : State) (p : ForwardPath) :
    (s.setPath p).link = s.link := rfl
@[simp] theorem State.setPath_notices (s : State) (p : ForwardPath) :
    (s.setPath p).notices = s.notices := rfl
@[simp] theorem State.setPath_masks (s : State) (p : ForwardPath) :
    (s.setPath p).masks = s.masks := rfl
@[simp] theorem State.setPath_attn (s : State) (p : ForwardPath) :
    (s.setPath p).attn = s.attn := rfl
@[simp] theorem State.setPath_compositions (s : State) (p : ForwardPath) :
    (s.setPath p).compositions = s.compositions := rfl
@[simp] theorem State.setPath_returns (s : State) (p : ForwardPath) :
    (s.setPath p).returns = s.returns := rfl
@[simp] theorem State.setPath_returnOut (s : State) (p : ForwardPath) :
    (s.setPath p).returnOut = s.returnOut := rfl
@[simp] theorem State.setPath_work (s : State) (p : ForwardPath) :
    (s.setPath p).work = s.work := rfl
@[simp] theorem State.setPath_lastServed (s : State) (p : ForwardPath) :
    (s.setPath p).lastServed = s.lastServed := rfl
@[simp] theorem State.setPath_subtitlePort (s : State) (p : ForwardPath) :
    (s.setPath p).subtitlePort = s.subtitlePort := rfl
@[simp] theorem State.setPath_pending (s : State) (p : ForwardPath) :
    (s.setPath p).pending = s.pending := rfl
@[simp] theorem State.setPath_chan (s : State) (p : ForwardPath) (c' : ChannelId) :
    (s.setPath p).chan c' = s.chan c' := by cases c' <;> rfl

@[simp] theorem State.modLink_powered (s : State) (f : CommandLink → CommandLink) :
    (s.modLink f).powered = s.powered := rfl
@[simp] theorem State.modLink_licences (s : State) (f : CommandLink → CommandLink) :
    (s.modLink f).licences = s.licences := rfl
@[simp] theorem State.modLink_keys (s : State) (f : CommandLink → CommandLink) :
    (s.modLink f).keys = s.keys := rfl
@[simp] theorem State.modLink_clock (s : State) (f : CommandLink → CommandLink) :
    (s.modLink f).clock = s.clock := rfl
@[simp] theorem State.modLink_log (s : State) (f : CommandLink → CommandLink) :
    (s.modLink f).log = s.log := rfl
@[simp] theorem State.modLink_nextSeq (s : State) (f : CommandLink → CommandLink) :
    (s.modLink f).nextSeq = s.nextSeq := rfl
@[simp] theorem State.modLink_cause (s : State) (f : CommandLink → CommandLink) :
    (s.modLink f).cause = s.cause := rfl
@[simp] theorem State.modLink_notices (s : State) (f : CommandLink → CommandLink) :
    (s.modLink f).notices = s.notices := rfl
@[simp] theorem State.modLink_masks (s : State) (f : CommandLink → CommandLink) :
    (s.modLink f).masks = s.masks := rfl
@[simp] theorem State.modLink_attn (s : State) (f : CommandLink → CommandLink) :
    (s.modLink f).attn = s.attn := rfl
@[simp] theorem State.modLink_compositions (s : State) (f : CommandLink → CommandLink) :
    (s.modLink f).compositions = s.compositions := rfl
@[simp] theorem State.modLink_path (s : State) (f : CommandLink → CommandLink) :
    (s.modLink f).path = s.path := rfl
@[simp] theorem State.modLink_returns (s : State) (f : CommandLink → CommandLink) :
    (s.modLink f).returns = s.returns := rfl
@[simp] theorem State.modLink_returnOut (s : State) (f : CommandLink → CommandLink) :
    (s.modLink f).returnOut = s.returnOut := rfl
@[simp] theorem State.modLink_work (s : State) (f : CommandLink → CommandLink) :
    (s.modLink f).work = s.work := rfl
@[simp] theorem State.modLink_lastServed (s : State) (f : CommandLink → CommandLink) :
    (s.modLink f).lastServed = s.lastServed := rfl
@[simp] theorem State.modLink_subtitlePort (s : State) (f : CommandLink → CommandLink) :
    (s.modLink f).subtitlePort = s.subtitlePort := rfl
@[simp] theorem State.modLink_pending (s : State) (f : CommandLink → CommandLink) :
    (s.modLink f).pending = s.pending := rfl
@[simp] theorem State.modLink_chan (s : State) (f : CommandLink → CommandLink) (c' : ChannelId) :
    (s.modLink f).chan c' = s.chan c' := by cases c' <;> rfl

@[simp] theorem State.modLink_link (s : State) (f : CommandLink → CommandLink) : (s.modLink f).link = f s.link := rfl

/-! ### Tables and log -/

@[simp] theorem State.modLicence_powered (s : State) (i : Nat) (f : Licence → Licence) :
    (s.modLicence i f).powered = s.powered := by
  unfold State.modLicence; split <;> rfl
@[simp] theorem State.modLicence_keys (s : State) (i : Nat) (f : Licence → Licence) :
    (s.modLicence i f).keys = s.keys := by
  unfold State.modLicence; split <;> rfl
@[simp] theorem State.modLicence_clock (s : State) (i : Nat) (f : Licence → Licence) :
    (s.modLicence i f).clock = s.clock := by
  unfold State.modLicence; split <;> rfl
@[simp] theorem State.modLicence_log (s : State) (i : Nat) (f : Licence → Licence) :
    (s.modLicence i f).log = s.log := by
  unfold State.modLicence; split <;> rfl
@[simp] theorem State.modLicence_nextSeq (s : State) (i : Nat) (f : Licence → Licence) :
    (s.modLicence i f).nextSeq = s.nextSeq := by
  unfold State.modLicence; split <;> rfl
@[simp] theorem State.modLicence_cause (s : State) (i : Nat) (f : Licence → Licence) :
    (s.modLicence i f).cause = s.cause := by
  unfold State.modLicence; split <;> rfl
@[simp] theorem State.modLicence_link (s : State) (i : Nat) (f : Licence → Licence) :
    (s.modLicence i f).link = s.link := by
  unfold State.modLicence; split <;> rfl
@[simp] theorem State.modLicence_notices (s : State) (i : Nat) (f : Licence → Licence) :
    (s.modLicence i f).notices = s.notices := by
  unfold State.modLicence; split <;> rfl
@[simp] theorem State.modLicence_masks (s : State) (i : Nat) (f : Licence → Licence) :
    (s.modLicence i f).masks = s.masks := by
  unfold State.modLicence; split <;> rfl
@[simp] theorem State.modLicence_attn (s : State) (i : Nat) (f : Licence → Licence) :
    (s.modLicence i f).attn = s.attn := by
  unfold State.modLicence; split <;> rfl
@[simp] theorem State.modLicence_compositions (s : State) (i : Nat) (f : Licence → Licence) :
    (s.modLicence i f).compositions = s.compositions := by
  unfold State.modLicence; split <;> rfl
@[simp] theorem State.modLicence_path (s : State) (i : Nat) (f : Licence → Licence) :
    (s.modLicence i f).path = s.path := by
  unfold State.modLicence; split <;> rfl
@[simp] theorem State.modLicence_returns (s : State) (i : Nat) (f : Licence → Licence) :
    (s.modLicence i f).returns = s.returns := by
  unfold State.modLicence; split <;> rfl
@[simp] theorem State.modLicence_returnOut (s : State) (i : Nat) (f : Licence → Licence) :
    (s.modLicence i f).returnOut = s.returnOut := by
  unfold State.modLicence; split <;> rfl
@[simp] theorem State.modLicence_work (s : State) (i : Nat) (f : Licence → Licence) :
    (s.modLicence i f).work = s.work := by
  unfold State.modLicence; split <;> rfl
@[simp] theorem State.modLicence_lastServed (s : State) (i : Nat) (f : Licence → Licence) :
    (s.modLicence i f).lastServed = s.lastServed := by
  unfold State.modLicence; split <;> rfl
@[simp] theorem State.modLicence_subtitlePort (s : State) (i : Nat) (f : Licence → Licence) :
    (s.modLicence i f).subtitlePort = s.subtitlePort := by
  unfold State.modLicence; split <;> rfl
@[simp] theorem State.modLicence_pending (s : State) (i : Nat) (f : Licence → Licence) :
    (s.modLicence i f).pending = s.pending := by
  unfold State.modLicence; split <;> rfl
@[simp] theorem State.modLicence_chan (s : State) (i : Nat) (f : Licence → Licence) (c' : ChannelId) :
    (s.modLicence i f).chan c' = s.chan c' := by
  unfold State.modLicence; split <;> cases c' <;> rfl

@[simp] theorem State.modLog_powered (s : State) (q : Option Nat) (f : LogRecord → LogRecord) :
    (s.modLog q f).powered = s.powered := by
  unfold State.modLog; split <;> rfl
@[simp] theorem State.modLog_licences (s : State) (q : Option Nat) (f : LogRecord → LogRecord) :
    (s.modLog q f).licences = s.licences := by
  unfold State.modLog; split <;> rfl
@[simp] theorem State.modLog_keys (s : State) (q : Option Nat) (f : LogRecord → LogRecord) :
    (s.modLog q f).keys = s.keys := by
  unfold State.modLog; split <;> rfl
@[simp] theorem State.modLog_clock (s : State) (q : Option Nat) (f : LogRecord → LogRecord) :
    (s.modLog q f).clock = s.clock := by
  unfold State.modLog; split <;> rfl
@[simp] theorem State.modLog_nextSeq (s : State) (q : Option Nat) (f : LogRecord → LogRecord) :
    (s.modLog q f).nextSeq = s.nextSeq := by
  unfold State.modLog; split <;> rfl
@[simp] theorem State.modLog_cause (s : State) (q : Option Nat) (f : LogRecord → LogRecord) :
    (s.modLog q f).cause = s.cause := by
  unfold State.modLog; split <;> rfl
@[simp] theorem State.modLog_link (s : State) (q : Option Nat) (f : LogRecord → LogRecord) :
    (s.modLog q f).link = s.link := by
  unfold State.modLog; split <;> rfl
@[simp] theorem State.modLog_notices (s : State) (q : Option Nat) (f : LogRecord → LogRecord) :
    (s.modLog q f).notices = s.notices := by
  unfold State.modLog; split <;> rfl
@[simp] theorem State.modLog_masks (s : State) (q : Option Nat) (f : LogRecord → LogRecord) :
    (s.modLog q f).masks = s.masks := by
  unfold State.modLog; split <;> rfl
@[simp] theorem State.modLog_attn (s : State) (q : Option Nat) (f : LogRecord → LogRecord) :
    (s.modLog q f).attn = s.attn := by
  unfold State.modLog; split <;> rfl
@[simp] theorem State.modLog_compositions (s : State) (q : Option Nat) (f : LogRecord → LogRecord) :
    (s.modLog q f).compositions = s.compositions := by
  unfold State.modLog; split <;> rfl
@[simp] theorem State.modLog_path (s : State) (q : Option Nat) (f : LogRecord → LogRecord) :
    (s.modLog q f).path = s.path := by
  unfold State.modLog; split <;> rfl
@[simp] theorem State.modLog_returns (s : State) (q : Option Nat) (f : LogRecord → LogRecord) :
    (s.modLog q f).returns = s.returns := by
  unfold State.modLog; split <;> rfl
@[simp] theorem State.modLog_returnOut (s : State) (q : Option Nat) (f : LogRecord → LogRecord) :
    (s.modLog q f).returnOut = s.returnOut := by
  unfold State.modLog; split <;> rfl
@[simp] theorem State.modLog_work (s : State) (q : Option Nat) (f : LogRecord → LogRecord) :
    (s.modLog q f).work = s.work := by
  unfold State.modLog; split <;> rfl
@[simp] theorem State.modLog_lastServed (s : State) (q : Option Nat) (f : LogRecord → LogRecord) :
    (s.modLog q f).lastServed = s.lastServed := by
  unfold State.modLog; split <;> rfl
@[simp] theorem State.modLog_subtitlePort (s : State) (q : Option Nat) (f : LogRecord → LogRecord) :
    (s.modLog q f).subtitlePort = s.subtitlePort := by
  unfold State.modLog; split <;> rfl
@[simp] theorem State.modLog_pending (s : State) (q : Option Nat) (f : LogRecord → LogRecord) :
    (s.modLog q f).pending = s.pending := by
  unfold State.modLog; split <;> rfl
@[simp] theorem State.modLog_chan (s : State) (q : Option Nat) (f : LogRecord → LogRecord) (c' : ChannelId) :
    (s.modLog q f).chan c' = s.chan c' := by
  unfold State.modLog; split <;> cases c' <;> rfl

end Sys2Proof.Machine
end

