-- ==== Sys2Proof/Laws/Frames.lean ====
section
/-! SUPPORT. What the named operations leave unchanged: one lemma per operation and field outside its
reach. -/

namespace Sys2Proof.Machine

/-- The fields that no operation on a channel's show changes. -/
def State.steady (s : State) :
    Bool × BoothClock × ResetCause × CommandLink × BitVec 15 × List (Option CompositionSlot) × List Instr :=
  (s.powered, s.clock, s.cause, s.link, s.masks, s.compositions, s.pending)

theorem State.pending_of_steady {s t : State} (h : s.steady = t.steady) : s.pending = t.pending :=
  congrArg (·.2.2.2.2.2.2) h

theorem State.powered_of_steady {s t : State} (h : s.steady = t.steady) : s.powered = t.powered :=
  congrArg (·.1) h

theorem State.clock_of_steady {s t : State} (h : s.steady = t.steady) : s.clock = t.clock :=
  congrArg (·.2.1) h

theorem State.link_of_steady {s t : State} (h : s.steady = t.steady) : s.link = t.link :=
  congrArg (·.2.2.2.1) h

theorem State.masks_of_steady {s t : State} (h : s.steady = t.steady) : s.masks = t.masks :=
  congrArg (·.2.2.2.2.1) h

theorem State.compositions_of_steady {s t : State} (h : s.steady = t.steady) :
    s.compositions = t.compositions := congrArg (·.2.2.2.2.2.1) h

@[simp] theorem State.modChan_steady (s : State) (ch : ChannelId) (f : Channel → Channel) :
    (s.modChan ch f).steady = s.steady := by simp [State.steady]
@[simp] theorem State.raise_steady (s : State) (k : NoticeKind) (c : Option ChannelId) (d : NoticeDetail) :
    (s.raise k c d).steady = s.steady := by simp [State.steady]
@[simp] theorem State.refreshLogLow_steady (s : State) :
    (s.refreshLogLow).steady = s.steady := by simp [State.steady]
@[simp] theorem State.raiseDrops_steady (s : State) (ch : ChannelId) (fs : List DropFault) :
    (s.raiseDrops ch fs).steady = s.steady := by simp [State.steady]
@[simp] theorem State.sendCredit_steady (s : State) (ch : ChannelId) (n : Nat) :
    (s.sendCredit ch n).steady = s.steady := by simp [State.steady]
@[simp] theorem State.sendReturn_steady (s : State) (m : ReturnMessage) :
    (s.sendReturn m).steady = s.steady := by simp [State.steady]
@[simp] theorem State.setPath_steady (s : State) (p : ForwardPath) :
    (s.setPath p).steady = s.steady := by simp [State.steady]
@[simp] theorem State.modLicence_steady (s : State) (i : Nat) (f : Licence → Licence) :
    (s.modLicence i f).steady = s.steady := by simp [State.steady]
@[simp] theorem State.modLog_steady (s : State) (q : Option Nat) (f : LogRecord → LogRecord) :
    (s.modLog q f).steady = s.steady := by simp [State.steady]

@[simp] theorem State.work_steady (s : State) (w : Option Work) : { s with work := w }.steady = s.steady := rfl

@[simp] theorem State.log_steady (s : State) (g : List LogRecord) (n : Nat) :
    { s with log := g, nextSeq := n }.steady = s.steady := rfl

@[simp] theorem State.lastServed_steady (s : State) (c : ChannelId) :
    { s with lastServed := c }.steady = s.steady := rfl

@[simp] theorem State.subtitlePort_steady (s : State) (p : List PortEvent) :
    { s with subtitlePort := p }.steady = s.steady := rfl

theorem State.foldl_field {α β : Type} (get : State → β) (f : State → α → State)
    (h : ∀ s a, get (f s a) = get s) (l : List α) (s : State) : get (l.foldl f s) = get s := by
  induction l generalizing s with
  | nil => rfl
  | cons a l ih => exact (ih _).trans (h s a)

@[simp] theorem State.evaluateWindows_steady (s : State) :
    (s.evaluateWindows).steady = s.steady := by
  unfold State.evaluateWindows; split
  · exact State.foldl_field (·.steady) _ (fun _ _ => by simp) _ _
  · rfl
@[simp] theorem State.evaluateWindows_keys (s : State) :
    (s.evaluateWindows).keys = s.keys := by
  unfold State.evaluateWindows; split
  · exact State.foldl_field (·.keys) _ (fun _ _ => by simp) _ _
  · rfl
@[simp] theorem State.evaluateWindows_log (s : State) :
    (s.evaluateWindows).log = s.log := by
  unfold State.evaluateWindows; split
  · exact State.foldl_field (·.log) _ (fun _ _ => by simp) _ _
  · rfl
@[simp] theorem State.evaluateWindows_nextSeq (s : State) :
    (s.evaluateWindows).nextSeq = s.nextSeq := by
  unfold State.evaluateWindows; split
  · exact State.foldl_field (·.nextSeq) _ (fun _ _ => by simp) _ _
  · rfl
@[simp] theorem State.evaluateWindows_chan (s : State) (c' : ChannelId) :
    (s.evaluateWindows).chan c' = s.chan c' := by
  unfold State.evaluateWindows; split
  · exact (State.foldl_field (fun s => s.chan c') _ (fun _ _ => by simp) _ _).trans (by cases c' <;> rfl)
  · rfl

@[simp] theorem State.revokeNow_steady (s : State) (i : Nat) :
    (s.revokeNow i).steady = s.steady := by
  simp only [State.revokeNow]; split <;> rfl
@[simp] theorem State.revokeNow_log (s : State) (i : Nat) :
    (s.revokeNow i).log = s.log := by
  simp only [State.revokeNow]; split <;> rfl
@[simp] theorem State.revokeNow_nextSeq (s : State) (i : Nat) :
    (s.revokeNow i).nextSeq = s.nextSeq := by
  simp only [State.revokeNow]; split <;> rfl
@[simp] theorem State.revokeNow_notices (s : State) (i : Nat) :
    (s.revokeNow i).notices = s.notices := by
  simp only [State.revokeNow]; split <;> rfl
@[simp] theorem State.revokeNow_chan (s : State) (i : Nat) (c' : ChannelId) :
    (s.revokeNow i).chan c' = s.chan c' := by
  simp only [State.revokeNow]; (repeat' split) <;> cases c' <;> rfl

@[simp] theorem State.lastUnpin_steady (s : State) (i : Nat) :
    (s.lastUnpin i).steady = s.steady := by
  simp only [State.lastUnpin]; (repeat' split) <;> simp
@[simp] theorem State.lastUnpin_log (s : State) (i : Nat) :
    (s.lastUnpin i).log = s.log := by
  simp only [State.lastUnpin]; (repeat' split) <;> simp
@[simp] theorem State.lastUnpin_nextSeq (s : State) (i : Nat) :
    (s.lastUnpin i).nextSeq = s.nextSeq := by
  simp only [State.lastUnpin]; (repeat' split) <;> simp
@[simp] theorem State.lastUnpin_notices (s : State) (i : Nat) :
    (s.lastUnpin i).notices = s.notices := by
  simp only [State.lastUnpin]; (repeat' split) <;> simp
@[simp] theorem State.lastUnpin_chan (s : State) (i : Nat) (c' : ChannelId) :
    (s.lastUnpin i).chan c' = s.chan c' := by
  simp only [State.lastUnpin]; (repeat' split) <;> simp

@[simp] theorem State.unpin_steady (s : State) (i : Nat) :
    (s.unpin i).steady = s.steady := by
  simp only [State.unpin]; (repeat' split) <;> simp
@[simp] theorem State.unpin_log (s : State) (i : Nat) :
    (s.unpin i).log = s.log := by
  simp only [State.unpin]; (repeat' split) <;> simp
@[simp] theorem State.unpin_nextSeq (s : State) (i : Nat) :
    (s.unpin i).nextSeq = s.nextSeq := by
  simp only [State.unpin]; (repeat' split) <;> simp
@[simp] theorem State.unpin_notices (s : State) (i : Nat) :
    (s.unpin i).notices = s.notices := by
  simp only [State.unpin]; (repeat' split) <;> simp
@[simp] theorem State.unpin_chan (s : State) (i : Nat) (c' : ChannelId) :
    (s.unpin i).chan c' = s.chan c' := by
  simp only [State.unpin]; (repeat' split) <;> simp

@[simp] theorem State.takeLog_steady (s : State) (r : LogRecord) :
    (s.takeLog r).steady = s.steady := by
  simp [State.takeLog]
@[simp] theorem State.takeLog_licences (s : State) (r : LogRecord) :
    (s.takeLog r).licences = s.licences := by
  simp [State.takeLog]
@[simp] theorem State.takeLog_keys (s : State) (r : LogRecord) :
    (s.takeLog r).keys = s.keys := by
  simp [State.takeLog]
@[simp] theorem State.takeLog_chan (s : State) (r : LogRecord) (c' : ChannelId) :
    (s.takeLog r).chan c' = s.chan c' := by
  cases c' <;> rfl

@[simp] theorem State.openAdmission_steady (s : State) (ch : ChannelId) (c : Composition) (i n e : Nat) (l : Option Nat) :
    (s.openAdmission ch c i n e l).steady = s.steady := by
  simp only [State.openAdmission]; (repeat' split) <;> simp
@[simp] theorem State.openAdmission_keys (s : State) (ch : ChannelId) (c : Composition) (i n e : Nat) (l : Option Nat) :
    (s.openAdmission ch c i n e l).keys = s.keys := by
  simp only [State.openAdmission]; (repeat' split) <;> simp

@[simp] theorem State.sendFetch_steady (s : State) (ch : ChannelId) (i n e : Nat) :
    (s.sendFetch ch i n e).steady = s.steady := by
  simp [State.sendFetch]
@[simp] theorem State.sendFetch_licences (s : State) (ch : ChannelId) (i n e : Nat) :
    (s.sendFetch ch i n e).licences = s.licences := by
  simp [State.sendFetch]
@[simp] theorem State.sendFetch_keys (s : State) (ch : ChannelId) (i n e : Nat) :
    (s.sendFetch ch i n e).keys = s.keys := by
  simp [State.sendFetch]
@[simp] theorem State.sendFetch_log (s : State) (ch : ChannelId) (i n e : Nat) :
    (s.sendFetch ch i n e).log = s.log := by
  simp [State.sendFetch]
@[simp] theorem State.sendFetch_nextSeq (s : State) (ch : ChannelId) (i n e : Nat) :
    (s.sendFetch ch i n e).nextSeq = s.nextSeq := by
  simp [State.sendFetch]
@[simp] theorem State.sendFetch_notices (s : State) (ch : ChannelId) (i n e : Nat) :
    (s.sendFetch ch i n e).notices = s.notices := by
  simp [State.sendFetch]
@[simp] theorem State.sendFetch_chan (s : State) (ch : ChannelId) (i n e : Nat) (c' : ChannelId) :
    (s.sendFetch ch i n e).chan c' = s.chan c' := by
  simp [State.sendFetch]

@[simp] theorem State.beginFetch_steady (s : State) (ch : ChannelId) (r : AdmissionRecord) (e : Nat) :
    (s.beginFetch ch r e).steady = s.steady := by
  simp [State.beginFetch]
@[simp] theorem State.beginFetch_licences (s : State) (ch : ChannelId) (r : AdmissionRecord) (e : Nat) :
    (s.beginFetch ch r e).licences = s.licences := by
  simp [State.beginFetch]
@[simp] theorem State.beginFetch_keys (s : State) (ch : ChannelId) (r : AdmissionRecord) (e : Nat) :
    (s.beginFetch ch r e).keys = s.keys := by
  simp [State.beginFetch]
@[simp] theorem State.beginFetch_log (s : State) (ch : ChannelId) (r : AdmissionRecord) (e : Nat) :
    (s.beginFetch ch r e).log = s.log := by
  simp [State.beginFetch]
@[simp] theorem State.beginFetch_nextSeq (s : State) (ch : ChannelId) (r : AdmissionRecord) (e : Nat) :
    (s.beginFetch ch r e).nextSeq = s.nextSeq := by
  simp [State.beginFetch]
@[simp] theorem State.beginFetch_notices (s : State) (ch : ChannelId) (r : AdmissionRecord) (e : Nat) :
    (s.beginFetch ch r e).notices = s.notices := by
  simp [State.beginFetch]

@[simp] theorem State.fetchNewest_steady (s : State) (ch : ChannelId) (e : Nat) :
    (s.fetchNewest ch e).steady = s.steady := by
  simp only [State.fetchNewest]; (repeat' split) <;> simp
@[simp] theorem State.fetchNewest_licences (s : State) (ch : ChannelId) (e : Nat) :
    (s.fetchNewest ch e).licences = s.licences := by
  simp only [State.fetchNewest]; (repeat' split) <;> simp
@[simp] theorem State.fetchNewest_keys (s : State) (ch : ChannelId) (e : Nat) :
    (s.fetchNewest ch e).keys = s.keys := by
  simp only [State.fetchNewest]; (repeat' split) <;> simp
@[simp] theorem State.fetchNewest_log (s : State) (ch : ChannelId) (e : Nat) :
    (s.fetchNewest ch e).log = s.log := by
  simp only [State.fetchNewest]; (repeat' split) <;> simp
@[simp] theorem State.fetchNewest_nextSeq (s : State) (ch : ChannelId) (e : Nat) :
    (s.fetchNewest ch e).nextSeq = s.nextSeq := by
  simp only [State.fetchNewest]; (repeat' split) <;> simp
@[simp] theorem State.fetchNewest_notices (s : State) (ch : ChannelId) (e : Nat) :
    (s.fetchNewest ch e).notices = s.notices := by
  simp only [State.fetchNewest]; (repeat' split) <;> simp

@[simp] theorem State.admitAndFetch_steady (s : State) (ch : ChannelId) (c : Composition) (i n e : Nat) (l : Option Nat) :
    (s.admitAndFetch ch c i n e l).steady = s.steady := by
  simp [State.admitAndFetch]
@[simp] theorem State.admitAndFetch_keys (s : State) (ch : ChannelId) (c : Composition) (i n e : Nat) (l : Option Nat) :
    (s.admitAndFetch ch c i n e l).keys = s.keys := by
  simp [State.admitAndFetch]

@[simp] theorem State.modRecord_steady (s : State) (ch : ChannelId) (n : Nat) (f : AdmissionRecord → AdmissionRecord) :
    (s.modRecord ch n f).steady = s.steady := by
  simp [State.modRecord]
@[simp] theorem State.modRecord_licences (s : State) (ch : ChannelId) (n : Nat) (f : AdmissionRecord → AdmissionRecord) :
    (s.modRecord ch n f).licences = s.licences := by
  simp [State.modRecord]
@[simp] theorem State.modRecord_keys (s : State) (ch : ChannelId) (n : Nat) (f : AdmissionRecord → AdmissionRecord) :
    (s.modRecord ch n f).keys = s.keys := by
  simp [State.modRecord]
@[simp] theorem State.modRecord_log (s : State) (ch : ChannelId) (n : Nat) (f : AdmissionRecord → AdmissionRecord) :
    (s.modRecord ch n f).log = s.log := by
  simp [State.modRecord]
@[simp] theorem State.modRecord_nextSeq (s : State) (ch : ChannelId) (n : Nat) (f : AdmissionRecord → AdmissionRecord) :
    (s.modRecord ch n f).nextSeq = s.nextSeq := by
  simp [State.modRecord]
@[simp] theorem State.modRecord_notices (s : State) (ch : ChannelId) (n : Nat) (f : AdmissionRecord → AdmissionRecord) :
    (s.modRecord ch n f).notices = s.notices := by
  simp [State.modRecord]

@[simp] theorem State.releaseReservation_steady (s : State) (r : AdmissionRecord) :
    (s.releaseReservation r).steady = s.steady := by
  simp only [State.releaseReservation]; (repeat' split) <;> simp
@[simp] theorem State.releaseReservation_keys (s : State) (r : AdmissionRecord) :
    (s.releaseReservation r).keys = s.keys := by
  simp only [State.releaseReservation]; (repeat' split) <;> simp
@[simp] theorem State.releaseReservation_log (s : State) (r : AdmissionRecord) :
    (s.releaseReservation r).log = s.log := by
  simp only [State.releaseReservation]; (repeat' split) <;> simp
@[simp] theorem State.releaseReservation_nextSeq (s : State) (r : AdmissionRecord) :
    (s.releaseReservation r).nextSeq = s.nextSeq := by
  simp only [State.releaseReservation]; (repeat' split) <;> simp
@[simp] theorem State.releaseReservation_notices (s : State) (r : AdmissionRecord) :
    (s.releaseReservation r).notices = s.notices := by
  simp only [State.releaseReservation]; (repeat' split) <;> simp
@[simp] theorem State.releaseReservation_chan (s : State) (r : AdmissionRecord) (c' : ChannelId) :
    (s.releaseReservation r).chan c' = s.chan c' := by
  simp only [State.releaseReservation]; (repeat' split) <;> simp

@[simp] theorem State.dropRecord_steady (s : State) (ch : ChannelId) (r : AdmissionRecord) :
    (s.dropRecord ch r).steady = s.steady := by
  simp only [State.dropRecord]; (repeat' split) <;> simp
@[simp] theorem State.dropRecord_log (s : State) (ch : ChannelId) (r : AdmissionRecord) :
    (s.dropRecord ch r).log = s.log := by
  simp only [State.dropRecord]; (repeat' split) <;> simp
@[simp] theorem State.dropRecord_nextSeq (s : State) (ch : ChannelId) (r : AdmissionRecord) :
    (s.dropRecord ch r).nextSeq = s.nextSeq := by
  simp only [State.dropRecord]; (repeat' split) <;> simp
@[simp] theorem State.dropRecord_notices (s : State) (ch : ChannelId) (r : AdmissionRecord) :
    (s.dropRecord ch r).notices = s.notices := by
  simp only [State.dropRecord]; (repeat' split) <;> simp

@[simp] theorem State.closeRecord_steady (s : State) (ch : ChannelId) (r : AdmissionRecord) (o : LogOutcome) :
    (s.closeRecord ch r o).steady = s.steady := by
  simp [State.closeRecord]
@[simp] theorem State.closeRecord_nextSeq (s : State) (ch : ChannelId) (r : AdmissionRecord) (o : LogOutcome) :
    (s.closeRecord ch r o).nextSeq = s.nextSeq := by
  simp [State.closeRecord]
@[simp] theorem State.closeRecord_notices (s : State) (ch : ChannelId) (r : AdmissionRecord) (o : LogOutcome) :
    (s.closeRecord ch r o).notices = s.notices := by
  simp [State.closeRecord]

@[simp] theorem State.discardRecord_steady (s : State) (ch : ChannelId) (r : AdmissionRecord) :
    (s.discardRecord ch r).steady = s.steady := by
  simp only [State.discardRecord]; (repeat' split) <;> simp
@[simp] theorem State.discardRecord_nextSeq (s : State) (ch : ChannelId) (r : AdmissionRecord) :
    (s.discardRecord ch r).nextSeq = s.nextSeq := by
  simp only [State.discardRecord]; (repeat' split) <;> simp

@[simp] theorem State.endRecord_steady (s : State) (ch : ChannelId) (o : LogOutcome) (r : AdmissionRecord) :
    (s.endRecord ch o r).steady = s.steady := by
  simp only [State.endRecord]; (repeat' split) <;> simp
@[simp] theorem State.endRecord_nextSeq (s : State) (ch : ChannelId) (o : LogOutcome) (r : AdmissionRecord) :
    (s.endRecord ch o r).nextSeq = s.nextSeq := by
  simp only [State.endRecord]; (repeat' split) <;> simp

@[simp] theorem State.reportNoNext_steady (s : State) (ch : ChannelId) :
    (s.reportNoNext ch).steady = s.steady := by
  simp [State.reportNoNext]
@[simp] theorem State.reportNoNext_licences (s : State) (ch : ChannelId) :
    (s.reportNoNext ch).licences = s.licences := by
  simp [State.reportNoNext]
@[simp] theorem State.reportNoNext_keys (s : State) (ch : ChannelId) :
    (s.reportNoNext ch).keys = s.keys := by
  simp [State.reportNoNext]
@[simp] theorem State.reportNoNext_log (s : State) (ch : ChannelId) :
    (s.reportNoNext ch).log = s.log := by
  simp [State.reportNoNext]
@[simp] theorem State.reportNoNext_nextSeq (s : State) (ch : ChannelId) :
    (s.reportNoNext ch).nextSeq = s.nextSeq := by
  simp [State.reportNoNext]
@[simp] theorem State.reportNoNext_notices (s : State) (ch : ChannelId) :
    (s.reportNoNext ch).notices = s.notices := by
  simp [State.reportNoNext]

@[simp] theorem State.refuseNext_steady (s : State) (ch : ChannelId) (i : Nat) (st : Status) :
    (s.refuseNext ch i st).steady = s.steady := by
  simp [State.refuseNext]
@[simp] theorem State.refuseNext_licences (s : State) (ch : ChannelId) (i : Nat) (st : Status) :
    (s.refuseNext ch i st).licences = s.licences := by
  simp [State.refuseNext]
@[simp] theorem State.refuseNext_keys (s : State) (ch : ChannelId) (i : Nat) (st : Status) :
    (s.refuseNext ch i st).keys = s.keys := by
  simp [State.refuseNext]
@[simp] theorem State.refuseNext_log (s : State) (ch : ChannelId) (i : Nat) (st : Status) :
    (s.refuseNext ch i st).log = s.log := by
  simp [State.refuseNext]
@[simp] theorem State.refuseNext_nextSeq (s : State) (ch : ChannelId) (i : Nat) (st : Status) :
    (s.refuseNext ch i st).nextSeq = s.nextSeq := by
  simp [State.refuseNext]

@[simp] theorem State.admitNext_steady (s : State) (ch : ChannelId) (r : AdmissionRecord) :
    (s.admitNext ch r).steady = s.steady := by
  simp only [State.admitNext]; (repeat' split) <;> simp
@[simp] theorem State.admitNext_keys (s : State) (ch : ChannelId) (r : AdmissionRecord) :
    (s.admitNext ch r).keys = s.keys := by
  simp only [State.admitNext]; (repeat' split) <;> simp

@[simp] theorem State.nextItemOccasion_steady (s : State) (ch : ChannelId) :
    (s.nextItemOccasion ch).steady = s.steady := by
  simp only [State.nextItemOccasion]; (repeat' split) <;> simp
@[simp] theorem State.nextItemOccasion_keys (s : State) (ch : ChannelId) :
    (s.nextItemOccasion ch).keys = s.keys := by
  simp only [State.nextItemOccasion]; (repeat' split) <;> simp

@[simp] theorem State.writeCounts_steady (s : State) (ch : ChannelId) (r : AdmissionRecord) (a b c : Nat) :
    (s.writeCounts ch r a b c).steady = s.steady := by
  simp [State.writeCounts]
@[simp] theorem State.writeCounts_licences (s : State) (ch : ChannelId) (r : AdmissionRecord) (a b c : Nat) :
    (s.writeCounts ch r a b c).licences = s.licences := by
  simp [State.writeCounts]
@[simp] theorem State.writeCounts_keys (s : State) (ch : ChannelId) (r : AdmissionRecord) (a b c : Nat) :
    (s.writeCounts ch r a b c).keys = s.keys := by
  simp [State.writeCounts]
@[simp] theorem State.writeCounts_nextSeq (s : State) (ch : ChannelId) (r : AdmissionRecord) (a b c : Nat) :
    (s.writeCounts ch r a b c).nextSeq = s.nextSeq := by
  simp [State.writeCounts]
@[simp] theorem State.writeCounts_notices (s : State) (ch : ChannelId) (r : AdmissionRecord) (a b c : Nat) :
    (s.writeCounts ch r a b c).notices = s.notices := by
  simp [State.writeCounts]

@[simp] theorem State.reachCountPoint_steady (s : State) (ch : ChannelId) (r : AdmissionRecord) :
    (s.reachCountPoint ch r).steady = s.steady := by
  simp only [State.reachCountPoint]; (repeat' split) <;> simp
@[simp] theorem State.reachCountPoint_keys (s : State) (ch : ChannelId) (r : AdmissionRecord) :
    (s.reachCountPoint ch r).keys = s.keys := by
  simp only [State.reachCountPoint]; (repeat' split) <;> simp
@[simp] theorem State.reachCountPoint_nextSeq (s : State) (ch : ChannelId) (r : AdmissionRecord) :
    (s.reachCountPoint ch r).nextSeq = s.nextSeq := by
  simp only [State.reachCountPoint]; (repeat' split) <;> simp

@[simp] theorem State.countPresentation_steady (s : State) (ch : ChannelId) (n : Nat) (d : Bool) :
    (s.countPresentation ch n d).steady = s.steady := by
  simp only [State.countPresentation]; (repeat' split) <;> simp
@[simp] theorem State.countPresentation_keys (s : State) (ch : ChannelId) (n : Nat) (d : Bool) :
    (s.countPresentation ch n d).keys = s.keys := by
  simp only [State.countPresentation]; (repeat' split) <;> simp
@[simp] theorem State.countPresentation_nextSeq (s : State) (ch : ChannelId) (n : Nat) (d : Bool) :
    (s.countPresentation ch n d).nextSeq = s.nextSeq := by
  simp only [State.countPresentation]; (repeat' split) <;> simp

@[simp] theorem State.countHeld_steady (s : State) (ch : ChannelId) :
    (s.countHeld ch).steady = s.steady := by
  simp only [State.countHeld]; (repeat' split) <;> simp
@[simp] theorem State.countHeld_licences (s : State) (ch : ChannelId) :
    (s.countHeld ch).licences = s.licences := by
  simp only [State.countHeld]; (repeat' split) <;> simp
@[simp] theorem State.countHeld_keys (s : State) (ch : ChannelId) :
    (s.countHeld ch).keys = s.keys := by
  simp only [State.countHeld]; (repeat' split) <;> simp
@[simp] theorem State.countHeld_nextSeq (s : State) (ch : ChannelId) :
    (s.countHeld ch).nextSeq = s.nextSeq := by
  simp only [State.countHeld]; (repeat' split) <;> simp
@[simp] theorem State.countHeld_notices (s : State) (ch : ChannelId) :
    (s.countHeld ch).notices = s.notices := by
  simp only [State.countHeld]; (repeat' split) <;> simp

@[simp] theorem State.arriveStale_steady (s : State) (ch : ChannelId) (g : Segment) :
    (s.arriveStale ch g).steady = s.steady := by
  simp only [State.arriveStale]; (repeat' split) <;> simp
@[simp] theorem State.arriveStale_licences (s : State) (ch : ChannelId) (g : Segment) :
    (s.arriveStale ch g).licences = s.licences := by
  simp only [State.arriveStale]; (repeat' split) <;> simp
@[simp] theorem State.arriveStale_keys (s : State) (ch : ChannelId) (g : Segment) :
    (s.arriveStale ch g).keys = s.keys := by
  simp only [State.arriveStale]; (repeat' split) <;> simp
@[simp] theorem State.arriveStale_log (s : State) (ch : ChannelId) (g : Segment) :
    (s.arriveStale ch g).log = s.log := by
  simp only [State.arriveStale]; (repeat' split) <;> simp
@[simp] theorem State.arriveStale_nextSeq (s : State) (ch : ChannelId) (g : Segment) :
    (s.arriveStale ch g).nextSeq = s.nextSeq := by
  simp only [State.arriveStale]; (repeat' split) <;> simp
@[simp] theorem State.arriveStale_notices (s : State) (ch : ChannelId) (g : Segment) :
    (s.arriveStale ch g).notices = s.notices := by
  simp only [State.arriveStale]; (repeat' split) <;> simp

@[simp] theorem State.arrive_steady (s : State) (ch : ChannelId) (g : Segment) :
    (s.arrive ch g).steady = s.steady := by
  simp only [State.arrive]; (repeat' split) <;> simp
@[simp] theorem State.arrive_licences (s : State) (ch : ChannelId) (g : Segment) :
    (s.arrive ch g).licences = s.licences := by
  simp only [State.arrive]; (repeat' split) <;> simp
@[simp] theorem State.arrive_keys (s : State) (ch : ChannelId) (g : Segment) :
    (s.arrive ch g).keys = s.keys := by
  simp only [State.arrive]; (repeat' split) <;> simp
@[simp] theorem State.arrive_log (s : State) (ch : ChannelId) (g : Segment) :
    (s.arrive ch g).log = s.log := by
  simp only [State.arrive]; (repeat' split) <;> simp
@[simp] theorem State.arrive_nextSeq (s : State) (ch : ChannelId) (g : Segment) :
    (s.arrive ch g).nextSeq = s.nextSeq := by
  simp only [State.arrive]; (repeat' split) <;> simp

@[simp] theorem State.arriveHeld_steady (s : State) (b : List Byte) :
    (s.arriveHeld b).steady = s.steady := by
  simp [State.arriveHeld]
@[simp] theorem State.arriveHeld_licences (s : State) (b : List Byte) :
    (s.arriveHeld b).licences = s.licences := by
  simp [State.arriveHeld]
@[simp] theorem State.arriveHeld_keys (s : State) (b : List Byte) :
    (s.arriveHeld b).keys = s.keys := by
  simp [State.arriveHeld]
@[simp] theorem State.arriveHeld_log (s : State) (b : List Byte) :
    (s.arriveHeld b).log = s.log := by
  simp [State.arriveHeld]
@[simp] theorem State.arriveHeld_nextSeq (s : State) (b : List Byte) :
    (s.arriveHeld b).nextSeq = s.nextSeq := by
  simp [State.arriveHeld]

@[simp] theorem State.takePathByte_steady (s : State) (b : Byte) :
    (s.takePathByte b).steady = s.steady := by
  simp only [State.takePathByte]; (repeat' split) <;> simp
@[simp] theorem State.takePathByte_licences (s : State) (b : Byte) :
    (s.takePathByte b).licences = s.licences := by
  simp only [State.takePathByte]; (repeat' split) <;> simp
@[simp] theorem State.takePathByte_keys (s : State) (b : Byte) :
    (s.takePathByte b).keys = s.keys := by
  simp only [State.takePathByte]; (repeat' split) <;> simp
@[simp] theorem State.takePathByte_log (s : State) (b : Byte) :
    (s.takePathByte b).log = s.log := by
  simp only [State.takePathByte]; (repeat' split) <;> simp
@[simp] theorem State.takePathByte_nextSeq (s : State) (b : Byte) :
    (s.takePathByte b).nextSeq = s.nextSeq := by
  simp only [State.takePathByte]; (repeat' split) <;> simp

@[simp] theorem State.takePathBytes_steady (s : State) (bs : List Byte) :
    (s.takePathBytes bs).steady = s.steady := 
  State.foldl_field (·.steady) State.takePathByte (fun _ _ => by simp) _ _
@[simp] theorem State.takePathBytes_licences (s : State) (bs : List Byte) :
    (s.takePathBytes bs).licences = s.licences := 
  State.foldl_field (·.licences) State.takePathByte (fun _ _ => by simp) _ _
@[simp] theorem State.takePathBytes_keys (s : State) (bs : List Byte) :
    (s.takePathBytes bs).keys = s.keys := 
  State.foldl_field (·.keys) State.takePathByte (fun _ _ => by simp) _ _
@[simp] theorem State.takePathBytes_log (s : State) (bs : List Byte) :
    (s.takePathBytes bs).log = s.log := 
  State.foldl_field (·.log) State.takePathByte (fun _ _ => by simp) _ _
@[simp] theorem State.takePathBytes_nextSeq (s : State) (bs : List Byte) :
    (s.takePathBytes bs).nextSeq = s.nextSeq := 
  State.foldl_field (·.nextSeq) State.takePathByte (fun _ _ => by simp) _ _

@[simp] theorem State.abandonWork_steady (s : State) (ch : ChannelId) :
    (s.abandonWork ch).steady = s.steady := by
  simp only [State.abandonWork]; (repeat' split) <;> rfl
@[simp] theorem State.abandonWork_licences (s : State) (ch : ChannelId) :
    (s.abandonWork ch).licences = s.licences := by
  simp only [State.abandonWork]; (repeat' split) <;> rfl
@[simp] theorem State.abandonWork_keys (s : State) (ch : ChannelId) :
    (s.abandonWork ch).keys = s.keys := by
  simp only [State.abandonWork]; (repeat' split) <;> rfl
@[simp] theorem State.abandonWork_log (s : State) (ch : ChannelId) :
    (s.abandonWork ch).log = s.log := by
  simp only [State.abandonWork]; (repeat' split) <;> rfl
@[simp] theorem State.abandonWork_nextSeq (s : State) (ch : ChannelId) :
    (s.abandonWork ch).nextSeq = s.nextSeq := by
  simp only [State.abandonWork]; (repeat' split) <;> rfl
@[simp] theorem State.abandonWork_notices (s : State) (ch : ChannelId) :
    (s.abandonWork ch).notices = s.notices := by
  simp only [State.abandonWork]; (repeat' split) <;> rfl
@[simp] theorem State.abandonWork_chan (s : State) (ch : ChannelId) (c' : ChannelId) :
    (s.abandonWork ch).chan c' = s.chan c' := by
  simp only [State.abandonWork]; (repeat' split) <;> cases c' <;> rfl

@[simp] theorem State.finishHead_steady (s : State) (ch : ChannelId) :
    (s.finishHead ch).steady = s.steady := by
  simp only [State.finishHead]; (repeat' split) <;> simp
@[simp] theorem State.finishHead_licences (s : State) (ch : ChannelId) :
    (s.finishHead ch).licences = s.licences := by
  simp only [State.finishHead]; (repeat' split) <;> simp
@[simp] theorem State.finishHead_keys (s : State) (ch : ChannelId) :
    (s.finishHead ch).keys = s.keys := by
  simp only [State.finishHead]; (repeat' split) <;> simp
@[simp] theorem State.finishHead_log (s : State) (ch : ChannelId) :
    (s.finishHead ch).log = s.log := by
  simp only [State.finishHead]; (repeat' split) <;> simp
@[simp] theorem State.finishHead_nextSeq (s : State) (ch : ChannelId) :
    (s.finishHead ch).nextSeq = s.nextSeq := by
  simp only [State.finishHead]; (repeat' split) <;> simp
@[simp] theorem State.finishHead_notices (s : State) (ch : ChannelId) :
    (s.finishHead ch).notices = s.notices := by
  simp only [State.finishHead]; (repeat' split) <;> simp

@[simp] theorem State.raiseEpoch_steady (s : State) (ch : ChannelId) :
    (s.raiseEpoch ch).steady = s.steady := by
  simp only [State.raiseEpoch]; (repeat' split) <;> simp
@[simp] theorem State.raiseEpoch_licences (s : State) (ch : ChannelId) :
    (s.raiseEpoch ch).licences = s.licences := by
  simp only [State.raiseEpoch]; (repeat' split) <;> simp
@[simp] theorem State.raiseEpoch_keys (s : State) (ch : ChannelId) :
    (s.raiseEpoch ch).keys = s.keys := by
  simp only [State.raiseEpoch]; (repeat' split) <;> simp
@[simp] theorem State.raiseEpoch_log (s : State) (ch : ChannelId) :
    (s.raiseEpoch ch).log = s.log := by
  simp only [State.raiseEpoch]; (repeat' split) <;> simp
@[simp] theorem State.raiseEpoch_nextSeq (s : State) (ch : ChannelId) :
    (s.raiseEpoch ch).nextSeq = s.nextSeq := by
  simp only [State.raiseEpoch]; (repeat' split) <;> simp
@[simp] theorem State.raiseEpoch_notices (s : State) (ch : ChannelId) :
    (s.raiseEpoch ch).notices = s.notices := by
  simp only [State.raiseEpoch]; (repeat' split) <;> simp

@[simp] theorem State.restartIngest_steady (s : State) (ch : ChannelId) :
    (s.restartIngest ch).steady = s.steady := by
  simp [State.restartIngest]
@[simp] theorem State.restartIngest_licences (s : State) (ch : ChannelId) :
    (s.restartIngest ch).licences = s.licences := by
  simp [State.restartIngest]
@[simp] theorem State.restartIngest_keys (s : State) (ch : ChannelId) :
    (s.restartIngest ch).keys = s.keys := by
  simp [State.restartIngest]
@[simp] theorem State.restartIngest_log (s : State) (ch : ChannelId) :
    (s.restartIngest ch).log = s.log := by
  simp [State.restartIngest]
@[simp] theorem State.restartIngest_nextSeq (s : State) (ch : ChannelId) :
    (s.restartIngest ch).nextSeq = s.nextSeq := by
  simp [State.restartIngest]
@[simp] theorem State.restartIngest_notices (s : State) (ch : ChannelId) :
    (s.restartIngest ch).notices = s.notices := by
  simp [State.restartIngest]

@[simp] theorem State.sendNextReturn_steady (s : State) :
    (s.sendNextReturn).steady = s.steady := by
  simp only [State.sendNextReturn]; (repeat' split) <;> rfl
@[simp] theorem State.sendNextReturn_licences (s : State) :
    (s.sendNextReturn).licences = s.licences := by
  simp only [State.sendNextReturn]; (repeat' split) <;> rfl
@[simp] theorem State.sendNextReturn_keys (s : State) :
    (s.sendNextReturn).keys = s.keys := by
  simp only [State.sendNextReturn]; (repeat' split) <;> rfl
@[simp] theorem State.sendNextReturn_log (s : State) :
    (s.sendNextReturn).log = s.log := by
  simp only [State.sendNextReturn]; (repeat' split) <;> rfl
@[simp] theorem State.sendNextReturn_nextSeq (s : State) :
    (s.sendNextReturn).nextSeq = s.nextSeq := by
  simp only [State.sendNextReturn]; (repeat' split) <;> rfl
@[simp] theorem State.sendNextReturn_notices (s : State) :
    (s.sendNextReturn).notices = s.notices := by
  simp only [State.sendNextReturn]; (repeat' split) <;> rfl
@[simp] theorem State.sendNextReturn_chan (s : State) (c' : ChannelId) :
    (s.sendNextReturn).chan c' = s.chan c' := by
  simp only [State.sendNextReturn]; (repeat' split) <;> cases c' <;> rfl

@[simp] theorem State.putSubs_steady (s : State) (ch : ChannelId) (x : SubsResult) :
    (s.putSubs ch x).steady = s.steady := 
  (State.raiseDrops_steady _ _ _).trans (State.modChan_steady s ch _)
@[simp] theorem State.putSubs_licences (s : State) (ch : ChannelId) (x : SubsResult) :
    (s.putSubs ch x).licences = s.licences := by
  simp [State.putSubs]
@[simp] theorem State.putSubs_keys (s : State) (ch : ChannelId) (x : SubsResult) :
    (s.putSubs ch x).keys = s.keys := by
  simp [State.putSubs]
@[simp] theorem State.putSubs_log (s : State) (ch : ChannelId) (x : SubsResult) :
    (s.putSubs ch x).log = s.log := by
  simp [State.putSubs]
@[simp] theorem State.putSubs_nextSeq (s : State) (ch : ChannelId) (x : SubsResult) :
    (s.putSubs ch x).nextSeq = s.nextSeq := by
  simp [State.putSubs]

@[simp] theorem State.modSubs_steady (s : State) (ch : ChannelId) (f : Subtitles → Subtitles) :
    (s.modSubs ch f).steady = s.steady := by
  simp [State.modSubs]
@[simp] theorem State.modSubs_licences (s : State) (ch : ChannelId) (f : Subtitles → Subtitles) :
    (s.modSubs ch f).licences = s.licences := by
  simp [State.modSubs]
@[simp] theorem State.modSubs_keys (s : State) (ch : ChannelId) (f : Subtitles → Subtitles) :
    (s.modSubs ch f).keys = s.keys := by
  simp [State.modSubs]
@[simp] theorem State.modSubs_log (s : State) (ch : ChannelId) (f : Subtitles → Subtitles) :
    (s.modSubs ch f).log = s.log := by
  simp [State.modSubs]
@[simp] theorem State.modSubs_nextSeq (s : State) (ch : ChannelId) (f : Subtitles → Subtitles) :
    (s.modSubs ch f).nextSeq = s.nextSeq := by
  simp [State.modSubs]
@[simp] theorem State.modSubs_notices (s : State) (ch : ChannelId) (f : Subtitles → Subtitles) :
    (s.modSubs ch f).notices = s.notices := by
  simp [State.modSubs]

@[simp] theorem State.discardOrder_steady (s : State) (ch : ChannelId) :
    (s.discardOrder ch).steady = s.steady := by
  simp [State.discardOrder]
@[simp] theorem State.discardOrder_licences (s : State) (ch : ChannelId) :
    (s.discardOrder ch).licences = s.licences := by
  simp [State.discardOrder]
@[simp] theorem State.discardOrder_keys (s : State) (ch : ChannelId) :
    (s.discardOrder ch).keys = s.keys := by
  simp [State.discardOrder]
@[simp] theorem State.discardOrder_log (s : State) (ch : ChannelId) :
    (s.discardOrder ch).log = s.log := by
  simp [State.discardOrder]
@[simp] theorem State.discardOrder_nextSeq (s : State) (ch : ChannelId) :
    (s.discardOrder ch).nextSeq = s.nextSeq := by
  simp [State.discardOrder]
@[simp] theorem State.discardOrder_notices (s : State) (ch : ChannelId) :
    (s.discardOrder ch).notices = s.notices := by
  simp [State.discardOrder]

@[simp] theorem State.serve_steady (s : State) (ch : ChannelId) :
    (s.serve ch).steady = s.steady := by
  simp only [State.serve]; (repeat' split) <;> first | rfl | simp
@[simp] theorem State.serve_licences (s : State) (ch : ChannelId) :
    (s.serve ch).licences = s.licences := by
  simp only [State.serve]; (repeat' split) <;> first | rfl | simp
@[simp] theorem State.serve_keys (s : State) (ch : ChannelId) :
    (s.serve ch).keys = s.keys := by
  simp only [State.serve]; (repeat' split) <;> first | rfl | simp
@[simp] theorem State.serve_log (s : State) (ch : ChannelId) :
    (s.serve ch).log = s.log := by
  simp only [State.serve]; (repeat' split) <;> first | rfl | simp
@[simp] theorem State.serve_nextSeq (s : State) (ch : ChannelId) :
    (s.serve ch).nextSeq = s.nextSeq := by
  simp only [State.serve]; (repeat' split) <;> first | rfl | simp
@[simp] theorem State.serve_notices (s : State) (ch : ChannelId) :
    (s.serve ch).notices = s.notices := by
  simp only [State.serve]; (repeat' split) <;> first | rfl | simp

@[simp] theorem State.takeSegment_steady (s : State) :
    (s.takeSegment).steady = s.steady := by
  simp only [State.takeSegment]; (repeat' split) <;> simp
@[simp] theorem State.takeSegment_licences (s : State) :
    (s.takeSegment).licences = s.licences := by
  simp only [State.takeSegment]; (repeat' split) <;> simp
@[simp] theorem State.takeSegment_keys (s : State) :
    (s.takeSegment).keys = s.keys := by
  simp only [State.takeSegment]; (repeat' split) <;> simp
@[simp] theorem State.takeSegment_log (s : State) :
    (s.takeSegment).log = s.log := by
  simp only [State.takeSegment]; (repeat' split) <;> simp
@[simp] theorem State.takeSegment_nextSeq (s : State) :
    (s.takeSegment).nextSeq = s.nextSeq := by
  simp only [State.takeSegment]; (repeat' split) <;> simp
@[simp] theorem State.takeSegment_notices (s : State) :
    (s.takeSegment).notices = s.notices := by
  simp only [State.takeSegment]; (repeat' split) <;> simp

@[simp] theorem State.raiseUnusable_steady (s : State) (ch : ChannelId) (g : Segment) (p : Payload) :
    (s.raiseUnusable ch g p).steady = s.steady := by
  cases p with
  | good q => rfl
  | bad c => cases c <;> simp [State.raiseUnusable]
@[simp] theorem State.raiseUnusable_licences (s : State) (ch : ChannelId) (g : Segment) (p : Payload) :
    (s.raiseUnusable ch g p).licences = s.licences := by
  cases p with
  | good q => rfl
  | bad c => cases c <;> simp [State.raiseUnusable]
@[simp] theorem State.raiseUnusable_keys (s : State) (ch : ChannelId) (g : Segment) (p : Payload) :
    (s.raiseUnusable ch g p).keys = s.keys := by
  cases p with
  | good q => rfl
  | bad c => cases c <;> simp [State.raiseUnusable]
@[simp] theorem State.raiseUnusable_log (s : State) (ch : ChannelId) (g : Segment) (p : Payload) :
    (s.raiseUnusable ch g p).log = s.log := by
  cases p with
  | good q => rfl
  | bad c => cases c <;> simp [State.raiseUnusable]
@[simp] theorem State.raiseUnusable_nextSeq (s : State) (ch : ChannelId) (g : Segment) (p : Payload) :
    (s.raiseUnusable ch g p).nextSeq = s.nextSeq := by
  cases p with
  | good q => rfl
  | bad c => cases c <;> simp [State.raiseUnusable]
@[simp] theorem State.raiseUnusable_chan (s : State) (ch : ChannelId) (g : Segment) (p : Payload) (c' : ChannelId) :
    (s.raiseUnusable ch g p).chan c' = s.chan c' := by
  simp only [State.raiseUnusable]; (repeat' split) <;> simp

@[simp] theorem State.handOff_steady (s : State) (ch : ChannelId) (c : Composition) (g : Segment) (p : List Byte) :
    (s.handOff ch c g p).steady = s.steady := by
  simp only [State.handOff]; (repeat' split) <;> simp
@[simp] theorem State.handOff_licences (s : State) (ch : ChannelId) (c : Composition) (g : Segment) (p : List Byte) :
    (s.handOff ch c g p).licences = s.licences := by
  simp only [State.handOff]; (repeat' split) <;> simp
@[simp] theorem State.handOff_keys (s : State) (ch : ChannelId) (c : Composition) (g : Segment) (p : List Byte) :
    (s.handOff ch c g p).keys = s.keys := by
  simp only [State.handOff]; (repeat' split) <;> simp
@[simp] theorem State.handOff_log (s : State) (ch : ChannelId) (c : Composition) (g : Segment) (p : List Byte) :
    (s.handOff ch c g p).log = s.log := by
  simp only [State.handOff]; (repeat' split) <;> simp
@[simp] theorem State.handOff_nextSeq (s : State) (ch : ChannelId) (c : Composition) (g : Segment) (p : List Byte) :
    (s.handOff ch c g p).nextSeq = s.nextSeq := by
  simp only [State.handOff]; (repeat' split) <;> simp

@[simp] theorem State.placePrologue_steady (s : State) (ch : ChannelId) (c : Composition) (g : Segment) (p : Payload) :
    (s.placePrologue ch c g p).steady = s.steady := by
  simp only [State.placePrologue]; (repeat' split) <;> simp
@[simp] theorem State.placePrologue_licences (s : State) (ch : ChannelId) (c : Composition) (g : Segment) (p : Payload) :
    (s.placePrologue ch c g p).licences = s.licences := by
  simp only [State.placePrologue]; (repeat' split) <;> simp
@[simp] theorem State.placePrologue_keys (s : State) (ch : ChannelId) (c : Composition) (g : Segment) (p : Payload) :
    (s.placePrologue ch c g p).keys = s.keys := by
  simp only [State.placePrologue]; (repeat' split) <;> simp
@[simp] theorem State.placePrologue_log (s : State) (ch : ChannelId) (c : Composition) (g : Segment) (p : Payload) :
    (s.placePrologue ch c g p).log = s.log := by
  simp only [State.placePrologue]; (repeat' split) <;> simp
@[simp] theorem State.placePrologue_nextSeq (s : State) (ch : ChannelId) (c : Composition) (g : Segment) (p : Payload) :
    (s.placePrologue ch c g p).nextSeq = s.nextSeq := by
  simp only [State.placePrologue]; (repeat' split) <;> simp

@[simp] theorem State.placeSegment_steady (s : State) (ch : ChannelId) (c : Composition) (n : Nat) (g : Segment) (p : Payload) :
    (s.placeSegment ch c n g p).steady = s.steady := by
  simp only [State.placeSegment]; (repeat' split) <;> simp
@[simp] theorem State.placeSegment_licences (s : State) (ch : ChannelId) (c : Composition) (n : Nat) (g : Segment) (p : Payload) :
    (s.placeSegment ch c n g p).licences = s.licences := by
  simp only [State.placeSegment]; (repeat' split) <;> simp
@[simp] theorem State.placeSegment_keys (s : State) (ch : ChannelId) (c : Composition) (n : Nat) (g : Segment) (p : Payload) :
    (s.placeSegment ch c n g p).keys = s.keys := by
  simp only [State.placeSegment]; (repeat' split) <;> simp
@[simp] theorem State.placeSegment_log (s : State) (ch : ChannelId) (c : Composition) (n : Nat) (g : Segment) (p : Payload) :
    (s.placeSegment ch c n g p).log = s.log := by
  simp only [State.placeSegment]; (repeat' split) <;> simp
@[simp] theorem State.placeSegment_nextSeq (s : State) (ch : ChannelId) (c : Composition) (n : Nat) (g : Segment) (p : Payload) :
    (s.placeSegment ch c n g p).nextSeq = s.nextSeq := by
  simp only [State.placeSegment]; (repeat' split) <;> simp

@[simp] theorem State.judgePriming_steady (s : State) (ch : ChannelId) (b : Bool) :
    (s.judgePriming ch b).steady = s.steady := by
  simp only [State.judgePriming]; (repeat' split) <;> simp
@[simp] theorem State.judgePriming_licences (s : State) (ch : ChannelId) (b : Bool) :
    (s.judgePriming ch b).licences = s.licences := by
  simp only [State.judgePriming]; (repeat' split) <;> simp
@[simp] theorem State.judgePriming_keys (s : State) (ch : ChannelId) (b : Bool) :
    (s.judgePriming ch b).keys = s.keys := by
  simp only [State.judgePriming]; (repeat' split) <;> simp
@[simp] theorem State.judgePriming_log (s : State) (ch : ChannelId) (b : Bool) :
    (s.judgePriming ch b).log = s.log := by
  simp only [State.judgePriming]; (repeat' split) <;> simp
@[simp] theorem State.judgePriming_nextSeq (s : State) (ch : ChannelId) (b : Bool) :
    (s.judgePriming ch b).nextSeq = s.nextSeq := by
  simp only [State.judgePriming]; (repeat' split) <;> simp

@[simp] theorem State.reportComplete_steady (s : State) (ch : ChannelId) :
    (s.reportComplete ch).steady = s.steady := by
  simp [State.reportComplete]
@[simp] theorem State.reportComplete_licences (s : State) (ch : ChannelId) :
    (s.reportComplete ch).licences = s.licences := by
  simp [State.reportComplete]
@[simp] theorem State.reportComplete_keys (s : State) (ch : ChannelId) :
    (s.reportComplete ch).keys = s.keys := by
  simp [State.reportComplete]
@[simp] theorem State.reportComplete_log (s : State) (ch : ChannelId) :
    (s.reportComplete ch).log = s.log := by
  simp [State.reportComplete]
@[simp] theorem State.reportComplete_nextSeq (s : State) (ch : ChannelId) :
    (s.reportComplete ch).nextSeq = s.nextSeq := by
  simp [State.reportComplete]
@[simp] theorem State.reportComplete_notices (s : State) (ch : ChannelId) :
    (s.reportComplete ch).notices = s.notices := by
  simp [State.reportComplete]

@[simp] theorem State.afterPlacement_steady (s : State) (ch : ChannelId) (a b : Bool) :
    (s.afterPlacement ch a b).steady = s.steady := by
  simp only [State.afterPlacement]; (repeat' split) <;> simp
@[simp] theorem State.afterPlacement_keys (s : State) (ch : ChannelId) (a b : Bool) :
    (s.afterPlacement ch a b).keys = s.keys := by
  simp only [State.afterPlacement]; (repeat' split) <;> simp

@[simp] theorem State.unpack_steady (s : State) (ch : ChannelId) (c : Composition) (n : Nat) (k : KeyChoice) (g : Segment) :
    (s.unpack ch c n k g).steady = s.steady := by
  simp only [State.unpack]; (repeat' split) <;> simp
@[simp] theorem State.unpack_keys (s : State) (ch : ChannelId) (c : Composition) (n : Nat) (k : KeyChoice) (g : Segment) :
    (s.unpack ch c n k g).keys = s.keys := by
  simp only [State.unpack]; (repeat' split) <;> simp

@[simp] theorem State.finishSegment_steady (s : State) :
    (s.finishSegment).steady = s.steady := by
  simp only [State.finishSegment]; (repeat' split) <;> simp
@[simp] theorem State.finishSegment_keys (s : State) :
    (s.finishSegment).keys = s.keys := by
  simp only [State.finishSegment]; (repeat' split) <;> simp

@[simp] theorem State.keepPeriod_steady (s : State) (ch : ChannelId) :
    (s.keepPeriod ch).steady = s.steady := by
  simp [State.keepPeriod]
@[simp] theorem State.keepPeriod_licences (s : State) (ch : ChannelId) :
    (s.keepPeriod ch).licences = s.licences := by
  simp [State.keepPeriod]
@[simp] theorem State.keepPeriod_keys (s : State) (ch : ChannelId) :
    (s.keepPeriod ch).keys = s.keys := by
  simp [State.keepPeriod]
@[simp] theorem State.keepPeriod_log (s : State) (ch : ChannelId) :
    (s.keepPeriod ch).log = s.log := by
  simp [State.keepPeriod]
@[simp] theorem State.keepPeriod_nextSeq (s : State) (ch : ChannelId) :
    (s.keepPeriod ch).nextSeq = s.nextSeq := by
  simp [State.keepPeriod]
@[simp] theorem State.keepPeriod_notices (s : State) (ch : ChannelId) :
    (s.keepPeriod ch).notices = s.notices := by
  simp [State.keepPeriod]

@[simp] theorem State.raiseDamage_steady (s : State) (ch : ChannelId) (f : Frame) :
    (s.raiseDamage ch f).steady = s.steady := by
  simp only [State.raiseDamage]; (repeat' split) <;> simp
@[simp] theorem State.raiseDamage_licences (s : State) (ch : ChannelId) (f : Frame) :
    (s.raiseDamage ch f).licences = s.licences := by
  simp only [State.raiseDamage]; (repeat' split) <;> simp
@[simp] theorem State.raiseDamage_keys (s : State) (ch : ChannelId) (f : Frame) :
    (s.raiseDamage ch f).keys = s.keys := by
  simp only [State.raiseDamage]; (repeat' split) <;> simp
@[simp] theorem State.raiseDamage_log (s : State) (ch : ChannelId) (f : Frame) :
    (s.raiseDamage ch f).log = s.log := by
  simp only [State.raiseDamage]; (repeat' split) <;> simp
@[simp] theorem State.raiseDamage_nextSeq (s : State) (ch : ChannelId) (f : Frame) :
    (s.raiseDamage ch f).nextSeq = s.nextSeq := by
  simp only [State.raiseDamage]; (repeat' split) <;> simp
@[simp] theorem State.raiseDamage_chan (s : State) (ch : ChannelId) (f : Frame) (c' : ChannelId) :
    (s.raiseDamage ch f).chan c' = s.chan c' := by
  simp only [State.raiseDamage]; (repeat' split) <;> simp

@[simp] theorem State.closeAtFrame_steady (s : State) (ch : ChannelId) (f : Frame) (a b c : Bool) :
    (s.closeAtFrame ch f a b c).steady = s.steady := by
  simp only [State.closeAtFrame]; (repeat' split) <;> simp

@[simp] theorem State.present_steady (s : State) (ch : ChannelId) (f : Frame) (a b c : Bool) :
    (s.present ch f a b c).steady = s.steady := by
  simp only [State.present]; (repeat' split) <;> simp

@[simp] theorem State.presentNext_steady (s : State) (ch : ChannelId) (f : Frame) :
    (s.presentNext ch f).steady = s.steady := by
  simp [State.presentNext]

@[simp] theorem State.pausedDeadline_steady (s : State) (ch : ChannelId) :
    (s.pausedDeadline ch).steady = s.steady := by
  simp [State.pausedDeadline]
@[simp] theorem State.pausedDeadline_licences (s : State) (ch : ChannelId) :
    (s.pausedDeadline ch).licences = s.licences := by
  simp [State.pausedDeadline]
@[simp] theorem State.pausedDeadline_keys (s : State) (ch : ChannelId) :
    (s.pausedDeadline ch).keys = s.keys := by
  simp [State.pausedDeadline]
@[simp] theorem State.pausedDeadline_log (s : State) (ch : ChannelId) :
    (s.pausedDeadline ch).log = s.log := by
  simp [State.pausedDeadline]
@[simp] theorem State.pausedDeadline_nextSeq (s : State) (ch : ChannelId) :
    (s.pausedDeadline ch).nextSeq = s.nextSeq := by
  simp [State.pausedDeadline]
@[simp] theorem State.pausedDeadline_notices (s : State) (ch : ChannelId) :
    (s.pausedDeadline ch).notices = s.notices := by
  simp [State.pausedDeadline]

@[simp] theorem State.heldDeadline_steady (s : State) (ch : ChannelId) :
    (s.heldDeadline ch).steady = s.steady := by
  simp [State.heldDeadline]
@[simp] theorem State.heldDeadline_licences (s : State) (ch : ChannelId) :
    (s.heldDeadline ch).licences = s.licences := by
  simp [State.heldDeadline]
@[simp] theorem State.heldDeadline_keys (s : State) (ch : ChannelId) :
    (s.heldDeadline ch).keys = s.keys := by
  simp [State.heldDeadline]
@[simp] theorem State.heldDeadline_nextSeq (s : State) (ch : ChannelId) :
    (s.heldDeadline ch).nextSeq = s.nextSeq := by
  simp [State.heldDeadline]
@[simp] theorem State.heldDeadline_notices (s : State) (ch : ChannelId) :
    (s.heldDeadline ch).notices = s.notices := by
  simp [State.heldDeadline]

@[simp] theorem State.suspend_steady (s : State) (ch : ChannelId) :
    (s.suspend ch).steady = s.steady := by
  simp [State.suspend]
@[simp] theorem State.suspend_licences (s : State) (ch : ChannelId) :
    (s.suspend ch).licences = s.licences := by
  simp [State.suspend]
@[simp] theorem State.suspend_keys (s : State) (ch : ChannelId) :
    (s.suspend ch).keys = s.keys := by
  simp [State.suspend]
@[simp] theorem State.suspend_log (s : State) (ch : ChannelId) :
    (s.suspend ch).log = s.log := by
  simp [State.suspend]
@[simp] theorem State.suspend_nextSeq (s : State) (ch : ChannelId) :
    (s.suspend ch).nextSeq = s.nextSeq := by
  simp [State.suspend]

@[simp] theorem State.suspendedDeadline_steady (s : State) (ch : ChannelId) :
    (s.suspendedDeadline ch).steady = s.steady := by
  simp [State.suspendedDeadline]
@[simp] theorem State.suspendedDeadline_licences (s : State) (ch : ChannelId) :
    (s.suspendedDeadline ch).licences = s.licences := by
  simp [State.suspendedDeadline]
@[simp] theorem State.suspendedDeadline_keys (s : State) (ch : ChannelId) :
    (s.suspendedDeadline ch).keys = s.keys := by
  simp [State.suspendedDeadline]
@[simp] theorem State.suspendedDeadline_log (s : State) (ch : ChannelId) :
    (s.suspendedDeadline ch).log = s.log := by
  simp [State.suspendedDeadline]
@[simp] theorem State.suspendedDeadline_nextSeq (s : State) (ch : ChannelId) :
    (s.suspendedDeadline ch).nextSeq = s.nextSeq := by
  simp [State.suspendedDeadline]
@[simp] theorem State.suspendedDeadline_notices (s : State) (ch : ChannelId) :
    (s.suspendedDeadline ch).notices = s.notices := by
  simp [State.suspendedDeadline]

@[simp] theorem State.underrun_steady (s : State) (ch : ChannelId) :
    (s.underrun ch).steady = s.steady := by
  simp only [State.underrun]; (repeat' split) <;> simp
@[simp] theorem State.underrun_licences (s : State) (ch : ChannelId) :
    (s.underrun ch).licences = s.licences := by
  simp only [State.underrun]; (repeat' split) <;> simp
@[simp] theorem State.underrun_keys (s : State) (ch : ChannelId) :
    (s.underrun ch).keys = s.keys := by
  simp only [State.underrun]; (repeat' split) <;> simp
@[simp] theorem State.underrun_nextSeq (s : State) (ch : ChannelId) :
    (s.underrun ch).nextSeq = s.nextSeq := by
  simp only [State.underrun]; (repeat' split) <;> simp

@[simp] theorem State.endShow_steady (s : State) (ch : ChannelId) :
    (s.endShow ch).steady = s.steady := by
  simp [State.endShow]
@[simp] theorem State.endShow_licences (s : State) (ch : ChannelId) :
    (s.endShow ch).licences = s.licences := by
  simp [State.endShow]
@[simp] theorem State.endShow_keys (s : State) (ch : ChannelId) :
    (s.endShow ch).keys = s.keys := by
  simp [State.endShow]
@[simp] theorem State.endShow_log (s : State) (ch : ChannelId) :
    (s.endShow ch).log = s.log := by
  simp [State.endShow]
@[simp] theorem State.endShow_nextSeq (s : State) (ch : ChannelId) :
    (s.endShow ch).nextSeq = s.nextSeq := by
  simp [State.endShow]

@[simp] theorem State.freePresenting_steady (s : State) (ch : ChannelId) :
    (s.freePresenting ch).steady = s.steady := by
  simp [State.freePresenting]
@[simp] theorem State.freePresenting_licences (s : State) (ch : ChannelId) :
    (s.freePresenting ch).licences = s.licences := by
  simp [State.freePresenting]
@[simp] theorem State.freePresenting_keys (s : State) (ch : ChannelId) :
    (s.freePresenting ch).keys = s.keys := by
  simp [State.freePresenting]
@[simp] theorem State.freePresenting_log (s : State) (ch : ChannelId) :
    (s.freePresenting ch).log = s.log := by
  simp [State.freePresenting]
@[simp] theorem State.freePresenting_nextSeq (s : State) (ch : ChannelId) :
    (s.freePresenting ch).nextSeq = s.nextSeq := by
  simp [State.freePresenting]
@[simp] theorem State.freePresenting_notices (s : State) (ch : ChannelId) :
    (s.freePresenting ch).notices = s.notices := by
  simp [State.freePresenting]

@[simp] theorem State.playingDeadline_steady (s : State) (ch : ChannelId) (b : Bool) :
    (s.playingDeadline ch b).steady = s.steady := by
  simp only [State.playingDeadline]; (repeat' split) <;> simp

@[simp] theorem State.holdOn_steady (s : State) (ch : ChannelId) :
    (s.holdOn ch).steady = s.steady := by
  simp only [State.holdOn]; (repeat' split) <;> simp
@[simp] theorem State.holdOn_licences (s : State) (ch : ChannelId) :
    (s.holdOn ch).licences = s.licences := by
  simp only [State.holdOn]; (repeat' split) <;> simp
@[simp] theorem State.holdOn_keys (s : State) (ch : ChannelId) :
    (s.holdOn ch).keys = s.keys := by
  simp only [State.holdOn]; (repeat' split) <;> simp
@[simp] theorem State.holdOn_nextSeq (s : State) (ch : ChannelId) :
    (s.holdOn ch).nextSeq = s.nextSeq := by
  simp only [State.holdOn]; (repeat' split) <;> simp

@[simp] theorem State.holdingDeadline_steady (s : State) (ch : ChannelId) :
    (s.holdingDeadline ch).steady = s.steady := by
  simp only [State.holdingDeadline]; (repeat' split) <;> simp

@[simp] theorem State.deadline_steady (s : State) (ch : ChannelId) :
    (s.deadline ch).steady = s.steady := by
  simp only [State.deadline]; (repeat' split) <;> simp

@[simp] theorem State.deadlineEdge_steady (s : State) (ch : ChannelId) :
    (s.deadlineEdge ch).steady = s.steady := by
  simp [State.deadlineEdge]

@[simp] theorem State.sampleEdge_steady (s : State) (ch : ChannelId) :
    (s.sampleEdge ch).steady = s.steady := by
  simp only [State.sampleEdge]; (repeat' split) <;> simp

@[simp] theorem State.reachDeadline_steady (s : State) (ch : ChannelId) :
    (s.reachDeadline ch).steady = s.steady := by
  simp only [State.reachDeadline]; (repeat' split) <;> simp

@[simp] theorem State.cue_steady (s : State) (ch : ChannelId) (c : Composition) (i n e : Nat) (l : Option Nat) :
    (s.cue ch c i n e l).steady = s.steady := by
  simp [State.cue]
@[simp] theorem State.cue_keys (s : State) (ch : ChannelId) (c : Composition) (i n e : Nat) (l : Option Nat) :
    (s.cue ch c i n e l).keys = s.keys := by
  simp [State.cue]

@[simp] theorem State.stop_steady (s : State) (ch : ChannelId) :
    (s.stop ch).steady = s.steady := by
  simp only [State.stop]; simp
  exact State.foldl_field (·.steady) _ (fun _ _ => by simp) _ _
@[simp] theorem State.stop_nextSeq (s : State) (ch : ChannelId) :
    (s.stop ch).nextSeq = s.nextSeq := by
  simp only [State.stop]; simp
  exact State.foldl_field (·.nextSeq) _ (fun _ _ => by simp) _ _

@[simp] theorem State.discardFetching_steady (s : State) (ch : ChannelId) :
    (s.discardFetching ch).steady = s.steady := 
  State.foldl_field (·.steady) _ (fun _ _ => by simp) _ _
@[simp] theorem State.discardFetching_nextSeq (s : State) (ch : ChannelId) :
    (s.discardFetching ch).nextSeq = s.nextSeq := 
  State.foldl_field (·.nextSeq) _ (fun _ _ => by simp) _ _

@[simp] theorem State.uncharge_steady (s : State) (ch : ChannelId) (r : AdmissionRecord) :
    (s.uncharge ch r).steady = s.steady := by
  simp [State.uncharge]
@[simp] theorem State.uncharge_keys (s : State) (ch : ChannelId) (r : AdmissionRecord) :
    (s.uncharge ch r).keys = s.keys := by
  simp [State.uncharge]
@[simp] theorem State.uncharge_log (s : State) (ch : ChannelId) (r : AdmissionRecord) :
    (s.uncharge ch r).log = s.log := by
  simp [State.uncharge]
@[simp] theorem State.uncharge_nextSeq (s : State) (ch : ChannelId) (r : AdmissionRecord) :
    (s.uncharge ch r).nextSeq = s.nextSeq := by
  simp [State.uncharge]
@[simp] theorem State.uncharge_notices (s : State) (ch : ChannelId) (r : AdmissionRecord) :
    (s.uncharge ch r).notices = s.notices := by
  simp [State.uncharge]

@[simp] theorem State.jumpReleases_steady (s : State) (ch : ChannelId) (n : Nat) :
    (s.jumpReleases ch n).steady = s.steady := by
  simp only [State.jumpReleases]; (repeat' split) <;> simp
@[simp] theorem State.jumpReleases_nextSeq (s : State) (ch : ChannelId) (n : Nat) :
    (s.jumpReleases ch n).nextSeq = s.nextSeq := by
  simp only [State.jumpReleases]; (repeat' split) <;> simp

@[simp] theorem State.closeLeft_steady (s : State) (ch : ChannelId) (n : Nat) :
    (s.closeLeft ch n).steady = s.steady := by
  simp only [State.closeLeft]; (repeat' split) <;> simp
@[simp] theorem State.closeLeft_nextSeq (s : State) (ch : ChannelId) (n : Nat) :
    (s.closeLeft ch n).nextSeq = s.nextSeq := by
  simp only [State.closeLeft]; (repeat' split) <;> simp
@[simp] theorem State.closeLeft_notices (s : State) (ch : ChannelId) (n : Nat) :
    (s.closeLeft ch n).notices = s.notices := by
  simp only [State.closeLeft]; (repeat' split) <;> simp

@[simp] theorem State.jumpFlush_steady (s : State) (ch : ChannelId) (n : Nat) :
    (s.jumpFlush ch n).steady = s.steady := by
  simp [State.jumpFlush]
@[simp] theorem State.jumpFlush_licences (s : State) (ch : ChannelId) (n : Nat) :
    (s.jumpFlush ch n).licences = s.licences := by
  simp [State.jumpFlush]
@[simp] theorem State.jumpFlush_keys (s : State) (ch : ChannelId) (n : Nat) :
    (s.jumpFlush ch n).keys = s.keys := by
  simp [State.jumpFlush]
@[simp] theorem State.jumpFlush_log (s : State) (ch : ChannelId) (n : Nat) :
    (s.jumpFlush ch n).log = s.log := by
  simp [State.jumpFlush]
@[simp] theorem State.jumpFlush_nextSeq (s : State) (ch : ChannelId) (n : Nat) :
    (s.jumpFlush ch n).nextSeq = s.nextSeq := by
  simp [State.jumpFlush]
@[simp] theorem State.jumpFlush_notices (s : State) (ch : ChannelId) (n : Nat) :
    (s.jumpFlush ch n).notices = s.notices := by
  simp [State.jumpFlush]

@[simp] theorem State.jumpWithin_steady (s : State) (ch : ChannelId) (r : AdmissionRecord) (e n : Nat) :
    (s.jumpWithin ch r e n).steady = s.steady := by
  simp [State.jumpWithin]
@[simp] theorem State.jumpWithin_nextSeq (s : State) (ch : ChannelId) (r : AdmissionRecord) (e n : Nat) :
    (s.jumpWithin ch r e n).nextSeq = s.nextSeq := by
  simp [State.jumpWithin]

end Sys2Proof.Machine
end

