-- ==== Sys2Proof/Laws/Memory.lean ====
section
/-! SUPPORT. The laws of the resource banks as byte memories (R152, R156): every write keeps the canonical
form, a read after a write gives the byte written, and every other byte reads as before. -/

namespace Sys2Proof.Machine

/-- The canonical form above a bound holds above every lower bound. -/
theorem Memory.wfAbove_mono {lo lo' : Nat} {m : List Host.Cell} (h : Memory.wfAbove lo m = true)
    (hle : lo' ≤ lo) : Memory.wfAbove lo' m = true := by
  cases m with
  | nil => rfl
  | cons c rest =>
    simp only [Memory.wfAbove, Bool.and_eq_true, decide_eq_true_eq] at h ⊢
    exact ⟨⟨by omega, h.1.2⟩, h.2⟩

/-- A write at or above the bound keeps the canonical form. -/
theorem Memory.write_wfAbove {lo a : Nat} (m : List Host.Cell) (v : Byte)
    (h : Memory.wfAbove lo m = true) (ha : lo ≤ a) : Memory.wfAbove lo (Memory.write m a v) = true := by
  induction m generalizing lo with
  | nil =>
    rw [Memory.write]
    split
    · rfl
    · rename_i hv
      simp only [Memory.wfAbove, Bool.and_eq_true, decide_eq_true_eq]
      exact ⟨⟨ha, hv⟩, trivial⟩
  | cons c rest ih =>
    simp only [Memory.wfAbove, Bool.and_eq_true, decide_eq_true_eq] at h
    obtain ⟨⟨h1, h2⟩, h3⟩ := h
    simp only [Memory.write]
    split
    · split
      · simp only [Memory.wfAbove, Bool.and_eq_true, decide_eq_true_eq]
        exact ⟨⟨h1, h2⟩, h3⟩
      · rename_i hv
        simp only [Memory.wfAbove, Bool.and_eq_true, decide_eq_true_eq]
        exact ⟨⟨ha, hv⟩, ⟨by omega, h2⟩, h3⟩
    · split
      · rename_i hn he
        subst he
        split
        · exact Memory.wfAbove_mono h3 (by omega)
        · rename_i hv
          simp only [Memory.wfAbove, Bool.and_eq_true, decide_eq_true_eq]
          exact ⟨⟨ha, hv⟩, h3⟩
      · simp only [Memory.wfAbove, Bool.and_eq_true, decide_eq_true_eq]
        exact ⟨⟨h1, h2⟩, ih h3 (by omega)⟩

/-- A write keeps the canonical form. -/
theorem Memory.write_wf (m : List Host.Cell) (a : Nat) (v : Byte) (h : Memory.wf m = true) :
    Memory.wf (Memory.write m a v) = true :=
  Memory.write_wfAbove m v h (Nat.zero_le a)

/-- Writing a run of bytes keeps the canonical form. -/
theorem Memory.writeAll_wf (m : List Host.Cell) (a : Nat) (vs : List Byte) (h : Memory.wf m = true) :
    Memory.wf (Memory.writeAll m a vs) = true := by
  induction vs generalizing m a with
  | nil => exact h
  | cons v vs ih => exact ih _ _ (Memory.write_wf m a v h)

/-- Below its bound a canonical bank reads 0. -/
theorem Memory.read_below {lo x : Nat} {m : List Host.Cell} (h : Memory.wfAbove lo m = true)
    (hx : x < lo) : Memory.read m x = 0 := by
  induction m generalizing lo with
  | nil => rfl
  | cons c rest ih =>
    simp only [Memory.wfAbove, Bool.and_eq_true, decide_eq_true_eq] at h
    have hne : c.1 ≠ x := by omega
    simp only [Memory.read, if_neg hne]
    exact ih h.2 (by omega)

/-- A write changes the byte written and no other. -/
theorem Memory.read_write {lo : Nat} (m : List Host.Cell) (a x : Nat) (v : Byte)
    (h : Memory.wfAbove lo m = true) :
    Memory.read (Memory.write m a v) x = if a = x then v else Memory.read m x := by
  induction m generalizing lo with
  | nil =>
    by_cases hv : v = 0
    · subst hv
      by_cases hx : a = x <;> simp [Memory.write, Memory.read, hx]
    · rw [Memory.write, if_neg hv]
      rfl
  | cons c rest ih =>
    simp only [Memory.wfAbove, Bool.and_eq_true, decide_eq_true_eq] at h
    obtain ⟨⟨h1, h2⟩, h3⟩ := h
    simp only [Memory.write]
    split
    · rename_i hlt
      split
      · rename_i hv
        by_cases hx : a = x
        · subst hx
          rw [if_pos rfl, hv]
          simp only [Memory.read, if_neg (show c.1 ≠ a by omega)]
          exact Memory.read_below h3 (by omega)
        · rw [if_neg hx]
      · rfl
    · split
      · rename_i hn he
        subst he
        split
        · rename_i hv
          by_cases hx : c.1 = x
          · subst hx
            rw [if_pos rfl, hv]
            exact Memory.read_below h3 (by omega)
          · simp only [Memory.read, if_neg hx]
        · by_cases hx : c.1 = x
          · rw [Memory.read, if_pos hx, if_pos hx]
          · simp only [Memory.read, if_neg hx]
      · rename_i hn he
        by_cases hc : c.1 = x
        · have hx : a ≠ x := by omega
          simp [Memory.read, hc, hx]
        · simp only [Memory.read, if_neg hc]
          exact ih h3

/-- Writing a run of bytes changes those bytes and no other. -/
theorem Memory.read_writeAll (m : List Host.Cell) (a x : Nat) (vs : List Byte)
    (h : Memory.wf m = true) :
    Memory.read (Memory.writeAll m a vs) x =
      if a ≤ x ∧ x < a + vs.length then vs.getD (x - a) 0 else Memory.read m x := by
  induction vs generalizing m a with
  | nil =>
    rw [if_neg (by simp only [List.length_nil]; omega)]
    rfl
  | cons v vs ih =>
    simp only [Memory.writeAll]
    rw [ih _ _ (Memory.write_wf m a v h), Memory.read_write m a x v h]
    by_cases hx : a = x
    · subst hx
      simp
    · by_cases hr : a + 1 ≤ x ∧ x < a + 1 + vs.length
      · rw [if_pos hr, if_pos (by simp only [List.length_cons]; omega)]
        obtain ⟨k, hk⟩ : ∃ k, x - a = k + 1 := ⟨x - a - 1, by omega⟩
        have : x - (a + 1) = k := by omega
        rw [hk, this]
        rfl
      · rw [if_neg hr, if_neg hx, if_neg (by simp only [List.length_cons]; omega)]

end Sys2Proof.Machine
end

