-- ==== Sys2Proof/Laws/Operations.lean ====
section
/-! SUPPORT. What the shared operations on tables, byte fields, sealed keys, link messages, lanes, the
pending notice set and the cue store do, each said once. -/

namespace Sys2Proof.Machine

/-! ### Tables -/

/-- The licence table with one licence changed (R69). -/
theorem State.licence_modLicence (s : State) (i j : Nat) (f : Licence → Licence) :
    (s.modLicence i f).licence j = if j = i then (s.licence i).map f else s.licence j := by
  unfold State.modLicence
  cases h : s.licence i with
  | none => by_cases hj : j = i <;> simp [hj, h]
  | some l =>
    have hi : i < s.licences.length := by
      by_contra hn
      simp [State.licence, List.getElem?_eq_none (Nat.le_of_not_lt hn)] at h
    by_cases hj : j = i
    · subst hj; simp [State.licence, hi]
    · simp [State.licence, hj, List.getElem?_set_ne (Ne.symm hj)]

/-- Erased key slots are EMPTY and the others unchanged (R75). -/
theorem getElem?_eraseKeySlots (keys : List (Option KeyRecord)) (indices : List Nat) (j : Nat) :
    (eraseKeySlots keys indices)[j]? =
      if j ∈ indices ∧ j < keys.length then some none else keys[j]? := by
  induction indices generalizing keys with
  | nil => simp [eraseKeySlots]
  | cons i rest ih =>
    have h := ih (keys.set i none)
    simp only [eraseKeySlots, List.foldl_cons] at h ⊢
    rw [h]
    by_cases hj : j < keys.length <;> by_cases hi : i = j <;> by_cases hm : j ∈ rest <;>
      simp [hj, hi, hm, Ne.symm]

/-- The lowest-numbered EMPTY slot of a table. -/
theorem lowestEmpty_eq_some {α : Type} (table : List (Option α)) (i : Nat) :
    lowestEmpty table = some i ↔
      table[i]? = some none ∧ ∀ j < i, table[j]? ≠ some none := by
  unfold lowestEmpty
  induction table generalizing i with
  | nil => simp
  | cons o rest ih =>
    cases o with
    | none =>
      cases i with
      | zero => simp [List.findIdx?_cons]
      | succ n =>
        simp only [List.findIdx?_cons, Option.isNone_none, if_true, Option.some.injEq]
        exact ⟨fun h => absurd h (by omega), fun h => absurd rfl (h.2 0 (by omega))⟩
    | some x =>
      cases i with
      | zero => simp [List.findIdx?_cons]
      | succ n =>
        simp only [List.findIdx?_cons, Option.isNone_some, Bool.false_eq_true, if_false,
          Option.map_eq_some_iff, Nat.add_right_cancel_iff, exists_eq_right, ih,
          List.getElem?_cons_succ]
        refine and_congr_right fun _ => ⟨fun h j hj => ?_, fun h j hj => ?_⟩
        · cases j with
          | zero => simp
          | succ m => simpa using h m (by omega)
        · simpa using h (j + 1) (by omega)

/-- The composition table after references moved (R9): each count moves by the difference of the
namings. -/
theorem getElem?_moveReferences (old new : List ShowItem) (table : List (Option CompositionSlot))
    (n : Nat) :
    (moveReferences old new table)[n]? =
      (table[n]?).map (fun o => o.map (fun c =>
        { c with refs := c.refs + namings new n - namings old n })) := by
  simp [moveReferences, List.getElem?_mapIdx]

/-! ### Byte fields (R195) -/

/-- A field has as many bytes as its width. -/
@[simp] theorem length_leBytes (width v : Nat) : (leBytes width v).length = width := by
  induction width generalizing v with
  | zero => rfl
  | succ n ih => simp [leBytes, ih]

/-- A field read back, within its width. -/
theorem leNat_leBytes (width v : Nat) : leNat (leBytes width v) = v % 256 ^ width := by
  induction width generalizing v with
  | zero => simp [leBytes, leNat, Nat.mod_one]
  | succ n ih =>
    simp only [leBytes, leNat, ih, BitVec.toNat_ofNat, Nat.pow_succ']
    exact (Nat.mod_mul (x := v) (a := 256) (b := 256 ^ n)).symm

/-- A field at the front of a format, read back. -/
theorem fieldAt_leBytes_append (width v : Nat) (rest : List Byte) :
    fieldAt (leBytes width v ++ rest) 0 width = v % 256 ^ width := by
  simp [fieldAt, List.take_left', leNat_leBytes]

/-- A field after a front of known length. -/
theorem fieldAt_append_right (front rest : List Byte) (offset width : Nat) :
    fieldAt (front ++ rest) (front.length + offset) width = fieldAt rest offset width := by
  simp [fieldAt, List.drop_append, List.drop_eq_nil_of_le]

/-! ### Queues and credit (R37, R44) -/

@[simp] theorem blocksHeld_nil : blocksHeld [] = 0 := rfl

@[simp] theorem blocksHeld_cons (g : Segment) (rest : List Segment) :
    blocksHeld (g :: rest) = g.blocks + blocksHeld rest := by simp [blocksHeld]

@[simp] theorem blocksHeld_append (a b : List Segment) :
    blocksHeld (a ++ b) = blocksHeld a + blocksHeld b := by simp [blocksHeld]

/-- The finish with the head segment takes it off its queue and grants its blocks again (R44). -/
theorem State.chan_finishHead (s : State) (ch : ChannelId) (g : Segment) (rest : List Segment)
    (h : (s.chan ch).queue = g :: rest) :
    (s.finishHead ch).chan ch =
      { s.chan ch with queue := rest, granted := (s.chan ch).granted + g.blocks } := by
  cases ch <;> (simp only [State.chan] at h; simp [State.finishHead, State.chan, h, State.sendCredit,
    State.modChan, State.setChan])

/-! ### Sealed keys (R78) -/

/-- A sealed material unwraps to itself, whatever the operand says. -/
@[simp] theorem unwrapKey_sealKey (m : Material) (passes : Bool) :
    unwrapKey (sealKey m) passes = some m := by
  have hm : (m.setWidth 256).toNat = m.toNat := by
    simpa using Nat.mod_eq_of_lt (Nat.lt_trans m.isLt (by decide : 2 ^ 128 < 2 ^ 256))
  simp only [unwrapKey, isSealed, sealKey, Equiv.symm_apply_apply, hm, m.isLt, decide_true, if_true]
  exact congrArg some (BitVec.eq_of_toNat_eq (by simp))

/-- Words that pass as sealed are those that a sealing gave. -/
theorem isSealed_iff (w : WrappedKey) : isSealed w = true ↔ ∃ m, w = sealKey m := by
  refine ⟨fun h => ⟨(Config.keySealing.symm w).setWidth 128, ?_⟩, ?_⟩
  · have h : (Config.keySealing.symm w).toNat < 2 ^ 128 := by simpa [isSealed] using h
    refine (Equiv.symm_apply_eq _).mp (BitVec.eq_of_toNat_eq ?_)
    rw [BitVec.toNat_setWidth, BitVec.toNat_setWidth, Nat.mod_eq_of_lt h,
      Nat.mod_eq_of_lt (Nat.lt_trans h (by decide))]
  · rintro ⟨m, rfl⟩
    simpa [isSealed, sealKey] using Nat.lt_of_le_of_lt (Nat.mod_le _ _) m.isLt

/-- Words that no sealing gave unwrap as the operand says. -/
theorem unwrapKey_of_unsealed {w : WrappedKey} (h : ∀ m, w ≠ sealKey m) (passes : Bool) :
    unwrapKey w passes = if passes then some (Config.unsealedMaterial w) else none := by
  have hs : isSealed w = false := by
    rw [← Bool.not_eq_true, isSealed_iff]
    rintro ⟨m, hm⟩
    exact h m hm
  simp [unwrapKey, hs]

/-! ### Messages on the link (R179, R184) -/

/-- The end of a message takes it off the list and leaves its bytes in `sent`. -/
theorem State.popOutgoing_of_cons {s : State} {m : LinkMessage} {rest : List LinkMessage}
    (h : s.link.outgoing = m :: rest) :
    s.popOutgoing = { s with link := { s.link with outgoing := rest, sent := some m.bytes } } := by
  simp [State.popOutgoing, State.modLink, CommandLink.sending, h]

/-! ### The lanes of a sound router (R168, R170) -/

/-- A lane after one edge. -/
theorem SoundRouter.getElem?_edge (r : SoundRouter) (i j spf : Nat) :
    (r.edge j spf).lanes[i]? = (r.lanes[i]?).map (fun l => l.edge r.block j (rampLength r.rate) spf) := by
  simp [SoundRouter.edge]

/-- A lane after a pending image: given its entry of the image, or left as it is without an image. -/
theorem SoundRouter.getElem?_routedLanes {r : SoundRouter} {i : Nat} {l : Lane}
    (h : r.lanes[i]? = some l) :
    r.routedLanes[i]? = match r.pendingMap with
      | some image => (image[i]?).map (fun e => l.route e r.rate)
      | none => some (l, false) := by
  unfold SoundRouter.routedLanes
  cases r.pendingMap with
  | none => simp [h]
  | some image => cases hi : image[i]? <;> simp [List.getElem?_zipWith, h, hi]

/-! ### The pending notice set (R190) -/

/-- A raised entry is pending. -/
theorem any_raised (notices : List Notice) (k : NoticeKind) (c : Option ChannelId)
    (d : NoticeDetail) : (raised notices k c d).any (fun n => n.isOf k c) = true := by
  unfold raised
  split
  · rename_i h
    obtain ⟨n, hn, hk⟩ := List.any_eq_true.mp h
    refine List.any_eq_true.mpr ⟨_, List.mem_map_of_mem hn, ?_⟩
    simp only [hk, if_true]
    exact hk
  · simp [Notice.isOf]

/-- Whether an entry is pending does not change with a raise of another kind. -/
theorem any_raised_of_ne (notices : List Notice) {k k' : NoticeKind} (c c' : Option ChannelId)
    (d : NoticeDetail) (h : k' ≠ k) :
    (raised notices k c d).any (fun n => n.isOf k' c') = notices.any (fun n => n.isOf k' c') := by
  unfold raised
  split
  · rw [List.any_map]
    congr 1
    funext n
    simp only [Function.comp]
    split <;> rfl
  · simp [Notice.isOf, Ne.symm h]

/-- A condition's entry is pending exactly when the condition is put so. -/
theorem any_withCondition (notices : List Notice) (k : NoticeKind) (holds : Bool) :
    (withCondition notices k holds).any (fun n => n.isOf k none) = holds := by
  unfold withCondition
  cases holds with
  | true =>
    simp only [if_true]
    split
    · assumption
    · simp [Notice.isOf]
  | false => simp [List.any_filter]

/-- Whether an entry of another kind is pending does not change with a condition. -/
theorem any_withCondition_of_ne (notices : List Notice) {k k' : NoticeKind} (holds : Bool)
    (c : Option ChannelId) (h : k' ≠ k) :
    (withCondition notices k holds).any (fun n => n.isOf k' c) =
      notices.any (fun n => n.isOf k' c) := by
  unfold withCondition
  cases holds with
  | true =>
    simp only [if_true]
    split
    · rfl
    · simp [Notice.isOf, Ne.symm h]
  | false =>
    simp only [Bool.false_eq_true, if_false, List.any_filter]
    congr 1
    funext n
    by_cases hk : n.kind = k' <;> simp [Notice.isOf, hk, h]

/-! ### Cues -/

/-- All that taking one cue record can do (R155): a drop that leaves the scheduler as it is, or a cue stored
at the end of the store with the last tick in of its context and track. -/
theorem takeCue_cases (comp : Composition) (item reel : Nat) (x : SubsResult) (r : CueRecord) :
    (∃ reason, takeCue comp item reel x r =
      { x with drops := x.drops ++ [r.fault reason item reel] }) ∨
    ∃ c, x.subs.unmarked item reel = some c ∧ judgeCue x.subs c comp r = none ∧
      takeCue comp item reel x r =
        { x with
          subs := { x.subs with
            pendingCues := x.subs.pendingCues ++ [r.cue c comp]
            contexts := x.subs.contexts.map (fun k =>
              if k.serial = c.serial then
                { k with lastTick := k.lastTick.set r.track.toNat (some r.tickIn) }
              else k) } } := by
  cases hc : x.subs.unmarked item reel with
  | none => exact .inl ⟨.bankBusy, by simp [takeCue, hc]⟩
  | some c =>
    cases hj : judgeCue x.subs c comp r with
    | some reason => exact .inl ⟨reason, by simp [takeCue, hc, hj]⟩
    | none => exact .inr ⟨c, rfl, hj, by simp [takeCue, hc, hj]⟩

@[simp] theorem CueRecord.cue_tickIn (r : CueRecord) (c : Context) (comp : Composition) :
    (r.cue c comp).tickIn = r.tickIn := rfl
@[simp] theorem CueRecord.cue_tickOut (r : CueRecord) (c : Context) (comp : Composition) :
    (r.cue c comp).tickOut = r.tickOut := rfl
@[simp] theorem CueRecord.cue_fadeInTicks (r : CueRecord) (c : Context) (comp : Composition) :
    (r.cue c comp).fadeInTicks = r.fadeIn := rfl
@[simp] theorem CueRecord.cue_fadeOutTicks (r : CueRecord) (c : Context) (comp : Composition) :
    (r.cue c comp).fadeOutTicks = r.fadeOut := rfl

/-- The context that step 4 of R154 takes: a LEFT one, not the last frame's, with no SHOWN cue. -/
theorem Subtitles.of_takeable {s : Subtitles} {c : Context} (h : s.takeable = some c) :
    c ∈ s.contexts ∧ c.left = true ∧ s.served ≠ some c.serial ∧
      ∀ q ∈ s.shown, q.cue.context ≠ c.serial := by
  have hp := List.find?_some h
  simp only [Bool.and_eq_true, decide_eq_true_eq, List.all_eq_true] at hp
  exact ⟨List.mem_of_find?_eq_some h, hp.1.1, hp.1.2, hp.2⟩

@[simp] theorem Subtitles.released_served (s : Subtitles) : s.released.served = none := rfl
@[simp] theorem Subtitles.jumpPoint_served (s : Subtitles) : s.jumpPoint.served = s.served := rfl
@[simp] theorem Subtitles.cue_served (s : Subtitles) : s.cue.served = none := rfl
@[simp] theorem Subtitles.release_served (s : Subtitles) (c : Context) :
    (s.release c).served = s.served := rfl
@[simp] theorem Subtitles.setBank_served (s : Subtitles) (bank : Nat) (m : List Host.Cell) :
    (s.setBank bank m).served = s.served := by
  unfold Subtitles.setBank; split <;> rfl

end Sys2Proof.Machine
end

