-- ==== Sys2Proof/Laws/PerInstr.lean ====
section
/-! SUPPORT. Statements made of every command, one lemma per constructor. `Sized`: a well-formed command
is one that a frame or a byte path can carry. -/

namespace Sys2Proof.Laws

open Sys2Proof.Machine

/-- The bytes that a byte row brings. -/
def rowBytes : Instr → Option (List Byte)
  | .commandFrameCompleted bytes | .frameFault bytes | .syncFound bytes | .segmentHeader bytes
  | .segmentArrival bytes | .markerFound bytes => some bytes
  | _ => none

/-- A well-formed request row's request is well-formed, and its body has at most 2 048 bytes (R179,
R197); a well-formed byte row brings at least one byte and at most one segment's (R34). -/
def Sized.Statement (i : Instr) : Prop :=
  i.wellFormed = true →
    (∀ tag r, requestOf i = some (tag, r) →
      r.wellFormed = true ∧ (requestBody r).length ≤ bodyLimit) ∧
    ∀ bytes, rowBytes i = some bytes → 1 ≤ bytes.length ∧ bytes.length ≤ segmentLimit

/-- A request row, by its request. -/
theorem Sized.of_request {i : Instr} {tag : Byte} {r : Request} (hi : requestOf i = some (tag, r))
    (hb : rowBytes i = none)
    (h : i.wellFormed = true → r.wellFormed = true ∧ (requestBody r).length ≤ bodyLimit) :
    Sized.Statement i := by
  intro hw
  refine ⟨fun t q hq => ?_, fun b h' => by simp [hb] at h'⟩
  rw [hi] at hq
  obtain ⟨-, rfl⟩ := Prod.mk.inj (Option.some.inj hq)
  exact h hw

/-- A byte row, by the bound of its bytes. -/
theorem Sized.of_bytes {i : Instr} {bytes : List Byte} {limit : Nat} (hi : requestOf i = none)
    (hb : rowBytes i = some bytes) (hl : limit ≤ segmentLimit)
    (hw : i.wellFormed = (1 ≤ bytes.length && bytes.length ≤ limit : Bool)) : Sized.Statement i := by
  intro h
  rw [hw] at h
  simp only [Bool.and_eq_true, decide_eq_true_eq] at h
  refine ⟨fun t q hq => by simp [hi] at hq, fun b h' => ?_⟩
  rw [hb] at h'
  obtain rfl := Option.some.inj h'
  exact ⟨h.1, h.2.trans hl⟩

/-- A row that brings neither a request nor bytes. -/
theorem Sized.of_event {i : Instr} (hi : requestOf i = none) (hb : rowBytes i = none) :
    Sized.Statement i :=
  fun _ => ⟨fun t q hq => by simp [hi] at hq, fun b h' => by simp [hb] at h'⟩

/-- Equal entries take their width each. -/
theorem length_flatten_map {α : Type} (f : α → List Byte) (width : Nat) (l : List α)
    (h : ∀ a ∈ l, (f a).length = width) : (l.map f).flatten.length = width * l.length := by
  induction l with
  | nil => rfl
  | cons a rest ih =>
    simp only [List.map_cons, List.flatten_cons, List.length_append, h a (by simp),
      ih (fun b hb => h b (by simp [hb])), List.length_cons]
    ring

theorem Sized.identify (tag : Byte) : Sized.Statement (.identify tag) :=
  Sized.of_request rfl rfl fun h => ⟨h, by simp [requestBody, bodyLimit]⟩

theorem Sized.status (tag : Byte) : Sized.Statement (.status tag) :=
  Sized.of_request rfl rfl fun h => ⟨h, by simp [requestBody, bodyLimit]⟩

theorem Sized.softReset (tag : Byte) : Sized.Statement (.softReset tag) :=
  Sized.of_request rfl rfl fun h => ⟨h, by simp [requestBody, bodyLimit]⟩

theorem Sized.clearResetCause (tag mask : Byte) : Sized.Statement (.clearResetCause tag mask) :=
  Sized.of_request rfl rfl fun h => ⟨h, by simp [requestBody, bodyLimit]⟩

theorem Sized.configureChannel (tag channel : Byte) (sampleRate : Word) (priming resume stallLimit : Half) :
    Sized.Statement (.configureChannel tag channel sampleRate priming resume stallLimit) :=
  Sized.of_request rfl rfl fun h => ⟨h, by simp [requestBody, bodyLimit]⟩

theorem Sized.setTracks (tag channel value mask : Byte) :
    Sized.Statement (.setTracks tag channel value mask) :=
  Sized.of_request rfl rfl fun h => ⟨h, by simp [requestBody, bodyLimit]⟩

theorem Sized.setRoute (tag channel : Byte) (lanes : List LaneEntry) :
    Sized.Statement (.setRoute tag channel lanes) :=
  Sized.of_request rfl rfl fun h => by
    have hl : lanes.length = 16 := by simpa [Instr.wellFormed, lanesFit] using h
    have hf := length_flatten_map laneBytes 4 lanes (fun a _ => by simp [laneBytes, length_leBytes])
    refine ⟨h, ?_⟩
    simp only [requestBody, List.length_cons, hf, hl, bodyLimit]
    omega

theorem Sized.setStyle (tag channel style : Byte) (handle : Half) (minimum : Byte) :
    Sized.Statement (.setStyle tag channel style handle minimum) :=
  Sized.of_request rfl rfl fun h => ⟨h, by simp [requestBody, bodyLimit]⟩

theorem Sized.setSubtitleOffset (tag channel track : Byte) (offset : Half) :
    Sized.Statement (.setSubtitleOffset tag channel track offset) :=
  Sized.of_request rfl rfl fun h => ⟨h, by simp [requestBody, bodyLimit]⟩

theorem Sized.channelReport (tag channel : Byte) : Sized.Statement (.channelReport tag channel) :=
  Sized.of_request rfl rfl fun h => ⟨h, by simp [requestBody, bodyLimit]⟩

theorem Sized.loadComposition (tag : Byte) (record : Composition) :
    Sized.Statement (.loadComposition tag record) :=
  Sized.of_request rfl rfl fun h => by
    have hs : record.tracks.length ≤ 255 ∧ record.reels.length ≤ 255 ∧
        21 + 6 * record.tracks.length + 28 * record.reels.length ≤ bodyLimit := by
      simpa [Instr.wellFormed, Composition.fits, and_assoc] using h
    have ht := length_flatten_map trackBytes 6 record.tracks
      (fun a _ => by simp [trackBytes, length_leBytes])
    have hr := length_flatten_map reelBytes 28 record.reels
      (fun a _ => by simp [reelBytes, length_leBytes])
    refine ⟨h, le_of_eq_of_le ?_ hs.2.2⟩
    simp only [requestBody, compositionBytes, List.length_append, length_leBytes, List.length_cons,
      List.length_nil, ht, hr]

theorem Sized.dropComposition (tag slot : Byte) : Sized.Statement (.dropComposition tag slot) :=
  Sized.of_request rfl rfl fun h => ⟨h, by simp [requestBody, bodyLimit]⟩

theorem Sized.readComposition (tag slot : Byte) : Sized.Statement (.readComposition tag slot) :=
  Sized.of_request rfl rfl fun h => ⟨h, by simp [requestBody, bodyLimit]⟩

theorem Sized.loadShow (tag channel : Byte) (items : List ShowItem) :
    Sized.Statement (.loadShow tag channel items) :=
  Sized.of_request rfl rfl fun h => by
    have hl : items.length ≤ 255 := by simpa [Instr.wellFormed, showFits] using h
    have hf := length_flatten_map showItemBytes 3 items (fun a _ => rfl)
    refine ⟨h, ?_⟩
    simp only [requestBody, List.length_append, List.length_cons, List.length_nil, hf, bodyLimit]
    omega

theorem Sized.clearShow (tag channel : Byte) : Sized.Statement (.clearShow tag channel) :=
  Sized.of_request rfl rfl fun h => ⟨h, by simp [requestBody, bodyLimit]⟩

theorem Sized.cue (tag channel item reel : Byte) : Sized.Statement (.cue tag channel item reel) :=
  Sized.of_request rfl rfl fun h => ⟨h, by simp [requestBody, bodyLimit]⟩

theorem Sized.start (tag channel : Byte) : Sized.Statement (.start tag channel) :=
  Sized.of_request rfl rfl fun h => ⟨h, by simp [requestBody, bodyLimit]⟩

theorem Sized.pause (tag channel : Byte) : Sized.Statement (.pause tag channel) :=
  Sized.of_request rfl rfl fun h => ⟨h, by simp [requestBody, bodyLimit]⟩

theorem Sized.resume (tag channel : Byte) : Sized.Statement (.resume tag channel) :=
  Sized.of_request rfl rfl fun h => ⟨h, by simp [requestBody, bodyLimit]⟩

theorem Sized.stop (tag channel : Byte) : Sized.Statement (.stop tag channel) :=
  Sized.of_request rfl rfl fun h => ⟨h, by simp [requestBody, bodyLimit]⟩

theorem Sized.jump (tag channel item reel : Byte) : Sized.Statement (.jump tag channel item reel) :=
  Sized.of_request rfl rfl fun h => ⟨h, by simp [requestBody, bodyLimit]⟩

theorem Sized.acknowledgeSuspension (tag channel : Byte) :
    Sized.Statement (.acknowledgeSuspension tag channel) :=
  Sized.of_request rfl rfl fun h => ⟨h, by simp [requestBody, bodyLimit]⟩

theorem Sized.loadLicence (tag : Byte) (load : LicenceLoad) :
    Sized.Statement (.loadLicence tag load) :=
  Sized.of_request rfl rfl fun h => by
    have hs : 28 + 41 * load.keys.length ≤ bodyLimit := by
      simpa [Instr.wellFormed, LicenceLoad.fits] using h
    have hf := length_flatten_map keyEntryBytes 41 load.keys
      (fun a _ => by simp [keyEntryBytes, length_leBytes])
    refine ⟨h, le_of_eq_of_le ?_ hs⟩
    simp only [requestBody, licenceLoadBytes, List.length_append, length_leBytes, List.length_cons,
      List.length_nil, hf]

theorem Sized.revokeLicence (tag index : Byte) : Sized.Statement (.revokeLicence tag index) :=
  Sized.of_request rfl rfl fun h => ⟨h, by simp [requestBody, bodyLimit]⟩

theorem Sized.deleteLicence (tag index : Byte) : Sized.Statement (.deleteLicence tag index) :=
  Sized.of_request rfl rfl fun h => ⟨h, by simp [requestBody, bodyLimit]⟩

theorem Sized.readLicence (tag index : Byte) : Sized.Statement (.readLicence tag index) :=
  Sized.of_request rfl rfl fun h => ⟨h, by simp [requestBody, bodyLimit]⟩

theorem Sized.counterOpRead (tag index : Byte) (value : Half) :
    Sized.Statement (.counterOpRead tag index value) :=
  Sized.of_request rfl rfl fun h => ⟨h, by simp [requestBody, bodyLimit]⟩

theorem Sized.raiseCap (tag index : Byte) (value : Half) :
    Sized.Statement (.raiseCap tag index value) :=
  Sized.of_request rfl rfl fun h => ⟨h, by simp [requestBody, bodyLimit]⟩

theorem Sized.lowerCap (tag index : Byte) (value : Half) :
    Sized.Statement (.lowerCap tag index value) :=
  Sized.of_request rfl rfl fun h => ⟨h, by simp [requestBody, bodyLimit]⟩

theorem Sized.setTime (tag : Byte) (time : Word) : Sized.Statement (.setTime tag time) :=
  Sized.of_request rfl rfl fun h => ⟨h, by simp [requestBody, bodyLimit]⟩

theorem Sized.adjustTime (tag : Byte) (amount : Half) : Sized.Statement (.adjustTime tag amount) :=
  Sized.of_request rfl rfl fun h => ⟨h, by simp [requestBody, bodyLimit]⟩

theorem Sized.readTime (tag : Byte) : Sized.Statement (.readTime tag) :=
  Sized.of_request rfl rfl fun h => ⟨h, by simp [requestBody, bodyLimit]⟩

theorem Sized.readLog (tag count : Byte) : Sized.Statement (.readLog tag count) :=
  Sized.of_request rfl rfl fun h => ⟨h, by simp [requestBody, bodyLimit]⟩

theorem Sized.releaseLog (tag count : Byte) (oldest : Word) :
    Sized.Statement (.releaseLog tag count oldest) :=
  Sized.of_request rfl rfl fun h => ⟨h, by simp [requestBody, bodyLimit]⟩

theorem Sized.readNotices (tag : Byte) : Sized.Statement (.readNotices tag) :=
  Sized.of_request rfl rfl fun h => ⟨h, by simp [requestBody, bodyLimit]⟩

theorem Sized.clearNotices (tag mode : Byte) (pairs : List NoticePair) :
    Sized.Statement (.clearNotices tag mode pairs) :=
  Sized.of_request rfl rfl fun h => by
    have hl : pairs.length ≤ 255 := by
      have := h
      simp only [Instr.wellFormed, pairsFit, Bool.and_eq_true, decide_eq_true_eq] at this
      exact this.1
    have hf := length_flatten_map (fun p : NoticePair => [p.kind, p.channel]) 2 pairs (fun a _ => rfl)
    refine ⟨h, ?_⟩
    simp only [requestBody]
    split
    · simp [bodyLimit]
    · simp only [List.length_append, List.length_cons, List.length_nil, hf, bodyLimit]
      omega

theorem Sized.maskNotices (tag : Byte) (value change : Half) :
    Sized.Statement (.maskNotices tag value change) :=
  Sized.of_request rfl rfl fun h => ⟨h, by simp [requestBody, bodyLimit]⟩

theorem Sized.commandFrameCompleted (bytes : List Byte) :
    Sized.Statement (.commandFrameCompleted bytes) :=
  Sized.of_bytes (limit := frameLimit) rfl rfl (by decide) rfl

theorem Sized.replySent : Sized.Statement .replySent :=
  Sized.of_event rfl rfl

theorem Sized.frameFault (bytes : List Byte) : Sized.Statement (.frameFault bytes) :=
  Sized.of_bytes (limit := frameLimit) rfl rfl (by decide) rfl

theorem Sized.partialFrameTimeout : Sized.Statement .partialFrameTimeout :=
  Sized.of_event rfl rfl

theorem Sized.retainedLoss : Sized.Statement .retainedLoss :=
  Sized.of_event rfl rfl

theorem Sized.mainPowerUp : Sized.Statement .mainPowerUp :=
  Sized.of_event rfl rfl

theorem Sized.pin : Sized.Statement .pin :=
  Sized.of_event rfl rfl

theorem Sized.mainPowerDown : Sized.Statement .mainPowerDown :=
  Sized.of_event rfl rfl

theorem Sized.segmentHeader (bytes : List Byte) : Sized.Statement (.segmentHeader bytes) :=
  Sized.of_bytes (limit := segmentLimit) rfl rfl le_rfl rfl

theorem Sized.segmentArrival (bytes : List Byte) : Sized.Statement (.segmentArrival bytes) :=
  Sized.of_bytes (limit := segmentLimit) rfl rfl le_rfl rfl

theorem Sized.returnMessageSend : Sized.Statement .returnMessageSend :=
  Sized.of_event rfl rfl

theorem Sized.segmentTake : Sized.Statement .segmentTake :=
  Sized.of_event rfl rfl

theorem Sized.segmentFinish : Sized.Statement .segmentFinish :=
  Sized.of_event rfl rfl

theorem Sized.deadline (channel : ChannelId) : Sized.Statement (.deadline channel) :=
  Sized.of_event rfl rfl

theorem Sized.boothClockTick : Sized.Statement .boothClockTick :=
  Sized.of_event rfl rfl

theorem Sized.licenceUnwrapComplete (results : List Bool) :
    Sized.Statement (.licenceUnwrapComplete results) :=
  Sized.of_event rfl rfl

theorem Sized.sampleClockEdge (channel : ChannelId) : Sized.Statement (.sampleClockEdge channel) :=
  Sized.of_event rfl rfl

theorem Sized.syncFound (bytes : List Byte) : Sized.Statement (.syncFound bytes) :=
  Sized.of_bytes (limit := frameLimit) rfl rfl (by decide) rfl

theorem Sized.markerFound (bytes : List Byte) : Sized.Statement (.markerFound bytes) :=
  Sized.of_bytes (limit := segmentLimit) rfl rfl le_rfl rfl

theorem Sized.outgoingMessageSent : Sized.Statement .outgoingMessageSent :=
  Sized.of_event rfl rfl

theorem Sized.subtitlePortSend : Sized.Statement .subtitlePortSend :=
  Sized.of_event rfl rfl

end Sys2Proof.Laws
end

