-- ==== Sys2Proof/Laws/Requests.lean ====
section
/-! SUPPORT. How a request row reaches its action: which request a row places, when it is performed at
once, and what its answer does to the link. -/

namespace Sys2Proof.Machine

/-- Every request row places its request on the link controller (R182). -/
theorem exec_of_requestOf {c : Instr} {tag : Byte} {r : Request} (s : State)
    (h : requestOf c = some (tag, r)) : exec c s = request tag r s := by
  cases c <;> simp [requestOf] at h <;> obtain ⟨rfl, rfl⟩ := h <;> rfl

/-- A part that takes a request performs it and answers it (R182, R183). -/
theorem request_of_takes {s : State} {tag : Byte} (h : s.takes tag) (r : Request) :
    request tag r s =
      .next ((perform r s).1.answer tag (requestKind r).code (perform r s).2) := by
  obtain ⟨hp, he, ht⟩ := h
  simp only [request, whenPowered, hp, submit, he, enterRequest, if_neg ht, if_true]

/-- A request row of a part that takes it. -/
theorem exec_of_takes {s : State} {c : Instr} {tag : Byte} {r : Request} (h : s.takes tag)
    (hc : requestOf c = some (tag, r)) :
    exec c s = .next ((perform r s).1.answer tag (requestKind r).code (perform r s).2) :=
  (exec_of_requestOf s hc).trans (request_of_takes h r)

/-- An answer that is a reply is produced on the link (R184). -/
theorem State.answer_reply (s : State) (tag kind : Byte) (body : List Byte) :
    s.answer tag kind (.reply body) = s.answered tag kind body := rfl

/-- A refusal is a reply whose first byte is its status (R183). -/
theorem State.answer_refuse (s : State) (tag kind : Byte) (st : Status) (n : Nat) :
    s.answer tag kind (refuse st n) = s.answered tag kind (st.code :: List.replicate n 0) := rfl

/-- An OK reply begins with 0 (R183). -/
theorem State.answer_ok (s : State) (tag kind : Byte) (fields : List Byte) :
    s.answer tag kind (okReply fields) = s.answered tag kind (0 :: fields) := rfl

/-- The code of a request kind names it (R183, R197). -/
theorem requestKindOf_code (k : RequestKind) : requestKindOf k.code = some k := by cases k <;> rfl

/-- A number other than 0 and 1 names no channel. -/
theorem channelOf_eq_none {n : Byte} (h0 : n ≠ 0) (h1 : n ≠ 1) : channelOf n = none := by
  unfold channelOf; rw [if_neg h0, if_neg h1]

/-- The number of a channel names it. -/
@[simp] theorem channelOf_number (ch : ChannelId) : channelOf ch.number = some ch := by
  cases ch <;> rfl

/-- A request on a good channel number acts on its channel. -/
@[simp] theorem onChannel_number (ch : ChannelId) (n : Nat) (s : State)
    (act : ChannelId → State × Answer) : onChannel ch.number n s act = act ch := by
  simp [onChannel]

/-- A fault of the receiver with room among the waiting messages: LINK-FAULT is raised and FRAME-FAULT
waits (R184). -/
theorem State.linkFault_of_room (s : State) (reason : LinkFaultReason)
    (h : s.link.waitingMessages < 16) :
    s.linkFault reason =
      (s.modLink (fun l => { l with
        outgoing := l.outgoing ++
          [{ isReply := false, tag := 0, kind := 0xFF, body := [reason.code] }] })).raise
        .linkFault none (.linkFault reason) := by
  unfold State.linkFault State.sendMessage
  rw [if_pos (show (s.raiseLinkFault reason).link.waitingMessages < 16 from h)]
  rfl

end Sys2Proof.Machine
end

