-- ==== Sys2Proof/Tests/Slice0.lean ====
section
/-! SUPPORT. The model's own tests: the ill-formed terms that WellFormed refuses, the worked examples of
spec/ (each named with its rule), and for every statement of Obligations.lean a concrete state and
operands that meet its hypotheses. -/

namespace Sys2Proof.Tests

open Sys2Proof.Machine

set_option Elab.async false

/-! ### Small states -/

/-- An unkeyed composition of one reel of two frames at 60 frames per second, without sound, with one
track of 60 ticks per second. -/
def title : Composition :=
  { id := 0x11, title := 5, frameRate := 60, sampleRate := 48000, sourceChannels := 0, logged := 0,
    tracks := [{ kind := 0, tickRate := 60, language := 0x676E65 }],
    reels := [{ duration := 2, pictureKey := 0, soundKey := 0, subtitleKey := 0 }] }

/-- The same with key 7 on its picture. -/
def keyedTitle : Composition :=
  { title with
    id := 0x22, reels := [{ duration := 2, pictureKey := 7, soundKey := 0, subtitleKey := 0 }] }

/-- A show item of a slot, from reel 0. -/
def itemOf (slot : Byte) : ShowItem := { slot := slot, entryReel := 0, pauseAfter := 0 }

/-- An OPEN licence over key slot 0, pinned and reserved once. -/
def licence : Licence :=
  { id := 0x99, matchValue := 0, matchMask := 0xFFFFFFFF, windowStart := 50, windowEnd := 200, cap := 3,
    percent := 100, charged := 1, reserved := 1, pins := 1, state := .opened, keys := [0] }

/-- The key record of key id 7, owned by licence 0. -/
def keySeven : KeyRecord := { id := 7, kind := .picture, owner := 0, material := 1 }

/-- The admission record of item 0 after its first frame, naming licence 0 and log record 1. -/
def record : AdmissionRecord :=
  { ident := 0, item := 0, slot := 0, entryReel := 0, licence := some 0, logSeq := some 1,
    countPoint := some 2, charged := false, chargeable := true, presented := 1, held := 0, damaged := 0 }

/-- Its log record. -/
def logRecord : LogRecord :=
  { seq := 1, channel := .a, compositionId := 0x22, title := 5, licenceId := some 0x99, entryReel := 0,
    admitted := 90, firstFrame := some 95, counted := none, ended := none, presented := 1, held := 0,
    damaged := 0, outcome := none, closed := false }

/-- A complete frame of item 0, reel 0, without sound. -/
def frameAt (n : Nat) : Frame :=
  { pos := { item := 0, reel := 0, frame := n }, record := 0,
    picture := { fixedCount := some 1, lastIndex := 1, bytes := [0xAA], damage := none, closed := true },
    sound := none }

/-- The same with its picture part damaged. -/
def damagedAt (n : Nat) : Frame :=
  { frameAt n with picture := { (frameAt n).picture with damage := some .check, bytes := [] } }

/-- The part with two compositions, a licence, its key, an OPEN log record, and the clock SET at 100. -/
def clocked : State :=
  { State.reset with
    clock := { set := true, time := 100, phase := 0, periodStart := none, used := 0 }
    notices := [], attn := false
    compositions := [some { record := keyedTitle, refs := 1 }, some { record := title, refs := 1 }]
    licences := [some licence], keys := [some keySeven], log := [logRecord], nextSeq := 2 }

/-- Channel A playing its first frame of two, the second READY, one edge before the deadline. -/
def playingA : Channel :=
  { Channel.reset with
    showList := some [itemOf 0, itemOf 1], state := .playing
    timer := { state := .running, count := 799, period := some 800 }
    records := [record], nextIdent := 1
    assembly := { Assembly.reset with fetching := some 0, cursor := .picture 0 1, complete := true }
    slots := .presenting (frameAt 0) :: .ready (frameAt 1) :: List.replicate 94 .free
    take := 2, present := 1
    position := some { pos := { item := 0, reel := 0, frame := 0 }, presented := true }
    lastRecord := some 0, lastGood := some 0, lit := true, picture := .new [0xAA] }

/-- The part with channel A playing a keyed item. -/
def showing : State := { clocked with chanA := playingA }

/-- The part with channel A's state changed. -/
def withA (s : State) (f : Channel → Channel) : State := { s with chanA := f s.chanA }

/-- Channel A of a show list of the unkeyed title, in a state. -/
def listedA (st : ChannelState) : State :=
  { State.reset with
    compositions := [some { record := title, refs := 1 }]
    chanA := { Channel.reset with showList := some [itemOf 0], state := st } }

/-- The part with a request in execution whose reply is the message being sent. -/
def busy (stage : ExecStage) : State :=
  { State.reset with
    link := { CommandLink.reset with
      executing := some { tag := 3, kind := 0x04, stage := stage }
      outgoing := [{ isReply := true, tag := 3, kind := 0x84, body := [0] }] } }

/-- The state after a command; every command answers a next state. -/
def after (c : Instr) (s : State) : State :=
  match exec c s with
  | .next t => t
  | .fault _ | .refused _ => s

/-- The body of the reply that a request row gives. -/
def replyOf (c : Instr) (s : State) : List Byte :=
  ((after c s).link.outgoing.getLast?.map (·.body)).getD []

/-! ### WellFormed refuses what no frame or path can carry -/

theorem test_wf_refuses_fifteen_lanes :
    (Instr.setRoute 1 0 (List.replicate 15 { source := 0, gain := 0, delay := 0 })).wellFormed = false := by
  decide

theorem test_wf_refuses_long_composition :
    (Instr.loadComposition 1 { title with
      reels := List.replicate 73 { duration := 1, pictureKey := 0, soundKey := 0, subtitleKey := 0 } }).wellFormed
      = false := by decide +kernel

theorem test_wf_refuses_long_show :
    (Instr.loadShow 1 0 (List.replicate 256 (itemOf 0))).wellFormed = false := by decide +kernel

theorem test_wf_refuses_many_keys :
    (Instr.loadLicence 1
      { id := 1, matchValue := 0, matchMask := 0, windowStart := 0, windowEnd := 1, cap := 1, percent := 1,
        keys := List.replicate 50 { id := 1, kind := 1, wrapped := 0 } }).wellFormed = false := by decide

theorem test_wf_refuses_pairs_in_all_mode :
    (Instr.clearNotices 1 0 [{ kind := 1, channel := 0 }]).wellFormed = false := by decide

theorem test_wf_refuses_empty_byte_rows :
    (Instr.commandFrameCompleted []).wellFormed = false ∧ (Instr.segmentHeader []).wellFormed = false := by
  decide

theorem test_wf_refuses_long_frame :
    (Instr.frameFault (List.replicate 2056 0)).wellFormed = false := by decide +kernel

theorem test_wf_refuses_seventeen_results :
    (Instr.licenceUnwrapComplete (List.replicate 17 true)).wellFormed = false := by decide

/-! ### Checks and conversions: the worked values of spec/ -/

/-- R179: the well-known check value of this CRC-16, that of "123456789". -/
theorem test_crc16_vector :
    crc16 [0x31, 0x32, 0x33, 0x34, 0x35, 0x36, 0x37, 0x38, 0x39] = 0x29B1 := by decide +kernel

/-- R60: the well-known check value of this CRC-32, that of "123456789". -/
theorem test_crc32_vector :
    crc32 [0x31, 0x32, 0x33, 0x34, 0x35, 0x36, 0x37, 0x38, 0x39] = 0xCBF43926 := by decide +kernel

/-- R17: samples per frame. -/
theorem test_samples_per_frame :
    samplesPerFrame 48000 24 = 2000 ∧ samplesPerFrame 96000 25 = 3840 ∧ samplesPerFrame 48000 60 = 800 := by
  decide

/-- File 02, worked example: ticks to frames at 24 frames and 250 ticks per second. -/
theorem test_ticks_to_frames :
    frameOfTick 2503 24 250 = 241 ∧ frameOfTick 3125 24 250 = 300 ∧ frameOfTick 30 24 250 = 3 ∧
      frameOfTick 13 24 250 = 2 := by decide

/-- File 02, worked example: the interval at offsets -2 and +250, and its limits. -/
theorem test_effective_intervals :
    effectiveInterval 241 300 (-2) 48 57600 = .span 239 298 false ∧
      effectiveInterval 241 300 250 48 57600 = .span 491 550 false ∧
      effectiveInterval 24 24 0 0 57600 = .span 24 25 true ∧
      effectiveInterval 1 30 (-5) 48 57600 = .span 0 48 false ∧
      effectiveInterval 57590 57610 5 0 57600 = .span 57595 57600 false ∧
      effectiveInterval 57590 57610 12 0 57600 = .beyondReel := by decide

/-- File 02, worked example: a late cue's fades. -/
theorem test_late_fades : showFadeIn 3 239 298 241 = 1 ∧ showFadeOut 2 239 298 = 2 := by decide

/-- R28: lane delays in samples. -/
theorem test_lane_delays :
    laneDelaySamples 1 48000 = 5 ∧ laneDelaySamples 3 48000 = 14 ∧ laneDelaySamples 3 96000 = 29 ∧
      laneDelaySamples 1000 96000 = 9600 := by decide

/-- R29: ramp-in and decay of 1 000 000 at 48 000 Hz, and the ties at one half. -/
theorem test_scaled_values :
    scaleValue 1000000 1 240 = 4167 ∧ scaleValue 1000000 239 240 = 995833 ∧ scaleValue 120 1 240 = 1 ∧
      scaleValue (-120) 1 240 = -1 := by decide

/-- R30: selected gain factors, and 1 000 000 at step 12. -/
theorem test_gain :
    [0, 1, 12, 20, 40, 60, 80, 100, 120].map (fun g => gainFactorOf (some g)) =
        [32768, 30935, 16423, 10362, 3277, 1036, 328, 104, 33] ∧
      gainTable.length = 121 ∧ applyGain 1000000 16423 = 501190 := by decide

/-- R31: the ramp from step 0 to step 12 at 2 000 samples per frame. -/
theorem test_gain_ramp :
    rampedFactor 32768 16423 0 2000 = 32760 ∧ rampedFactor 32768 16423 999 2000 = 24595 ∧
      rampedFactor 32768 16423 1999 2000 = 16423 := by decide

/-- R32: count points. -/
theorem test_count_points :
    countPointOf 169201 33 = 55837 ∧ countPointOf 111601 50 = 55801 ∧ countPointOf 169201 100 = 169201 ∧
      countPointOf 1 1 = 1 := by decide

/-- R33: leads. -/
theorem test_leads : leadMs 30 24 = 1250 ∧ leadMs 70 60 = 1166 := by decide

/-- R36: blocks of a segment. -/
theorem test_blocks : blocksOf 4064 = 1 ∧ blocksOf 4065 = 2 ∧ blocksOf 65536 = 17 := by decide

/-! ### One command each -/

/-- R188: device code 0x0B02, least significant byte first. -/
theorem test_identify_code : (replyOf (.identify 9) State.reset).take 3 = [0, 0x02, 0x0B] := by
  decide +kernel

/-- R188, R194: after RETAINED LOSS: flags MAIN-POWER and RETAINED-LOST, clock UNSET, 128 free log
records, two notices, both channels IDLE, no licence. -/
theorem test_status_after_reset :
    replyOf (.status 9) State.reset = [0, 3, 0, 128, 2, 2, 0, 0, 0] := by decide +kernel

/-- R186: the reset waits for its reply. -/
theorem test_soft_reset_waits :
    (after (.softReset 9) State.reset).link.executing = some { tag := 9, kind := 0x04, stage := .softReset } ∧
      (after .replySent (busy .softReset)).cause.command = true := by decide +kernel

/-- R187: MAIN-POWER cleared, RETAINED-LOST kept. -/
theorem test_clear_reset_cause : replyOf (.clearResetCause 9 1) State.reset = [0, 3, 2] := by
  decide +kernel

/-- File 01, worked example, step 10: 96 000, 120, 200, 300 gives 96 000, 96, 96, 250. -/
theorem test_configure_clamps :
    replyOf (.configureChannel 9 0 96000 120 200 300) State.reset =
      [0, 0x00, 0x77, 0x01, 0x00, 96, 0, 96, 0, 250, 0] := by decide +kernel

/-- R158: track 0 disabled, the others kept. -/
theorem test_set_tracks : replyOf (.setTracks 9 0 0 1) State.reset = [0, 15, 14] := by decide +kernel

/-- R169: a delay above 1 000 is clamped, and no image was pending before. -/
theorem test_set_route :
    replyOf (.setRoute 9 0 (List.replicate 16 { source := 255, gain := 255, delay := 2000 })) State.reset =
      0 :: (List.replicate 16 [0xE8, 0x03]).flatten ++ [0] := by decide +kernel

/-- R157: a minimum display above 48 is refused. -/
theorem test_set_style_range : replyOf (.setStyle 9 0 15 1 49) State.reset = [4, 0, 0, 0] := by
  decide +kernel

/-- R159: -300 frames is clamped to -250. -/
theorem test_offset_clamps :
    replyOf (.setSubtitleOffset 9 0 3 0xFED4) State.reset = [0, 0x06, 0xFF] := by decide +kernel

/-- R130: PLAYING at item 0, reel 0, frame 0, presented. -/
theorem test_channel_report_head :
    (replyOf (.channelReport 9 0) showing).take 10 = [0, 4, 1, 0, 0, 0, 0, 0, 0, 1] := by decide +kernel

/-- File 01, worked example, step 3: an id already in the table. -/
theorem test_load_composition_twice : replyOf (.loadComposition 9 title) clocked = [7, 255] := by
  decide +kernel

/-- File 01, worked example, step 8: a referenced slot is kept. -/
theorem test_drop_referenced : replyOf (.dropComposition 9 1) clocked = [7, 1] := by decide +kernel

/-- R6: an EMPTY slot reads as 0. -/
theorem test_read_empty_composition :
    replyOf (.readComposition 9 31) State.reset = List.replicate 24 0 := by decide +kernel

/-- R8: entry reel 1 of a composition of one reel; the item's number is 0. -/
theorem test_load_show_bad_reel :
    replyOf (.loadShow 9 1 [{ slot := 0, entryReel := 1, pauseAfter := 0 }]) clocked = [4, 0, 0] := by
  decide +kernel

/-- R9, R10: the references of a cleared list are given back. -/
theorem test_clear_show_gives_back :
    ((after (.clearShow 9 0) (listedA .loaded)).compositionSlot 0).map (·.refs) = some 0 := by
  decide +kernel

/-- R117, R46: item 0, reel 0, epoch 1; RESTART goes before FETCH. -/
theorem test_cue_reply :
    replyOf (.cue 9 0 255 255) (listedA .loaded) = [0, 0, 0, 1] ∧
      (after (.cue 9 0 255 255) (listedA .loaded)).returns.drop 2 =
        [.restart .a 1 512, .fetch .a 1 0 0x11 0] := by decide +kernel

/-- R119: the timer is ARMED. -/
theorem test_start_arms :
    (after (.start 9 0) (listedA .primed)).chanA.timer.state = .armed := by decide +kernel

/-- R124. -/
theorem test_pause : (after (.pause 9 0) showing).chanA.state = .paused := by decide +kernel

/-- R150: RESUME with the latch set. -/
theorem test_resume_latched :
    replyOf (.resume 9 0) (withA showing (fun c => { c with state := .suspended, latch := true })) =
      [0x11, 0] := by decide +kernel

/-- R129: a show that presented a frame ends STOPPED. -/
theorem test_stop_outcome :
    (after (.stop 9 0) showing).log.map (·.outcome) = [some .stopped] ∧
      (after (.stop 9 0) showing).chanA.state = .ended := by decide +kernel

/-- R135, R136: one READY frame is committed; the epoch rises; the channel stays PLAYING. -/
theorem test_jump_reply : replyOf (.jump 9 0 0 0) showing = [0, 1, 1, 4] := by decide +kernel

/-- R149. -/
theorem test_acknowledge_in_playing : replyOf (.acknowledgeSuspension 9 0) showing = [5, 0, 0, 0] := by
  decide +kernel

/-- A licence load of one key. -/
def load : LicenceLoad :=
  { id := 0x77, matchValue := 0, matchMask := 0xFFFFFFFF, windowStart := 50, windowEnd := 150, cap := 1,
    percent := 33, keys := [{ id := 8, kind := 1, wrapped := 0 }] }

/-- R77: a cap of 0 concerns no key. -/
theorem test_load_licence_cap :
    replyOf (.loadLicence 9 { load with cap := 0 }) State.reset = [4, 255, 0, 255] := by decide +kernel

/-- R80: an OPEN licence with a pin becomes REVOKING. -/
theorem test_revoke_pinned : replyOf (.revokeLicence 9 0) showing = [0, 4, 1] := by decide +kernel

/-- R82: OPEN is refused WRONG-STATE. -/
theorem test_delete_open : replyOf (.deleteLicence 9 0) showing = [5] := by decide +kernel

/-- R83: an EMPTY index reads as 0. -/
theorem test_read_empty_licence : replyOf (.readLicence 9 63) State.reset = List.replicate 34 0 := by
  decide +kernel

/-- R84: READ changes nothing: cap 3 twice, charged 1, reserved 1, not changed. -/
theorem test_counter_read : replyOf (.counterOpRead 9 0 9) showing = [0, 3, 0, 3, 0, 1, 0, 1, 0] := by
  decide +kernel

/-- R85: the cap does not come down by RAISE-CAP. -/
theorem test_raise_cap : replyOf (.raiseCap 9 0 2) showing = [0, 3, 0, 3, 0, 1, 0, 1, 0] := by
  decide +kernel

/-- R85: the cap stays at charged plus reserved. -/
theorem test_lower_cap : replyOf (.lowerCap 9 0 0) showing = [0, 3, 0, 2, 0, 1, 0, 1, 1] := by
  decide +kernel

/-- R87: SET-TIME in SET. -/
theorem test_set_time_twice : replyOf (.setTime 9 5) showing = [5, 0, 0, 0, 0] := by decide +kernel

/-- R88: 10 seconds back from 100, in a new period. -/
theorem test_adjust_time : replyOf (.adjustTime 9 0xFFF6) showing = [0, 90, 0, 0, 0, 10, 0] := by
  decide +kernel

/-- R89. -/
theorem test_read_time :
    replyOf (.readTime 9) showing = [0, 100, 0, 0, 0, 1, 0, 0, 0, 0, 0, 0, 0] := by decide +kernel

/-- R108, R200: a count of 0 is 1; a record has 60 bytes; 127 records are free. -/
theorem test_read_log :
    (replyOf (.readLog 9 0) showing).take 7 = [0, 1, 127, 1, 0, 0, 0] ∧
      (replyOf (.readLog 9 0) showing).length = 63 := by decide +kernel

/-- R109: an OPEN record is not released. -/
theorem test_release_open : replyOf (.releaseLog 9 1 1) showing = [7, 0, 0, 0, 0, 0] := by decide +kernel

/-- R192: of the two notices of start-up, CLOCK-UNSET (code 3) goes before RESET-OCCURRED (code 4). -/
theorem test_read_notices_order :
    (replyOf (.readNotices 9) State.reset).take 10 = [0, 2, 2, 3, 255, 6, 1, 0, 0, 4] := by decide +kernel

/-- R193: the condition CLOCK-UNSET stays. -/
theorem test_clear_notices : replyOf (.clearNotices 9 0 []) State.reset = [0, 1, 1, 1] := by decide +kernel

/-- R191: with every kind masked ATTN is not asserted. -/
theorem test_mask_all : (after (.maskNotices 9 0x7FFF 0x7FFF) State.reset).attn = false := by
  decide +kernel

/-- R179, R180: the seven bytes of a STATUS frame with tag 1, its CRC-16 computed apart. -/
theorem test_status_frame :
    (after (.commandFrameCompleted [0xC5, 0x02, 0x00, 0x01, 0x02, 0xDB, 0x7A]) State.reset).link.outgoing =
      [{ isReply := true, tag := 1, kind := 0x82, body := [0, 3, 0, 128, 2, 2, 0, 0, 0] }] := by
  decide +kernel

/-- R179, R182: the sent reply leaves, and the place is empty; its eight bytes, with their CRC-16 computed
apart. -/
theorem test_reply_sent :
    (after .replySent (busy .replying)).link =
      { CommandLink.reset with
        sent := some [0xC5, 0x03, 0x00, 0x03, 0x84, 0x00, 0xD2, 0x71] } := by decide +kernel

/-- R180: a length of 1. -/
theorem test_frame_fault :
    (after (.frameFault [0xC5, 0x01, 0x00]) State.reset).link.outgoing =
      [{ isReply := false, tag := 0, kind := 0xFF, body := [2] }] := by decide +kernel

/-- R181: silence after SYNC. -/
theorem test_partial_frame :
    (after .partialFrameTimeout (after (.syncFound [0xC5]) State.reset)).link.rx = .hunt := by
  decide +kernel

/-- R91, R110: the log and the licences are lost. -/
theorem test_retained_loss :
    (after .retainedLoss showing).log = [] ∧ (after .retainedLoss showing).licence 0 = none := by
  decide +kernel

/-- R91, R110: the pin is gone; the showing that had begun is INTERRUPTED. -/
theorem test_main_power_up :
    ((after .mainPowerUp showing).licence 0).map (·.pins) = some 0 ∧
      (after .mainPowerUp showing).log.map (·.outcome) = [some .interrupted] := by decide +kernel

/-- R187. -/
theorem test_pin : (after .pin State.reset).cause.pin = true := by decide +kernel

/-- R91. -/
theorem test_main_power_down :
    (after .mainPowerDown showing).powered = false ∧ (after .mainPowerDown showing).log = [logRecord] := by
  decide +kernel

/-- R198: the header of a picture segment of one byte 0xAA, its checks computed apart. -/
def header : List Byte :=
  [0xE7, 0x3C, 0x91, 0x0D, 0x00, 0x00, 0x01, 0x00, 0x00, 0x01, 0x01, 0x00, 0x00, 0x00, 0x00, 0x00,
   0x00, 0x00, 0x00, 0x00, 0x01, 0x00, 0x00, 0x00, 0x7B, 0xA5, 0x01, 0xE4, 0x00, 0x00, 0xA3, 0x79]

/-- The receiver after that header. -/
def headed : State := { State.reset with path := { rx := .payload, held := header } }

/-- R38: a good header leads to PAYLOAD. -/
theorem test_segment_header :
    (after (.segmentHeader (header.drop 4)) (after (.markerFound (header.take 4)) State.reset)).path =
      headed.path := by decide +kernel

/-- R39: the segment joins the queue and takes one block. -/
theorem test_segment_arrival :
    (after (.segmentArrival [0xAA]) headed).chanA.granted = 511 ∧
      (after (.segmentArrival [0xAA]) headed).chanA.queue.map (·.payload) = [[0xAA]] := by decide +kernel

/-- R199: RESTART of channel A, epoch 0, 512 blocks, its CRC-16 computed apart. -/
theorem test_return_message :
    (after .returnMessageSend State.reset).returnOut =
      some [0xA3, 0x04, 0x00, 0x00, 0x00, 0x02, 0x48, 0xB8] := by decide +kernel

/-- The segment of that header. -/
def segment : Segment := segmentOf (header ++ [0xAA])

/-- Channel A fetching its unkeyed item from the start, with that segment at the head of its queue. -/
def fetching : State :=
  withA (listedA .cueing) (fun c =>
    { c with
      records :=
        [{ record with
            licence := none, logSeq := none, countPoint := none, presented := 0 }]
      nextIdent := 1, assembly := { Assembly.reset with fetching := some 0 }
      queue := [segment], granted := 511 })

/-- R54: the last-served channel was B; channel A is served, with no key. -/
theorem test_segment_take :
    (after .segmentTake fetching).work = some { channel := .a, key := .plain } := by decide +kernel

/-- R44, R63: the frame is READY and the block is granted again. -/
theorem test_segment_finish :
    (after .segmentFinish (after .segmentTake fetching)).chanA.granted = 512 ∧
      (after .segmentFinish (after .segmentTake fetching)).chanA.readyCount = 1 := by decide +kernel

/-- R102, R104: the second of two frames at 100 percent is the count point: the licence is charged. -/
theorem test_deadline_charges :
    ((after (.deadline .a) showing).licence 0).map (fun l => (l.charged, l.reserved)) = some (2, 0) ∧
      (after (.deadline .a) showing).log.map (·.presented) = [2] := by decide +kernel

/-- R19: the 800th edge of the period is the deadline. -/
theorem test_edge_is_deadline :
    (after (.sampleClockEdge .a) showing).chanA.position =
      some { pos := { item := 0, reel := 0, frame := 1 }, presented := true } := by decide +kernel

/-- R86. -/
theorem test_tick : (after .boothClockTick showing).clock.time = 101 := by decide +kernel

/-- The load with its key sealed by the issuer. -/
def sealedLoad : LicenceLoad := { load with keys := [{ id := 8, kind := 1, wrapped := sealKey 5 }] }

/-- The load with 32 bytes that no sealing gave. -/
def unsealedLoad : LicenceLoad :=
  { load with keys := [{ id := 8, kind := 1, wrapped := Config.keySealing (BitVec.allOnes 256) }] }

theorem allOnes_unsealed (m : Material) : Config.keySealing (BitVec.allOnes 256) ≠ sealKey m := by
  intro h
  have hs : isSealed (Config.keySealing (BitVec.allOnes 256)) = true := (isSealed_iff _).mpr ⟨m, h⟩
  simp [isSealed] at hs

/-- R78: a sealed key gives its material, whatever the operand says. -/
theorem test_unwrap_sealed : unwrappedMaterials sealedLoad [] = [some 5] := by
  simp [unwrappedMaterials, sealedLoad]

/-- R78, R79: the unwrapped key is stored, and the licence is OPEN at 100. -/
theorem test_unwrap_stored :
    (let done := completeLicence sealedLoad [some 5] { clocked with licences := [none], keys := [none] }
     done.1.keys = [some { id := 8, kind := .picture, owner := 0, material := 5 }] ∧
      done.2 = [0, 0, 2]) := by decide +kernel

/-- R179, R184: the report of a length of 1 leaves; its CRC-16 computed apart. -/
theorem test_outgoing_sent :
    (let l := (after .outgoingMessageSent (after (.frameFault [0xC5, 0x01, 0x00]) State.reset)).link
     l.outgoing = [] ∧ l.sent = some [0xC5, 0x03, 0x00, 0x00, 0xFF, 0x02, 0x63, 0xDC]) := by
  decide +kernel

/-- R29, R177: 1 000 000 decays over its own 480 samples, also when CUE has since taken 48 000 Hz. -/
theorem test_decay_keeps_its_length :
    (let l := { Lane.reset 0 with decay := some { value := 1000000, length := 480, next := 239 } }
     l.sourceValue none 0 (rampLength 48000) 800 = 500000 ∧
      (l.edge none 0 (rampLength 48000) 800).decay = some { value := 1000000, length := 480, next := 240 }) := by
  decide +kernel

/-- R162, R166: the first of the eight CLEAR events leaves. -/
theorem test_subtitle_sent :
    (after .subtitlePortSend State.reset).subtitlePort.length = 7 := by decide +kernel

/-- R182: without main power nothing is executed (the model's choice, log entry 12). -/
theorem test_no_power : after (.status 9) { State.reset with powered := false } =
    { State.reset with powered := false } := by decide +kernel

/-! ### For every statement with hypotheses, a state and operands that meet them

Each theorem is named after its statement; where the statement has several clauses, each clause has its
own operands, at a boundary of its range where it has one. -/

theorem witness_StepRunsTheFrontCommand : State.reset.pending = [] := rfl

theorem reset_takes : State.reset.takes 9 := ⟨rfl, rfl, by decide⟩

theorem showing_takes : showing.takes 255 := ⟨rfl, rfl, by decide⟩

theorem witness_RefusedRequestsChangeNothing :
    perform (.start 2) State.reset = (State.reset, .reply [0x04]) ∧ (0x04 : Byte) ≠ 0 ∧
      perform (.loadLicence load) State.reset = (State.reset, .unwrap load) ∧
      perform .softReset State.reset = (State.reset, .replyThenReset [0]) := by decide +kernel

/-- A part with a request in execution, a frame waiting behind it, and a number of messages to send. -/
def crowded (n : Nat) : State :=
  { State.reset with
    link := { CommandLink.reset with
      executing := some { tag := 3, kind := 0x02, stage := .replying }
      waiting := some { tag := 4, kind := 0x02, body := [] }
      outgoing := List.replicate n { isReply := false, tag := 5, kind := 0x82, body := [1] } } }

theorem witness_RequestsBehindAnotherWaitOrAreBusy :
    requestOf (.status 9) = some (9, .status) ∧
      ((busy .replying).powered = true ∧ (busy .replying).link.executing.isSome = true ∧
        (busy .replying).link.waiting = none) ∧
      ((crowded 15).powered = true ∧ (crowded 15).link.executing.isSome = true ∧
        (crowded 15).link.waiting.isSome = true ∧ (crowded 15).link.waitingMessages < 16) ∧
      (crowded 16).powered = true ∧ (crowded 16).link.executing.isSome = true ∧
        (crowded 16).link.waiting.isSome = true ∧ 16 ≤ (crowded 16).link.waitingMessages := by
  decide +kernel

theorem witness_BadTagsAndChannelsAreRefused :
    (requestOf (.start 0 0) = some (0, .start 0) ∧ State.reset.powered = true ∧
        State.reset.link.executing = none) ∧
      requestOf (.start 9 2) = some (9, .start 2) ∧ (Instr.start 9 2).wellFormed = true ∧
      channelByte (.start 2) = some 2 := by decide +kernel

theorem witness_ReadingRequestsReplyWithTheState : ∃ s : State, s.takes 9 := ⟨_, reset_takes⟩

theorem witness_SoftResetActsAfterItsReply :
    State.reset.takes 9 ∧
      ∃ e m rest, (busy .softReset).powered = true ∧ (busy .softReset).link.executing = some e ∧
        e.stage = .softReset ∧ (busy .softReset).link.outgoing = m :: rest ∧ m.isReply = true :=
  ⟨reset_takes, _, _, _, rfl, rfl, rfl, rfl, rfl⟩

theorem witness_StartUpSettlesTheRetainedDomain : showing.powered = true := rfl

theorem witness_PowerDownKeepsOnlyTheRetainedDomain :
    (after .mainPowerDown showing).powered = false ∧ Instr.replySent ≠ .retainedLoss ∧
      Instr.replySent ≠ .mainPowerUp ∧ Instr.replySent ≠ .mainPowerDown ∧
      Instr.replySent ≠ .boothClockTick := by decide +kernel

theorem witness_ReplySentFreesTheExecutionPlace :
    ∃ e m rest, (busy .replying).powered = true ∧ (busy .replying).link.executing = some e ∧
      e.stage = .replying ∧ (busy .replying).link.outgoing = m :: rest ∧ m.isReply = true ∧
      (busy .replying).link.waiting = none :=
  ⟨_, _, _, rfl, rfl, rfl, rfl, rfl, rfl⟩

theorem witness_ReplySentFreesTheExecutionPlace_waiting :
    ∃ (s : State) (e : Executing) (m : LinkMessage) (rest : List LinkMessage) (f : CommandFrame),
      s.powered = true ∧ s.link.executing = some e ∧ e.stage = .replying ∧ s.link.outgoing = m :: rest ∧
      m.isReply = true ∧ s.link.waiting = some f :=
  ⟨{ busy .replying with
      link := { (busy .replying).link with waiting := some { tag := 4, kind := 0x02, body := [] } } },
    _, _, _, _, rfl, rfl, rfl, rfl, rfl, rfl⟩

theorem witness_FrameBytesActAsTheirRequest :
    requestOf (.loadComposition 9 title) = some (9, .loadComposition title) ∧
      (Request.loadComposition title).wellFormed = true ∧ readsBack (.loadComposition title) = true ∧
      State.reset.link.rx = .hunt ∧ State.reset.link.held = [] ∧ State.reset.link.stray = .none := by
  decide +kernel

theorem witness_BodiesReadBack :
    (let r := Request.loadLicence { load with keys := List.replicate 16 { id := 8, kind := 1, wrapped := 0 } }
     r.wellFormed = true ∧ readsBack r = true) ∧
      (let r := Request.clearNotices 1 (List.replicate 255 { kind := 1, channel := 255 })
       r.wellFormed = true ∧ readsBack r = true) ∧
      (let r := Request.loadComposition { title with
         reels := List.replicate 64 { duration := 1, pictureKey := 0, soundKey := 0, subtitleKey := 0 } }
       r.wellFormed = true ∧ readsBack r = true) := by decide +kernel

theorem witness_TheReceiverOpensFramesAndReportsFaults_check :
    State.reset.powered = true ∧ State.reset.link.waitingMessages < 16 ∧ State.reset.link.rx = .hunt ∧
      State.reset.link.stray = .none ∧ 2 ≤ [(1 : Byte), 2].length ∧ [(1 : Byte), 2].length ≤ 2050 ∧
      [(0 : Byte), 0] ≠ leBytes 2 (crc16 (leBytes 2 [(1 : Byte), 2].length ++ [1, 2])).toNat := by
  decide +kernel

/-- A receiver that holds the first LENGTH byte, or FRAME's bytes, in a state. -/
def receiving (rx : LinkState) (held : List Byte) : State :=
  { State.reset with link := { CommandLink.reset with rx := rx, held := held } }

theorem witness_TheReceiverOpensFramesAndReportsFaults_length :
    (receiving .length [0x01]).link.rx = .length ∧ (receiving .length [0x01]).link.held = [0x01] ∧
      (0x01 : Byte) ≠ 0xC5 ∧ (0x08 : Byte) ≠ 0xC5 ∧
      ((0x01 : Byte).toNat + 256 * (0x00 : Byte).toNat < 2) ∧
      2050 < (0x03 : Byte).toNat + 256 * (0x08 : Byte).toNat ∧
      2050 < (0xC5 : Byte).toNat + 256 * (0x08 : Byte).toNat ∧
      2050 < (0x01 : Byte).toNat + 256 * (0xC5 : Byte).toNat := by decide +kernel

/-- R180: after a LENGTH fault the search begins again at the first LENGTH byte, so a SYNC in either is found. -/
theorem test_sync_among_length_bytes :
    ((after (.frameFault [0x08]) (receiving .length [0xC5])).link.rx,
        (after (.frameFault [0x08]) (receiving .length [0xC5])).link.held) = (.length, [0x08]) ∧
      ((after (.frameFault [0xC5]) (receiving .length [0x01])).link.rx,
        (after (.frameFault [0xC5]) (receiving .length [0x01])).link.held) = (.length, []) := by decide +kernel

theorem witness_TheReceiverOpensFramesAndReportsFaults_silence :
    (receiving .frame [0x02, 0x00]).powered = true ∧ (receiving .frame [0x02, 0x00]).link.rx = .frame ∧
      (receiving .frame [0x02, 0x00]).link.waitingMessages < 16 ∧ State.reset.link.rx = .hunt ∧
      State.reset.link.stray = .none := by decide +kernel

/-- A receiver in HUNT that has discarded bytes. -/
def strayed (x : StrayRun) : State :=
  { State.reset with link := { CommandLink.reset with stray := x } }

theorem witness_TheReceiverOpensFramesAndReportsFaults_stray :
    (strayed .run).powered = true ∧ (strayed .run).link.rx = .hunt ∧ (0xC4 : Byte) ≠ 0xC5 ∧
      (strayed .run).link.stray = .run ∧ (strayed .run).link.waitingMessages < 16 ∧
      (strayed .afterFault).powered = true ∧ (strayed .afterFault).link.rx = .hunt ∧
      (strayed .afterFault).link.stray = .afterFault ∧ (strayed .faultRun).link.stray = .faultRun := by
  decide +kernel

theorem witness_PortsSendTheOldestFirst :
    (∃ m rest, (crowded 1).link.outgoing = m :: rest ∧ m.isReply = false) ∧ (crowded 1).powered = true ∧
      (∃ m rest, State.reset.returns = m :: rest) ∧ (∃ e rest, State.reset.subtitlePort = e :: rest) ∧
      State.reset.powered = true :=
  ⟨⟨_, _, rfl, rfl⟩, rfl, ⟨_, _, rfl⟩, ⟨_, _, rfl⟩, rfl⟩

/-- The showing part with its deadline waiting. -/
def stepping : State := { showing with pending := [.deadline .a] }

theorem stepping_steps : ∃ t : State, step stepping = .next t := ⟨_, rfl⟩

theorem witness_LinkLawIsKept : LinkLaw stepping ∧ ∃ t, step stepping = .next t :=
  ⟨⟨by decide +kernel, by decide +kernel⟩, stepping_steps⟩

theorem witness_NoticeSetAndCauseFlagsChangeAsAsked_listed :
    State.reset.takes 9 ∧
      (let pairs : List NoticePair := List.replicate 24 { kind := 15, channel := 255 }
       1 ≤ pairs.length ∧ pairs.length ≤ 24 ∧
        ∀ p ∈ pairs, 1 ≤ p.kind.toNat ∧ p.kind.toNat ≤ 15 ∧
          (p.channel = 0 ∨ p.channel = 1 ∨ p.channel = 255)) :=
  ⟨reset_takes, by decide +kernel⟩

theorem witness_NoticeSetAndCauseFlagsChangeAsAsked_masks :
    State.reset.takes 9 ∧ (0x7FFF : Half).msb = false ∧ (15 : Byte).toNat ≤ 15 :=
  ⟨reset_takes, by decide, by decide⟩

theorem witness_ReadNoticesListsTheSetInOrder : ∃ s : State, s.takes 9 := ⟨_, reset_takes⟩

theorem witness_NoticeLawsAreKept :
    AttnLaw stepping ∧ NoticeLaw stepping ∧ ConditionLaw stepping ∧ ∃ t, step stepping = .next t :=
  ⟨rfl, ⟨List.Pairwise.nil, by simp [stepping, showing, clocked]⟩, fun _ => by decide +kernel,
    stepping_steps⟩

theorem title_valid : ValidComposition title := by
  refine ⟨by decide, by decide, by decide, by decide, by decide, by decide, by decide, by decide,
    by decide, by decide, by decide, by decide, by decide⟩

theorem witness_CompositionTableLoadsAndDrops_load :
    State.reset.takes 9 ∧ ValidComposition title ∧
      (∀ n o, State.reset.compositionSlot n = some o → o.record.id ≠ title.id) ∧
      State.reset.compositions[0]? = some none ∧ ∀ j < 0, State.reset.compositions[j]? ≠ some none := by
  refine ⟨reset_takes, title_valid, fun n o h => ?_, rfl, by omega⟩
  have hn : State.reset.compositionSlot n = none := by
    simp only [State.compositionSlot, State.reset, List.getElem?_replicate]
    split <;> rfl
  rw [hn] at h
  cases h

theorem witness_CompositionTableLoadsAndDrops_drop :
    showing.takes 255 ∧ (∃ o, showing.compositionSlot (1 : Byte).toNat = some o ∧ o.refs ≠ 0) ∧
      (∃ o, (after (.loadComposition 9 title) State.reset).compositionSlot (0 : Byte).toNat = some o ∧
        o.refs = 0) ∧
      State.reset.compositionSlot (31 : Byte).toNat = none ∧ (31 : Byte).toNat < 32 ∧
      32 ≤ (32 : Byte).toNat :=
  ⟨showing_takes, ⟨_, rfl, by decide⟩, ⟨_, rfl, rfl⟩, by decide +kernel, by decide, by decide⟩

theorem witness_ReadCompositionShowsTheSlot :
    showing.takes 255 ∧ (∃ o, showing.compositionSlot (1 : Byte).toNat = some o) ∧
      showing.compositionSlot (31 : Byte).toNat = none ∧ 32 ≤ (32 : Byte).toNat :=
  ⟨showing_takes, ⟨_, rfl⟩, by decide +kernel, by decide⟩

theorem witness_ShowListsTakeAndGiveReferences :
    (listedA .ended).takes 9 ∧ ((listedA .ended).chan .a).state ∈ [ChannelState.idle, .loaded, .ended] ∧
      (let items := List.replicate 16 (itemOf 0)
       1 ≤ items.length ∧ items.length ≤ 16 ∧
        ∀ i ∈ items, i.slot.toNat < 32 ∧ i.pauseAfter.toNat ≤ 1 ∧
          ∃ c, (listedA .ended).composition i.slot.toNat = some c ∧ i.entryReel.toNat < c.reels.length ∧
            c.sampleRate.toNat = ((listedA .ended).chan .a).config.sampleRate) ∧
      ((listedA .loaded).chan .a).state ∈ [ChannelState.loaded, .ended] := by
  refine ⟨⟨rfl, rfl, by decide⟩, by decide +kernel, ⟨by decide, by decide, fun i hi => ?_⟩,
    by decide +kernel⟩
  rw [List.eq_of_mem_replicate hi]
  exact ⟨by decide, by decide, title, rfl, by decide, rfl⟩

theorem witness_ConfigurationIsClamped :
    State.reset.takes 9 ∧ (State.reset.chan .b).state = .idle ∧ (96000 : Word).toNat = 96000 ∧
      showing.takes 255 ∧ (showing.chan .a).config.sampleRate ≠ (96000 : Word).toNat ∧
      (showing.chan .a).state ≠ .idle ∧ (showing.chan .a).config.sampleRate = (48000 : Word).toNat :=
  ⟨reset_takes, rfl, rfl, showing_takes, by decide +kernel, by decide +kernel, rfl⟩

/-- The reference law of the showing part. -/
theorem stepping_referenceLaw : ReferenceLaw stepping := by
  refine ⟨fun ch i hi => ?_, fun n o h => ?_⟩
  · cases ch
    · rcases List.mem_cons.mp hi with rfl | hi
      · rfl
      · rw [List.mem_singleton.mp hi]; rfl
    · cases hi
  · match n, h with
    | 0, h => cases h; decide +kernel
    | 1, h => cases h; decide +kernel
    | n + 2, h => cases h

theorem witness_ReferenceLawIsKept : ReferenceLaw stepping ∧ ∃ t, step stepping = .next t :=
  ⟨stepping_referenceLaw, stepping_steps⟩

theorem witness_SettingsAreStored :
    showing.takes 255 ∧ (15 : Byte).toNat ≤ 15 ∧ (48 : Byte).toNat ≤ 48 ∧
      (∃ old, (showing.chan .a).subs.styles[(15 : Byte).toNat]? = some old) ∧ (3 : Byte).toNat ≤ 3 ∧
      (let lanes : List LaneEntry := List.replicate 16 { source := 255, gain := 120, delay := 0xFFFF }
       lanes.length = 16 ∧
        ∀ e ∈ lanes, (e.source.toNat ≤ 15 ∨ e.source = 255) ∧ (e.gain.toNat ≤ 120 ∨ e.gain = 255)) :=
  ⟨showing_takes, by decide, by decide, ⟨_, rfl⟩, by decide, by decide +kernel⟩

theorem witness_LicencesLoadThroughTheirUnwrap_begin :
    State.reset.takes 9 ∧ 1 ≤ load.keys.length ∧ load.keys.length ≤ 16 ∧ load.id ≠ 0 ∧
      load.windowStart.toNat < load.windowEnd.toNat ∧ load.cap ≠ 0 ∧ 1 ≤ load.percent.toNat ∧
      load.percent.toNat ≤ 100 ∧
      (∀ k ∈ load.keys, k.id ≠ 0 ∧ 1 ≤ k.kind.toNat ∧ k.kind.toNat ≤ 3 ∧
        State.reset.findKey k.id = none) ∧
      (load.keys.map (·.id)).Nodup ∧ (∀ i l, State.reset.licence i = some l → l.id ≠ load.id) ∧
      none ∈ State.reset.licences ∧ load.keys.length ≤ State.reset.keys.countP (·.isNone) ∧
      (State.reset.clock.set = true → State.reset.clock.time < load.windowEnd.toNat) := by
  refine ⟨reset_takes, by decide, by decide, by decide, by decide, by decide, by decide, by decide,
    by decide +kernel, by decide, fun i l h => ?_, by decide +kernel, by decide +kernel,
    by decide +kernel⟩
  have hn : State.reset.licence i = none := by
    simp only [State.licence, State.reset, List.getElem?_replicate]
    split <;> rfl
  rw [hn] at h
  cases h

/-- The part with the unwrap of a load under way, at a booth time. -/
def unwrapping (l : LicenceLoad) (time : Nat) : State :=
  { State.reset with
    clock := { set := true, time := time, phase := 0, periodStart := none, used := 0 }
    link := { CommandLink.reset with
      executing := some { tag := 3, kind := 0x40, stage := .unwrapping l } } }

theorem witness_LicencesLoadThroughTheirUnwrap_stored :
    (∃ e, (unwrapping sealedLoad 149).powered = true ∧ (unwrapping sealedLoad 149).link.executing = some e ∧
      e.stage = .unwrapping sealedLoad) ∧
      [(5 : Material)].length = sealedLoad.keys.length ∧
      (∀ (n : Nat) (k : KeyEntry) (m : Material), sealedLoad.keys[n]? = some k → [(5 : Material)][n]? = some m → k.wrapped = sealKey m) ∧
      (∀ k ∈ sealedLoad.keys, (keyKindOf k.kind).isSome = true) ∧
      (unwrapping sealedLoad 149).clock.time < sealedLoad.windowEnd.toNat ∧
      (unwrapping sealedLoad 149).licences[0]? = some none ∧
      sealedLoad.keys.length ≤ (unwrapping sealedLoad 149).keys.countP (·.isNone) := by
  refine ⟨⟨_, rfl, rfl, rfl⟩, rfl, fun n k m hk hm => ?_, fun k hk => ?_, by decide +kernel, rfl,
    by decide +kernel⟩
  · match n, hk, hm with
    | 0, hk, hm => cases hk; cases hm; rfl
    | n + 1, hk, _ => cases hk
  · rw [List.mem_singleton.mp hk]
    rfl

/-- Bytes that no sealing gave, whose check passes: their material is the free value. -/
theorem witness_LicencesLoadThroughTheirUnwrap_unsealed :
    (∃ e, (unwrapping unsealedLoad 149).link.executing = some e ∧ e.stage = .unwrapping unsealedLoad) ∧
      ∃ k, unsealedLoad.keys[0]? = some k ∧ (∀ x, k.wrapped ≠ sealKey x) ∧ [true][0]? = some true ∧
        [Config.unsealedMaterial k.wrapped].length = unsealedLoad.keys.length :=
  ⟨⟨_, rfl, rfl⟩, _, rfl, allOnes_unsealed, rfl, rfl⟩

theorem witness_LicencesLoadThroughTheirUnwrap_refused :
    (∃ k, unsealedLoad.keys[0]? = some k ∧ (∀ x, k.wrapped ≠ sealKey x) ∧
        ([] : List Bool).getD 0 false = false) ∧
      (∃ e, (unwrapping sealedLoad 150).powered = true ∧ (unwrapping sealedLoad 150).link.executing = some e ∧
        e.stage = .unwrapping sealedLoad) ∧
      (∀ (n : Nat) (k : KeyEntry), sealedLoad.keys[n]? = some k → ∃ x, k.wrapped = sealKey x) ∧
      (unwrapping sealedLoad 150).clock.set = true ∧
      sealedLoad.windowEnd.toNat ≤ (unwrapping sealedLoad 150).clock.time := by
  refine ⟨⟨_, rfl, allOnes_unsealed, rfl⟩, ⟨_, rfl, rfl, rfl⟩, fun n k hk => ?_, rfl, by decide +kernel⟩
  match n, hk with
  | 0, hk => cases hk; exact ⟨5, rfl⟩
  | n + 1, hk => cases hk

/-- The part with its licence in a state, with a number of pins. -/
def licensed (st : LicenceState) (pins : Nat) : State :=
  { clocked with licences := [some { licence with state := st, pins := pins }] }

theorem witness_RevokeAndDeleteActByState :
    (licensed .opened 0).takes 9 ∧
      (∃ l, (licensed .opened 0).licence (0 : Byte).toNat = some l ∧ l.state = .opened ∧ l.pins = 0) ∧
      (∃ l, (licensed .opened 1).licence (0 : Byte).toNat = some l ∧ l.state = .opened ∧ l.pins ≠ 0) ∧
      (∃ l, (licensed .revoking 1).licence (0 : Byte).toNat = some l ∧ l.state = .revoking) ∧
      (∃ l, (licensed .revoked 0).licence (0 : Byte).toNat = some l ∧ l.state = .revoked) ∧
      ∃ l, (licensed .closing 1).licence (0 : Byte).toNat = some l ∧ l.state = .closing :=
  ⟨⟨rfl, rfl, by decide⟩, ⟨_, rfl, rfl, rfl⟩, ⟨_, rfl, rfl, by decide⟩, ⟨_, rfl, rfl⟩, ⟨_, rfl, rfl⟩,
    ⟨_, rfl, rfl⟩⟩

theorem witness_ReadLicenceShowsTheRecord :
    showing.takes 255 ∧ (∃ l, showing.licence (0 : Byte).toNat = some l) ∧
      (∃ k, showing.key 0 = some k) ∧ showing.licence (63 : Byte).toNat = none ∧ 64 ≤ (64 : Byte).toNat :=
  ⟨showing_takes, ⟨_, rfl⟩, ⟨_, rfl⟩, rfl, by decide⟩

theorem witness_CounterOpChangesTheCapAlone :
    showing.takes 255 ∧ (0 : Byte).toNat < 64 ∧
      (∃ l, showing.licence (0 : Byte).toNat = some l ∧ l.state = .opened) ∧
      (∃ l, (licensed .closed 0).licence (0 : Byte).toNat = some l ∧ l.state = .closed) ∧
      64 ≤ (64 : Byte).toNat ∧ 3 ≤ (3 : Byte).toNat ∧ State.reset.takes 9 ∧
      State.reset.licence (63 : Byte).toNat = none :=
  ⟨showing_takes, by decide, ⟨_, rfl, rfl⟩, ⟨_, rfl, rfl⟩, by decide, by decide, reset_takes, rfl⟩

theorem witness_TheClockMovesLicencesThroughTheirWindows_set :
    State.reset.takes 9 ∧ State.reset.clock.set = false ∧ showing.takes 255 ∧ showing.clock.set = true ∧
      showing.clock.time < 4294967295 :=
  ⟨reset_takes, rfl, showing_takes, rfl, by decide +kernel⟩

/-- The part with its clock's account begun at booth second 0. -/
def accounted (time used : Nat) : State :=
  { clocked with
    clock := { set := true, time := time, phase := 0, periodStart := some 0, used := used } }

/-- A fresh period: none begun, and one that ends at this second; an adjustment of -300 from 300. -/
theorem witness_TheClockMovesLicencesThroughTheirWindows_adjust :
    (∀ p, showing.clock.periodStart = some p → p + 2592000 ≤ showing.clock.time) ∧
      (∀ p, (accounted 2592000 300).clock.periodStart = some p →
        p + 2592000 ≤ (accounted 2592000 300).clock.time) ∧
      ((accounted 2591999 200).clock.periodStart = some 0 ∧
        (accounted 2591999 200).clock.time < 0 + 2592000 ∧
        200 + (100 : Half).toInt.natAbs ≤ 300) ∧
      0 ≤ ((accounted 2592000 300).clock.time : Int) + (0xFED4 : Half).toInt ∧
      (0xFED4 : Half).toInt.natAbs ≤ 300 := by
  refine ⟨fun p h => (by cases h), fun p h => ?_, by decide +kernel, by decide +kernel, by decide +kernel⟩
  cases h
  decide +kernel

theorem witness_TheClockMovesLicencesThroughTheirWindows_stands :
    4294967295 ≤ (accounted 4294967295 0).clock.time := by decide +kernel

/-- A law of every licence of the showing part, from its one licence. -/
theorem stepping_licence {P : Nat → Licence → Prop} (h : P 0 licence) :
    ∀ i l, stepping.licence i = some l → P i l := by
  intro i l hl
  match i, hl with
  | 0, hl => cases hl; exact h
  | i + 1, hl => cases hl

theorem witness_LicenceLawsAreKept :
    CapLaw stepping ∧ RevokedLaw stepping ∧ AccountLaw stepping ∧ ∃ t, step stepping = .next t :=
  ⟨stepping_licence (P := fun _ l => l.charged + l.reserved ≤ l.cap) (by decide),
    stepping_licence (P := fun _ l => l.state = .revoked → l.keys = []) (by decide),
    by unfold AccountLaw; decide +kernel, stepping_steps⟩

theorem witness_LicencesNeverReturn :
    (∃ t, step stepping = .next t) ∧ ∃ l, stepping.licence 0 = some l :=
  ⟨stepping_steps, _, rfl⟩

theorem stepping_recordLaws : RecordLaws stepping := by
  refine fun _ => ⟨stepping_licence
      (P := fun i l => l.pins = stepping.allRecords.countP (fun r => r.licence = some i) ∧
        l.reserved = stepping.allRecords.countP (fun r => r.licence = some i && r.holdsReservation))
      (by decide +kernel), ⟨by decide +kernel, ?_⟩, ⟨by decide +kernel, ?_⟩, ?_,
    stepping_licence (P := fun _ l => l.state.unpinned = true → l.pins = 0) (by decide)⟩
  · intro r hr
    rw [List.mem_singleton.mp hr]
    decide +kernel
  · intro r hr
    cases hr
  · intro r hr i hi
    rw [List.mem_singleton.mp hr] at hi
    cases hi
    rfl

theorem witness_PinsAndReservationsCountTheRecords :
    RecordLaws stepping ∧ ∃ t, step stepping = .next t :=
  ⟨stepping_recordLaws, stepping_steps⟩

theorem witness_AdmissionFindsOneUsableLicence :
    judgeAdmission showing keyedTitle 0 = .ok (some 0) ∧ judgeAdmission showing title 0 = .ok none :=
  ⟨rfl, rfl⟩

/-- The part with one CLOSED log record, then an OPEN one. -/
def logged : State :=
  { showing with log := [{ logRecord with closed := true, outcome := some .stopped },
                         { logRecord with seq := 2 }], nextSeq := 3 }

theorem witness_LogIsReadAndReleasedFromTheHead :
    logged.takes 9 ∧ logged.log[0]?.map (·.seq) = some (1 : Word).toNat ∧ (1 : Byte).toNat ≤ logged.log.length ∧
      (∀ g ∈ logged.log.take (1 : Byte).toNat, g.closed = true) ∧
      (∃ g ∈ logged.log.take (2 : Byte).toNat, g.closed = false) ∧ (2 : Byte).toNat ≤ logged.log.length ∧
      logged.log[0]?.map (·.seq) ≠ some (7 : Word).toNat ∧ (0 : Byte).toNat = 0 ∧ 128 < (129 : Byte).toNat ∧
      logged.log.length < (3 : Byte).toNat :=
  ⟨⟨rfl, rfl, by decide⟩, by decide +kernel, by decide +kernel, by decide +kernel, by decide +kernel,
    by decide +kernel, by decide +kernel, by decide +kernel, by decide +kernel, by decide +kernel⟩

theorem witness_LogLawIsKept : LogLaw stepping ∧ ∃ t, step stepping = .next t :=
  ⟨by refine ⟨by decide +kernel, List.pairwise_singleton _ _, by decide +kernel⟩, stepping_steps⟩

theorem witness_CueStartsAShow :
    ∃ i comp, (listedA .loaded).takes 9 ∧
      ((listedA .loaded).chan .a).state ∈ [ChannelState.loaded, .ended] ∧
      ((listedA .loaded).chan .a).items[0]? = some i ∧
      (listedA .loaded).composition i.slot.toNat = some comp ∧ i.entryReel.toNat < comp.reels.length ∧
      judgeAdmission (listedA .loaded) comp i.entryReel.toNat = .ok none :=
  ⟨_, _, ⟨rfl, rfl, by decide⟩, by decide +kernel, rfl, rfl, by decide, rfl⟩

/-- The same with a keyed item, whose admission names licence 0. -/
theorem witness_CueStartsAShow_keyed :
    ∃ i comp, (withA showing (fun c => { c with state := .ended })).takes 9 ∧
      ((withA showing (fun c => { c with state := .ended })).chan .a).items[0]? = some i ∧
      (withA showing (fun c => { c with state := .ended })).composition i.slot.toNat = some comp ∧
      judgeAdmission (withA showing (fun c => { c with state := .ended })) comp 0 = .ok (some 0) :=
  ⟨_, _, ⟨rfl, rfl, by decide⟩, rfl, rfl, rfl⟩

/-- Channel A playing, with its state, latch and slots replaced. -/
def inState (st : ChannelState) (latch : Bool) (slots : List Slot) : State :=
  withA showing (fun c => { c with state := st, latch := latch, slots := slots })

/-- A ring of READY slots and FREE ones. -/
def ring (ready : Nat) : List Slot :=
  List.replicate ready (.ready (frameAt 1)) ++ List.replicate (96 - ready) .free

theorem witness_StartPauseAndResume :
    (listedA .primed).takes 9 ∧ ((listedA .primed).chan .a).state = .primed ∧ showing.takes 255 ∧
      (showing.chan .a).state ≠ .primed ∧ (showing.chan .a).state ∈ [ChannelState.playing, .holding] ∧
      ((listedA .primed).chan .a).state ∉ [ChannelState.playing, .holding] ∧
      (showing.chan .a).state ∉ [ChannelState.paused, .suspended] :=
  ⟨⟨rfl, rfl, by decide⟩, rfl, showing_takes, by decide +kernel, by decide +kernel, by decide +kernel,
    by decide +kernel⟩

theorem witness_StartPauseAndResume_resume :
    (inState .paused false (ring 2)).takes 9 ∧
      (let c := (inState .paused false (ring 2)).chan .a
       c.state = .paused ∧ (c.slotAt c.present).isReady = true) ∧
      (let s := inState .paused false (ring 0)
       (s.chan .a).state = .paused ∧ s.showOver .a = false ∧
        ((s.chan .a).slotAt (s.chan .a).present).isReady = false) ∧
      (let c := (inState .suspended false (ring 11)).chan .a
       c.state = .suspended ∧ c.latch = false ∧ c.slots.countP Slot.isReady < c.config.resume) ∧
      (let c := (inState .suspended false (ring 12)).chan .a
       c.state = .suspended ∧ c.latch = false ∧ c.config.resume ≤ c.slots.countP Slot.isReady) ∧
      ((inState .suspended true (ring 0)).chan .a).latch = true :=
  ⟨⟨rfl, rfl, by decide⟩, by decide +kernel, by decide +kernel, by decide +kernel, by decide +kernel, rfl⟩

theorem witness_AcknowledgeClearsTheLatch :
    (inState .suspended true (ring 0)).takes 9 ∧
      ((inState .suspended true (ring 0)).chan .a).state = .suspended ∧ showing.takes 255 ∧
      (showing.chan .a).state ≠ .suspended ∧ (2 : Byte) ≠ 0 ∧ (2 : Byte) ≠ 1 :=
  ⟨⟨rfl, rfl, by decide⟩, rfl, showing_takes, by decide +kernel, by decide, by decide⟩

theorem witness_StopEndsTheShow :
    showing.takes 255 ∧
      (showing.chan .a).state ∈
        [ChannelState.cueing, .primed, .playing, .paused, .holding, .suspended] :=
  ⟨showing_takes, by decide +kernel⟩

theorem witness_JumpWithinTheItemKeepsItsRecord :
    ∃ a i comp, showing.takes 255 ∧
      (showing.chan .a).state ∈ [ChannelState.cueing, .primed, .playing, .paused, .holding] ∧
      isCommitted (showing.chan .a).jump = false ∧ (showing.chan .a).records.head? = some a ∧
      a.item = (0 : Byte).toNat ∧ (showing.chan .a).items[(0 : Byte).toNat]? = some i ∧
      showing.composition i.slot.toNat = some comp ∧ (0 : Byte).toNat < comp.reels.length ∧
      a.entryReel ≤ (0 : Byte).toNat ∧ (showing.chan .a).namesLaw := by
  refine ⟨_, _, _, showing_takes, by decide +kernel, rfl, rfl, rfl, rfl, rfl, by decide, by decide,
    by decide +kernel, fun r hr => ?_⟩
  rw [List.mem_singleton.mp hr]
  decide +kernel

/-- The showing part with its two items exchanged, so that the other item is the keyed one. -/
def exchanged : State :=
  { withA showing (fun c => { c with showList := some [itemOf 1, itemOf 0] }) with
    clock := BoothClock.lost }

theorem witness_JumpToAnotherItemAdmitsIt :
    ∃ i comp, showing.takes 255 ∧ isCommitted (showing.chan .a).jump = false ∧
      (showing.chan .a).state ∈ [ChannelState.cueing, .primed, .playing, .paused, .holding] ∧
      (∀ a, (showing.chan .a).records.head? = some a → a.item ≠ (1 : Byte).toNat) ∧
      (showing.chan .a).items[(1 : Byte).toNat]? = some i ∧
      showing.composition i.slot.toNat = some comp ∧ (0 : Byte).toNat < comp.reels.length ∧
      judgeAdmission (showing.jumpReleases .a (showing.chan .a).committedFrames) comp (0 : Byte).toNat =
        .ok none :=
  ⟨_, _, showing_takes, rfl, by decide +kernel, fun a h => (by cases h; decide), rfl, rfl, by decide, rfl⟩

theorem witness_JumpToAnotherItemAdmitsIt_refused :
    ∃ i comp, exchanged.takes 9 ∧
      (∀ a, (exchanged.chan .a).records.head? = some a → a.item ≠ (1 : Byte).toNat) ∧
      (exchanged.chan .a).items[(1 : Byte).toNat]? = some i ∧
      exchanged.composition i.slot.toNat = some comp ∧ (0 : Byte).toNat < comp.reels.length ∧
      judgeAdmission (exchanged.jumpReleases .a (exchanged.chan .a).committedFrames) comp
        (0 : Byte).toNat = .error .clockUnset :=
  ⟨_, _, ⟨rfl, rfl, by decide⟩, fun a h => (by cases h; decide), rfl, rfl, by decide, rfl⟩

theorem witness_PlayingDeadlinesPresentTheNextFrame :
    ∃ comp, showing.powered = true ∧ (showing.chan .a).timer.state ≠ .stopped ∧
      (showing.chan .a).state = .playing ∧
      showing.showOver .a = false ∧ showing.atItemEnd .a = false ∧
      (showing.chan .a).slotAt (showing.chan .a).present = .ready (frameAt 1) ∧
      showing.itemComposition .a (frameAt 1).pos.item = some comp ∧ (frameAt 1).picture.damage = none :=
  ⟨_, rfl, by decide +kernel, rfl, by decide +kernel, by decide +kernel, rfl, rfl, rfl⟩

/-- Channel A playing under a pending jump that has left its record. -/
def jumping (j : PendingJump) : State :=
  withA showing (fun c => { c with jump := some j, records := [{ record with chargeable := false }] })

/-- The last committed frame of a left record, and a target's first frame. -/
theorem witness_PlayingDeadlinesPresentTheNextFrame_jumps :
    ((jumping (.committed 1 1 0)).chan .a).state = .playing ∧
      ((jumping (.committed 1 1 0)).chan .a).jump.isSome = true ∧
      ((jumping (.committed 1 1 0)).chan .a).slotAt ((jumping (.committed 1 1 0)).chan .a).present =
        .ready (frameAt 1) ∧
      isLastCommitted ((jumping (.committed 1 1 0)).chan .a).jump = true ∧
      ((jumping (.committed 1 1 0)).chan .a).namesLaw ∧
      (∃ a, ((jumping (.committed 1 1 0)).chan .a).records.find? (fun r => r.ident = (frameAt 1).record) =
          some a ∧ a.chargeable = false ∧ a.logSeq = some 1) ∧ 1 < (jumping (.committed 1 1 0)).nextSeq ∧
      isLastCommitted (some (.committed 2 1 0)) = false ∧
      isTargetWait ((jumping (.targetWait 1 0)).chan .a).jump = true := by
  refine ⟨rfl, rfl, rfl, rfl, ⟨by decide +kernel, fun r hr => ?_⟩, ⟨_, rfl, rfl, rfl⟩, by decide +kernel, rfl,
    rfl⟩
  rw [List.mem_singleton.mp hr]
  decide +kernel

/-- Recovery at the resume depth, and with one READY slot of a complete fetch; a sound part, undamaged and
damaged. -/
theorem witness_PlayingDeadlinesPresentTheNextFrame_recovers :
    (let c := (inState .holding false (.free :: ring 12)).chan .a
     c.state = .holding ∧ c.config.resume ≤ c.readyCount ∧ c.slotAt c.present = .ready (frameAt 1)) ∧
      (let c := (inState .holding false (.free :: ring 1)).chan .a
       c.readyCount < c.config.resume ∧ c.assembly.complete = true ∧ 1 ≤ c.readyCount ∧
        c.slotAt c.present = .ready (frameAt 1)) ∧
      (∃ f p, f = { frameAt 1 with sound := some (frameAt 1).picture } ∧ f.sound = some p ∧
        p.damage = none) ∧
      (∀ p, (frameAt 1).sound = some p → p.damage ≠ none) :=
  ⟨by decide +kernel, by decide +kernel, ⟨_, _, rfl, rfl, rfl⟩, fun p h => (by cases h)⟩

/-- A damaged frame, with and without an earlier good picture of its record. -/
theorem witness_PlayingDeadlinesPresentTheNextFrame_damaged :
    (damagedAt 1).picture.damage ≠ none ∧
      (let s := inState .playing false (.free :: .ready (damagedAt 1) :: ring 0)
       (s.chan .a).slotAt (s.chan .a).present = .ready (damagedAt 1) ∧
        (s.chan .a).lastGood = some (damagedAt 1).record) ∧
      (let s := withA (inState .playing false (.free :: .ready (damagedAt 1) :: ring 0))
        (fun c => { c with lastGood := none })
       (s.chan .a).slotAt (s.chan .a).present = .ready (damagedAt 1) ∧
        (s.chan .a).lastGood ≠ some (damagedAt 1).record) := by decide +kernel

theorem witness_PresentationsAreCountedAndCharged :
    ∃ a l, (showing.chan .a).records.find? (fun r => r.ident = (frameAt 1).record) = some a ∧
      a.logSeq = some 1 ∧ 1 < showing.nextSeq ∧ a.countPoint = some (a.presented + 1) ∧
      a.chargeable = true ∧ a.charged = false ∧ a.licence = some 0 ∧ showing.licence 0 = some l ∧
      1 ≤ l.reserved :=
  ⟨_, _, rfl, rfl, by decide +kernel, rfl, rfl, rfl, rfl, rfl, by decide⟩

/-- The count point met at a committed frame of a jump within the item: charged, and the record stays. -/
theorem witness_PresentationsAreCountedAndCharged_committed :
    let s := withA showing (fun c => { c with jump := some (.committed 2 0 0) })
    (s.chan .a).state = .playing ∧ (s.chan .a).jump.isSome = true ∧ isCommitted (s.chan .a).jump = true ∧
      s.itemComposition .a (frameAt 1).pos.item = some keyedTitle ∧
      (s.chan .a).records.find? (fun r => r.ident = (frameAt 1).record) = some record ∧
      record.countPoint = some (record.presented + 1) ∧ record.chargeable = true := by decide +kernel

/-- A record that a jump has left at its last committed frame, one that is not yet at its count point, a
damaged part, and a recovering channel. -/
theorem witness_PresentationsAreCountedAndCharged_closes :
    ((jumping (.committed 1 1 0)).chan .a).records.find? (fun r => r.ident = (frameAt 1).record) =
        some { record with chargeable := false } ∧
      isLastCommitted ((jumping (.committed 1 1 0)).chan .a).jump = true ∧
      keyedTitle.isLastFrame 0 1 = true ∧ record.countPoint ≠ some (({ record with presented := 0 } :
        AdmissionRecord).presented + 1) ∧ (damagedAt 1).picture.damage ≠ none ∧
      ((inState .holding false (.free :: ring 12)).chan .a).records = [record] := by decide +kernel

/-- Channel A presenting the last frame of an item with its pause-after flag set, the next admitted. -/
def pausing : State :=
  withA showing (fun c =>
    { c with
      showList := some [{ itemOf 0 with pauseAfter := 1 }, itemOf 1]
      records := [{ record with item := 1 }]
      position := some { pos := { item := 0, reel := 0, frame := 1 }, presented := true } })

theorem witness_DeadlinesThatPresentNothing :
    (let s := inState .paused false (ring 0)
     s.powered = true ∧ (s.chan .a).timer.state = .running ∧ (s.chan .a).timer.period = some 800 ∧
      (s.chan .a).state = .paused) ∧
      (inState .suspended false (ring 0)).chanA.state = .suspended ∧
      (pausing.chan .a).state = .playing ∧ (pausing.chan .a).jump = none ∧
      (pausing.chan .a).slots.any Slot.isPresenting = true ∧ pausing.atItemEnd .a = true ∧
      (pausing.chan .a).pauseAfterSet = true ∧ (pausing.chan .a).records ≠ [] := by decide +kernel

/-- A channel paused between START and its first edge, with no period yet, and one with a period. -/
theorem witness_DeadlinesThatPresentNothing_armed :
    let s := withA (inState .paused false (ring 0)) (fun c =>
      { c with timer := { state := .armed, count := 0, period := none } })
    s.powered = true ∧ (s.chan .a).timer.state ≠ .stopped ∧ (s.chan .a).timer.period = none ∧
      (s.chan .a).state = .paused ∧
      (s.chan .a).records.head?.bind (fun r => (s.itemComposition .a r.item).map (fun c =>
        (s.chan .a).config.sampleRate / c.frameRate.toNat)) = some 800 := by decide +kernel

/-- Section 7.9, step 11: after RESUME no slot is PRESENTING, and the next item's first frame is READY. -/
def resumed : State :=
  withA pausing (fun c => { c with slots := .free :: ring 12, present := 1 })

theorem witness_PlayingDeadlinesPresentTheNextFrame_resumed :
    (resumed.chan .a).state = .playing ∧ (resumed.chan .a).jump = none ∧ resumed.showOver .a = false ∧
      resumed.atItemEnd .a = true ∧ (resumed.chan .a).pauseAfterSet = true ∧
      (resumed.chan .a).slots.any Slot.isPresenting = false ∧
      (resumed.chan .a).slotAt (resumed.chan .a).present = .ready (frameAt 1) ∧
      (after (.deadline .a) resumed).chanA.state = .playing := by decide +kernel

theorem witness_UnderrunsHoldAndSuspend_underrun :
    let s := inState .playing false (ring 0)
    s.powered = true ∧ (s.chan .a).timer.state ≠ .stopped ∧ (s.chan .a).state = .playing ∧
      (s.chan .a).jump = none ∧ s.showOver .a = false ∧ s.atItemEnd .a = false ∧
      ((s.chan .a).slotAt (s.chan .a).present).isReady = false ∧ 1 < (s.chan .a).config.stallLimit := by
  decide +kernel

/-- The record of the frame last presented is open; with none, nothing is counted; before the first period
the presenting record's item gives its length. -/
theorem witness_UnderrunsHoldAndSuspend_counts :
    let s := inState .holding false (ring 0)
    (s.chan .a).stallCount + 1 < (s.chan .a).config.stallLimit ∧ (s.chan .a).lastRecord = some record.ident ∧
      (s.chan .a).records.find? (fun r => r.ident = record.ident) = some record ∧
      (∀ r ∈ ((withA s (fun c => { c with lastRecord := none })).chan .a).records,
        ((withA s (fun c => { c with lastRecord := none })).chan .a).lastRecord ≠ some r.ident) ∧
      (let k := ((withA s (fun c => { c with timer := { state := .armed, count := 0, period := none } })).chan
        .a)
       k.timer.state ≠ .stopped ∧ k.timer.period = none ∧ k.records.head? = some record) := by decide +kernel

/-- An underrun that awaits a jump target, with a stall limit of 1. -/
theorem witness_UnderrunsHoldAndSuspend_target :
    let s := withA (jumping (.targetWait 1 0)) (fun c =>
      { c with slots := ring 0, config := { c.config with stallLimit := 1 } })
    (s.chan .a).state = .playing ∧ (s.chan .a).jump.isSome = true ∧
      ((s.chan .a).slotAt (s.chan .a).present).isReady = false ∧ (s.chan .a).config.stallLimit ≤ 1 := by
  decide +kernel

/-- The 48th held deadline meets the stall limit of 48. -/
theorem witness_UnderrunsHoldAndSuspend_suspends :
    let s := withA (inState .holding false (ring 0)) (fun c => { c with stallCount := 47 })
    (s.chan .a).timer.state ≠ .stopped ∧ (s.chan .a).state = .holding ∧
      (s.chan .a).readyCount < (s.chan .a).config.resume ∧
      ((s.chan .a).assembly.complete = true → (s.chan .a).readyCount = 0) ∧
      (s.chan .a).stallCount < 250 ∧ (s.chan .a).config.stallLimit ≤ (s.chan .a).stallCount + 1 := by
  decide +kernel

/-- Channel A after its last frame, its record closed and no item following. -/
def finished : State :=
  withA showing (fun c =>
    { c with
      records := [], noNext := true
      position := some { pos := { item := 0, reel := 0, frame := 1 }, presented := true } })

theorem witness_FinishedShowsEndAtTheDeadline :
    finished.powered = true ∧ (finished.chan .a).state = .playing ∧
      (finished.chan .a).timer.state ≠ .stopped ∧ (finished.chan .a).jump = none ∧
      finished.showOver .a = true := by decide +kernel

theorem witness_EdgesCountUpToTheDeadline :
    State.reset.powered = true ∧ (State.reset.chan .a).timer.state = .stopped ∧
      (let s := withA showing (fun c => { c with timer := { c.timer with count := 798 } })
       (s.chan .a).timer.state = .running ∧
        (s.chan .a).timer.period ≠ some ((s.chan .a).timer.count + 1)) ∧
      ((showing.chan .a).timer.state = .running ∧
        (showing.chan .a).timer.period = some ((showing.chan .a).timer.count + 1)) ∧
      (after (.start 9 0) (listedA .primed)).chanA.timer.state = .armed := by decide +kernel

/-- A router with a pending image and a block, and one lane of it in each of its source cases. -/
def routed : SoundRouter :=
  { SoundRouter.reset with
    lanes := { Lane.reset 0 with decay := some { value := 7, length := 240, next := 239 } } ::
      (List.range 15).map Lane.reset
    pendingMap := some (List.replicate 16 { source := some 0, gain := none, delay := 1 })
    block := some { bytes := List.replicate 2400 9, channels := 1, knownEnd := true } }

theorem witness_EdgesCountUpToTheDeadline_lanes :
    (∃ l d, routed.lanes[0]? = some l ∧ l.decay = some d) ∧
      (∃ l b, routed.lanes[1]? = some l ∧ l.decay = none ∧ routed.block = some b) ∧
      (∃ l, SoundRouter.reset.lanes[15]? = some l ∧ l.decay = none ∧ SoundRouter.reset.block = none ∧
        SoundRouter.reset.pendingMap = none) ∧
      ∃ image e, routed.pendingMap = some image ∧ image[0]? = some e ∧ laneDelaySamples e.delay routed.rate = 5 :=
  ⟨⟨_, _, rfl, rfl⟩, ⟨_, _, rfl, rfl, rfl⟩, ⟨_, rfl, rfl, rfl, rfl⟩, _, _, rfl, rfl, rfl⟩

theorem witness_LatchedSuspensionHolds :
    (let s := inState .suspended true (ring 96)
     (s.chan .a).state = .suspended ∧ (s.chan .a).latch = true) ∧
      ∃ t, step { inState .suspended true (ring 96) with pending := [.resume 9 0] } = .next t :=
  ⟨by decide +kernel, _, rfl⟩

theorem witness_ShowLawsAreKept :
    ShowLaw stepping ∧ SlotLaw stepping ∧ ∃ t, step stepping = .next t :=
  ⟨fun ch => by
      cases ch <;> unfold Channel.showLaw Channel.timerLaw Channel.recordLaw Channel.latchLaw <;>
        decide +kernel,
    fun ch => by cases ch <;> exact ⟨by decide +kernel, by decide +kernel⟩, stepping_steps⟩

theorem witness_ChannelsDoNotInterfere :
    (∃ t, exec (.pause 9 1) showing = .next t) ∧
      requestOf (.pause 9 1) = some (9, .pause 1) ∧ channelByte (.pause 1) = some 1 ∧
      channelOf 1 = some .b ∧ requestOf (.status 9) = some (9, .status) ∧ channelByte .status = none ∧
      ∃ t, exec (.deadline .a) showing = .next t :=
  ⟨⟨_, rfl⟩, rfl, rfl, rfl, rfl, rfl, _, rfl⟩

/-- A header with a payload length, its CRC-16 made to match. -/
def headerOf (length : Nat) : List Byte :=
  let front := header.take 20 ++ leBytes 4 length ++ (header.drop 24).take 6
  front ++ leBytes 2 (crc16 front).toNat

theorem witness_ForwardPathBytesMakeSegments_headers :
    State.reset.path = { rx := .hunt, held := [] } ∧
      (let h := headerOf 65536
       h.length = 32 ∧ h.take 4 = [0xE7, 0x3C, 0x91, 0x0D] ∧
        fieldAt h 30 2 = (crc16 (h.take 30)).toNat ∧ (byteAt h 4).toNat ≤ 1 ∧ 1 ≤ (byteAt h 6).toNat ∧
        (byteAt h 6).toNat ≤ 4 ∧ 1 ≤ fieldAt h 20 4 ∧ fieldAt h 20 4 ≤ 65536) ∧
      (headerOf 65537).length = 32 ∧ judgeHeader (headerOf 65537) = some .length := by decide +kernel

/-- The three arrivals: within the credit, beyond it, and of another epoch. -/
theorem witness_ForwardPathBytesMakeSegments_arrivals :
    headed.powered = true ∧ headed.path.rx = .payload ∧ 32 ≤ headed.path.held.length ∧
      (let whole := headed.path.held ++ [(0xAA : Byte)]
       whole.length = 32 + fieldAt whole 20 4 ∧ byteAt whole 4 = ChannelId.number .a ∧
        byteAt whole 5 = (headed.chan .a).epoch ∧
        (32 + fieldAt whole 20 4 + 4095) / 4096 ≤ (headed.chan .a).granted ∧
        ((withA headed (fun c => { c with granted := 0 })).chan .a).granted <
          (32 + fieldAt whole 20 4 + 4095) / 4096 ∧
        byteAt whole 5 ≠ ((withA headed (fun c => { c with epoch := 1 })).chan .a).epoch) := by
  decide +kernel

theorem witness_CreditLawIsKept :
    let s := { fetching with pending := [.segmentTake] }
    CreditLaw s ∧ ∃ t, step s = .next t :=
  ⟨⟨by unfold Channel.creditLaw; decide +kernel, by unfold Channel.creditLaw; decide +kernel⟩, _, rfl⟩

theorem witness_TheUnpackerServesTheSmallerLead :
    fetching.powered = true ∧ fetching.work = none ∧ fetching.eligible .a = true ∧
      (∃ g rest, (fetching.chan .a).queue = g :: rest ∧ fetching.orderPasses .a g = true) ∧
      fetching.eligible .b = false ∧
      (State.reset.eligible .a = false ∧ State.reset.eligible .b = false) :=
  ⟨rfl, rfl, by decide +kernel, ⟨_, _, rfl, by decide +kernel⟩, by decide +kernel, by decide +kernel⟩

/-- Both channels with a segment at the head and nothing to fetch: equal leads; B was served last. -/
theorem witness_TheUnpackerServesTheSmallerLead_tie :
    let s := { withA State.reset (fun c => { c with queue := [segment] }) with
      chanB := { Channel.reset with queue := [segment] } }
    s.eligible .a = true ∧ s.eligible .b = true ∧ s.lead .a = s.lead .b ∧ s.lastServed ≠ .a ∧
      s.orderPasses .a segment = false := by decide +kernel

/-- The part with that segment in work. -/
def working : State :=
  { fetching with lastServed := .a, work := some { channel := .a, key := .plain } }

theorem witness_FinishedSegmentsReturnTheirCredit :
    State.reset.work = none ∧
      ∃ w g rest a comp, working.powered = true ∧ working.work = some w ∧
        (working.chan w.channel).queue = g :: rest ∧ working.orderPasses w.channel g = true ∧
        (working.chan w.channel).fetchingRecord = some a ∧ working.composition a.slot = some comp ∧
        staysAtHead ((working.chan w.channel).closeBefore comp a.ident g) comp g = false :=
  ⟨rfl, { channel := .a, key := .plain }, _, _, _, _, rfl, rfl, rfl, by decide +kernel, rfl, rfl,
    by decide +kernel⟩

/-- The frame of that segment with nothing taken yet. -/
def openFrame0 : Frame :=
  { pos := { item := 0, reel := 0, frame := 0 }, record := 0, picture := Part.fresh, sound := none }

/-- The part with that frame in assembly: the segment joins it. -/
def joining : State :=
  withA working (fun c =>
    { c with
      slots := .filling openFrame0 :: List.replicate 95 .free, take := 1
      assembly := { c.assembly with cursor := segment.key } })

/-- The part with a ring that has no FREE slot. -/
def crammed : State :=
  withA working (fun c => { c with slots := List.replicate 96 (.ready (frameAt 1)) })

/-- A fragment that opens its frame's slot, one that joins a frame, an unusable and a badly checked payload,
and a segment that must stay at the head. -/
theorem witness_FinishedSegmentsReturnTheirCredit_fragments :
    segment.isFragment = true ∧ title.isLastFrame segment.reel segment.frame = false ∧
      (((working.chan .a).closeBefore title 0 segment).fillingFrame.any
        (fun f : Frame => f.pos = segment.position)) = false ∧
      joining.orderPasses .a segment = true ∧
      (((joining.chan .a).closeBefore title 0 segment).fillingFrame.any
        (fun f : Frame => f.pos = segment.position)) = true ∧
      segment.unpacked .unusable = .bad .keyUnusable ∧
      ({ segment with crc := 0 } : Segment).unpacked .plain = .bad .check ∧
      crammed.orderPasses .a segment = true ∧
      staysAtHead ((crammed.chan .a).closeBefore title 0 segment) title segment = true ∧
      (working.chan .a).assembly.cursor.below segment.key = true ∧
      (joining.chan .a).assembly.cursor.below segment.key = false := by decide +kernel

/-- A segment of the item's last frame skips the first: that one is closed whole. -/
def lastSegment : Segment := { segment with frame := 1 }

/-- The part finishing that segment, with its item alone in the list or another item behind it. -/
def completing (items : List ShowItem) : State :=
  withA { working with compositions := [some { record := title, refs := 1 }, some { record := keyedTitle, refs := 1 }] }
    (fun c => { c with queue := [lastSegment], showList := some items })

theorem witness_FinishedSegmentsReturnTheirCredit_completes :
    (let s := completing [itemOf 0, itemOf 0]
     let a := { record with licence := none, logSeq := none, countPoint := none, presented := 0 }
     s.orderPasses .a lastSegment = true ∧ (s.chan .a).fetchingRecord = some a ∧ (s.chan .a).records = [a] ∧
      staysAtHead ((s.chan .a).closeBefore title a.ident lastSegment) title lastSegment = false ∧
      title.isLastFrame lastSegment.reel lastSegment.frame = true ∧
      nextSkipped title (s.chan .a).assembly.cursor lastSegment.key = some (0, 0) ∧
      (after .segmentFinish s).chanA.fillingFrame = none ∧ (s.chan .a).refusal = false ∧
      (s.chan .a).items[a.item + 1]? = some (itemOf 0) ∧ s.composition 0 = some title ∧
      (match judgeAdmission s title 0 with
       | .ok lic => lic.isNone
       | .error _ => false) = true) ∧
      ((completing [itemOf 0]).chan .a).items[1]? = none ∧
      (let s := completing [itemOf 0, itemOf 1]
       (s.chan .a).items[1]? = some (itemOf 1) ∧ s.composition 1 = some keyedTitle ∧
        (match judgeAdmission s keyedTitle 0 with
         | .ok _ => false
         | .error st => decide (st = .clockUnset)) = true) := by decide +kernel

/-- The frame opened first, then the fetch of its item whole: the channel was CUEING and is PRIMED. -/
theorem test_completed_fetch_primes :
    (after .segmentFinish (completing [itemOf 0])).chanA.state = .primed ∧
      (after .segmentFinish (completing [itemOf 0])).chanA.readyCount = 2 ∧
      (after .segmentFinish (completing [itemOf 0])).chanA.assembly.counts.missing = 1 := by decide +kernel

/-- Prologue segments with a good payload and with a bad one. -/
theorem witness_FinishedSegmentsReturnTheirCredit_prologue :
    (let g : Segment := { segment with kind := .resource }
     g.isFragment = false ∧ g.unpacked .plain = .good [0xAA] ∧ g.unpacked .unusable = .bad .keyUnusable ∧
      (withA working (fun c => { c with queue := [g] })).orderPasses .a g = true) ∧
      ({ segment with kind := .cues } : Segment).isFragment = false := by decide +kernel

/-- A part with a cause; a fragment out of range, out of order, too long, joined, and the last; at the limit
of 32 fragments. -/
theorem witness_FinishedSegmentsReturnTheirCredit_parts :
    (Part.missing.damage = some .missing ∧ Part.fresh.damage = none) ∧ (32 : Nat) < 33 ∧
      (let p : Part := { Part.fresh with fixedCount := some 32, lastIndex := 31, bytes := [1] }
       p.damage = none ∧ 32 = p.lastIndex + 1 ∧ p.fixedCount.getD 32 = 32 ∧
        3 < p.bytes.length + [(1 : Byte), 2, 3].length ∧ p.bytes.length + [(1 : Byte), 2].length ≤ 3) ∧
      1 = Part.fresh.lastIndex + 1 ∧ Part.fresh.fixedCount.getD 2 = 2 ∧ 1 < 2 := by decide +kernel

theorem witness_KeysServeOnlyTheirAdmittedLicence :
    showing.chooseKey .a segment = .material 1 ∧ segment.unpacked .plain = .good [0xAA] := by
  decide +kernel

theorem witness_SubtitleLawsAreKept :
    ShownLaw stepping ∧ BankLaw stepping ∧ ∃ t, step stepping = .next t :=
  ⟨fun ch t => by cases ch <;> exact Nat.zero_le 8, fun ch => by cases ch <;> exact ⟨rfl, rfl⟩,
    stepping_steps⟩

/-- A scheduler with a context of item 0, reel 0 on bank 0. -/
def contextual : Subtitles := Subtitles.reset.create 0 0 0 1

/-- A payload that ends with the bank, and one that goes one byte beyond it. -/
theorem witness_ResourceBytesLandAtTheirOffset :
    ∃ c, title.tracks ≠ [] ∧ contextual.unmarked 0 0 = some c ∧ c.bank ≤ 1 ∧
      Memory.wf (contextual.bank c.bank) = true ∧ 262143 + [(5 : Byte)].length ≤ 262144 ∧
      262144 < 262144 + [(5 : Byte)].length :=
  ⟨_, by decide, rfl, by decide, rfl, by decide, by decide⟩

/-- A stored cue of the first track and context: raw frames, and a number. -/
def cueAt (ri ro : Nat) (number : Half) : Cue :=
  { context := 0, track := 0, number := number, ri := ri, ro := ro, fadeIn := 1, fadeOut := 1, tickIn := 0,
    tickOut := 1, fadeInTicks := 1, fadeOutTicks := 1, style := 0,
    region := 0, contentOffset := 0, contentLength := 1 }

/-- The scheduler with cues PENDING and one SHOWN that ends at frame 1. -/
def scheduled : Subtitles :=
  { contextual with
    pendingCues := [cueAt 1 2 1, cueAt 0 1 2, cueAt 2 2 3]
    shown := [{ cue := cueAt 0 1 4, eo := 1 }] }

/-- At frame 1 of two: one cue is due, one missed, one beyond the reel; at frame 0 the first waits. The cue
shown ends. -/
theorem witness_ResourceBytesLandAtTheirOffset_schedule :
    (∃ c, scheduled.matching 0 0 = some c ∧ c.serial = 0 ∧ title.duration c.reel = 2) ∧
      effectiveInterval 1 2 0 0 2 = .span 1 2 false ∧ effectiveInterval 0 1 0 0 2 = .span 0 1 false ∧
      effectiveInterval 2 2 0 0 2 = .beyondReel ∧
      (∃ q ∈ scheduled.shown, q.cue.track ≤ 3 ∧ q.eo ≤ 1) ∧
      ∀ q ∈ scheduled.pendingCues, q.context = 0 ∧ q.track ≤ 3 :=
  ⟨⟨_, rfl, rfl, rfl⟩, by decide, by decide, by decide, by decide +kernel, by decide +kernel⟩

/-- The 28 bytes of a cue record of track 0: number 1, from tick 1 to tick 2, with one byte of content. -/
def cuePlain (track region : Byte) (number tickIn offset : Nat) : List Byte :=
  [track, region, 0, 0] ++ leBytes 2 number ++ leBytes 2 0 ++ leBytes 2 0 ++ [0, 0] ++ leBytes 4 tickIn ++
    leBytes 4 2 ++ leBytes 4 offset ++ leBytes 4 1

/-- A context is made on the bank of the turn, or on the bank left; with both banks held by other reels there
is none. -/
theorem witness_ResourceBytesLandAtTheirOffset_contexts :
    (let x := Subtitles.reset
     x.unmarked 0 0 = none ∧ x.bankFree 0 = true ∧ x.bankFree 1 = true ∧ x.turn = 0) ∧
      (let x := Subtitles.reset.create 0 1 1 0
       x.unmarked 0 0 = none ∧ x.bankFree 0 = true ∧ x.bankFree 1 = false) ∧
      (contextual.unmarked 0 1 = none ∧ contextual.bankFree 0 = false ∧ contextual.bankFree 1 = true) ∧
      ((contextual.create 0 1 1 0).openContext 0 2).subs.unmarked 0 2 = none := by decide +kernel

/-- One record for each check of R155 in turn; the last is stored. -/
theorem witness_ResourceBytesLandAtTheirOffset_records :
    (cuePlain 0 0 1 1 0).length = 28 ∧ (readCueRecord (cuePlain 0 0 0 1 0)).number = 0 ∧
      3 < (readCueRecord (cuePlain 0 4 1 1 0)).region.toNat ∧
      title.tracks.length ≤ (readCueRecord (cuePlain 1 0 1 1 0)).track.toNat ∧
      ({ contextual with enabled := 14 } : Subtitles).enabled.getLsbD 0 = false ∧
      title.duration 0 ≤ frameOfTick (readCueRecord (cuePlain 0 0 1 2 0)).tickIn title.rate
        (trackRate title 0) ∧
      262144 < (readCueRecord (cuePlain 0 0 1 1 262144)).contentOffset +
        (readCueRecord (cuePlain 0 0 1 1 262144)).contentLength ∧
      (contextual.unmarked 0 0).map (·.lastTick[0]?) = some (some none) ∧
      (((contextual.takeCues title 0 0 (cuePlain 0 0 1 1 0)).subs.unmarked 0 0).map (·.lastTick[0]?)) =
        some (some (some 1)) ∧
      contextual.pendingCues.length + contextual.shown.length < 1024 := by decide +kernel

/-- Both banks held by contexts that a jump has left: the older, whose cue is PENDING, is taken. -/
def crowdedBanks : Subtitles :=
  { (contextual.create 0 1 1 0).jumpPoint with pendingCues := [cueAt 1 2 1] }

/-- Step 4 of R154 with a context to take, and with none because no context has the LEFT mark. -/
theorem witness_ResourceBytesLandAtTheirOffset_taken :
    (let x := crowdedBanks
     x.unmarked 1 0 = none ∧ x.bankFree 0 = false ∧ x.bankFree 1 = false ∧ x.shown = [] ∧
      x.contexts.map (fun c => (c.serial, c.left)) = [(0, true), (1, true)] ∧
      (x.openContext 1 0).drops = [(cueAt 1 2 1).fault .bankBusy 0 0]) ∧
      (let x := contextual.create 0 1 1 0
       x.unmarked 1 0 = none ∧ x.bankFree 0 = false ∧ x.bankFree 1 = false ∧
        x.contexts.map (·.left) = [false, false]) := by decide +kernel

/-- A jump back to the reel now presenting, and a second jump before its first frame (R164): two LEFT contexts of
one item and reel, of which the first, numbered 0, has served the last frame. -/
def jumpedTwice : Subtitles :=
  ({ contextual with served := some 0 }.jumpPoint.create 0 0 1 0).jumpPoint

/-- Step 4 of R154 takes the bank of the context that served no frame. -/
theorem test_second_jump_spares_the_served_context :
    (jumpedTwice.openContext 0 1).subs.contexts.map (fun c => (c.serial, c.reel, c.bank, c.left)) =
      [(0, 0, 0, true), (2, 1, 1, false)] := by decide +kernel

/-- A new reel ends the context that served the previous frame. -/
theorem witness_ResourceBytesLandAtTheirOffset_reel :
    ((0, 0) : Nat × Nat) ≠ (0, 1) ∧
      (let x := { scheduled with served := some 0 }
       (x.servedContext.map (·.serial)) = some 0 ∧ (x.pendingCues.any (·.context = 0)) = true) := by
  decide +kernel

/-- R24, R155: the record with tick 1 of 60 per second at 60 frames per second is stored from frame 1 to
frame 2. -/
theorem test_cue_stored :
    (contextual.takeCues title 0 0 (cuePlain 0 0 1 1 0)).subs.pendingCues.map (fun q => (q.ri, q.ro)) =
      [(1, 2)] := by decide +kernel

/-- Section 10.8, cue c1 (R25, R155): ticks 2503 to 3125 with fades of 30 and 13 ticks at 250 per second give
241, 300, 3 and 2 at 24 frames per second, and are stored with them. -/
theorem test_cue_keeps_its_record :
    (let comp : Composition :=
       { title with
         frameRate := 24, tracks := [{ kind := 0, tickRate := 250, language := 0 }]
         reels := [{ duration := 57600, pictureKey := 0, soundKey := 0, subtitleKey := 0 }] }
     let plain := [(0 : Byte), 0, 3, 0] ++ leBytes 2 17 ++ leBytes 2 30 ++ leBytes 2 13 ++ [0, 0] ++
       leBytes 4 2503 ++ leBytes 4 3125 ++ leBytes 4 0 ++ leBytes 4 0
     (contextual.takeCues comp 0 0 plain).subs.pendingCues.map (fun q =>
       [q.ri, q.ro, q.fadeIn, q.fadeOut, q.tickIn, q.tickOut, q.fadeInTicks, q.fadeOutTicks])) =
      [[241, 300, 3, 2, 2503, 3125, 30, 13]] := by decide +kernel

theorem witness_ConversionsStayInRange :
    effectiveInterval 24 24 0 0 57600 = .span 24 25 true ∧ (-8388608 : Int) ≤ -8388608 ∧
      (8388607 : Int) ≤ 8388607 ∧ 32768 ≤ 32768 ∧ (1 : Nat) ≤ 1 := by decide

end Sys2Proof.Tests
end

/-! ## The other channel, the show list and the composition table

`State.stage` is what the command link and the notices never touch. `State.beside` is what no operation on
a channel's show touches: the composition table, the other channel, and the channel's own show list. One
lemma per operation, in the order of the model. -/

namespace Sys2Proof

@[simp] theorem ChannelId.other_other (ch : ChannelId) : ch.other.other = ch := by cases ch <;> rfl

theorem ChannelId.other_ne (ch : ChannelId) : ch.other ≠ ch := by cases ch <;> decide

end Sys2Proof

namespace Sys2Proof.Machine

/-- The composition table and both channels: what link, notices, licences, log and ports leave alone. -/
def State.stage (s : State) : List (Option CompositionSlot) × Channel × Channel :=
  (s.compositions, s.chanA, s.chanB)

/-- What an operation on the show of channel `ch` leaves alone: the composition table, the other channel
and the channel's own show list (R9, R10: only LOAD-SHOW and CLEAR-SHOW change it). -/
def State.beside (s : State) (ch : ChannelId) :
    List (Option CompositionSlot) × Channel × Option (List ShowItem) :=
  (s.compositions, s.chan ch.other, (s.chan ch).showList)

/-- What the reference law speaks of: the composition table and both show lists (R2). -/
def State.lists (s : State) :
    List (Option CompositionSlot) × Option (List ShowItem) × Option (List ShowItem) :=
  (s.compositions, s.chanA.showList, s.chanB.showList)

theorem State.beside_of_stage {s t : State} (h : t.stage = s.stage) (ch : ChannelId) :
    t.beside ch = s.beside ch := by
  obtain ⟨hc, ha, hb⟩ : t.compositions = s.compositions ∧ t.chanA = s.chanA ∧ t.chanB = s.chanB := by
    simpa [State.stage] using h
  cases ch <;> simp [State.beside, ChannelId.other, hc, ha, hb]

theorem State.chan_of_stage {s t : State} (h : t.stage = s.stage) (ch : ChannelId) :
    t.chan ch = s.chan ch := by
  cases ch
  · exact congrArg (·.2.1) h
  · exact congrArg (·.2.2) h

theorem State.chan_other_of_beside {s t : State} {ch : ChannelId} (h : t.beside ch = s.beside ch) :
    t.chan ch.other = s.chan ch.other := congrArg (·.2.1) h

/-- A channel is the other channel's other channel. -/
theorem State.chan_of_beside {s t : State} (h : ∀ ch, t.beside ch = s.beside ch) (ch : ChannelId) :
    t.chan ch = s.chan ch := by
  simpa using State.chan_other_of_beside (h ch.other)

theorem State.lists_of_beside {s t : State} {ch : ChannelId} (h : t.beside ch = s.beside ch) :
    t.lists = s.lists := by
  obtain ⟨hc, ho, hl⟩ : t.compositions = s.compositions ∧ t.chan ch.other = s.chan ch.other ∧
      (t.chan ch).showList = (s.chan ch).showList := by simpa [State.beside] using h
  cases ch
  · simp only [State.chan, ChannelId.other] at ho hl
    simp [State.lists, hc, ho, hl]
  · simp only [State.chan, ChannelId.other] at ho hl
    simp [State.lists, hc, ho, hl]

theorem State.lists_of_stage {s t : State} (h : t.stage = s.stage) : t.lists = s.lists :=
  State.lists_of_beside (State.beside_of_stage h .a)

/-! ### Show lists of channels

Where a proof is `(rfl)`, its brackets let `simp` use the lemma for the side condition of
`State.modChan_beside`. -/

@[simp] theorem Channel.removeRecord_showList (c : Channel) (n : Nat) :
    (c.removeRecord n).showList = c.showList := (rfl)
@[simp] theorem Channel.takeSlot_showList (c : Channel) (f : Frame) :
    (c.takeSlot f).showList = c.showList := (rfl)
@[simp] theorem Channel.modFilling_showList (c : Channel) (f : Frame → Frame) :
    (c.modFilling f).showList = c.showList := (rfl)
@[simp] theorem Channel.freePresenting_showList (c : Channel) :
    c.freePresenting.showList = c.showList := (rfl)
@[simp] theorem Channel.presentSlot_showList (c : Channel) (f : Frame) :
    (c.presentSlot f).showList = c.showList := (rfl)
@[simp] theorem Channel.fullFlush_showList (c : Channel) : c.fullFlush.showList = c.showList := (rfl)
@[simp] theorem Channel.flushAfter_showList (c : Channel) (n : Nat) :
    (c.flushAfter n).showList = c.showList := (rfl)
@[simp] theorem Channel.modCounts_showList (c : Channel) (f : UnpackCounts → UnpackCounts) :
    (c.modCounts f).showList = c.showList := (rfl)
@[simp] theorem Channel.addMissing_showList (c : Channel) (n : Nat) :
    (c.addMissing n).showList = c.showList := (rfl)
@[simp] theorem Channel.setCursor_showList (c : Channel) (k : Cursor) :
    (c.setCursor k).showList = c.showList := (rfl)
@[simp] theorem Channel.closeFilling_showList (c : Channel) (comp : Composition) (g : Segment) :
    (c.closeFilling comp g).showList = c.showList := by
  unfold Channel.closeFilling
  split
  · rfl
  · dsimp only
    split <;> simp
@[simp] theorem Channel.closeWhole_showList (c : Channel) (comp : Composition) (item record : Nat)
    (p : Nat × Nat) : (c.closeWhole comp item record p).showList = c.showList := (rfl)
@[simp] theorem Channel.closeSkippedFrames_showList (c : Channel) (comp : Composition) (item record : Nat)
    (key : Cursor) (n : Nat) :
    (c.closeSkippedFrames comp item record key n).showList = c.showList := by
  induction n generalizing c with
  | zero => rfl
  | succ n ih =>
    unfold Channel.closeSkippedFrames
    split
    · rfl
    · split
      · rfl
      · simp [ih]
@[simp] theorem Channel.closeBefore_showList (c : Channel) (comp : Composition) (record : Nat)
    (g : Segment) : (c.closeBefore comp record g).showList = c.showList := by
  unfold Channel.closeBefore
  split <;> simp
@[simp] theorem Channel.openFrame_showList (c : Channel) (comp : Composition) (record : Nat)
    (g : Segment) : (c.openFrame comp record g).showList = c.showList := by
  unfold Channel.openFrame
  split
  · rfl
  · dsimp only
    split <;> simp
@[simp] theorem Channel.placeFragment_showList (c : Channel) (comp : Composition) (record : Nat)
    (g : Segment) (p : Payload) : (c.placeFragment comp record g p).showList = c.showList := by
  simp [Channel.placeFragment]
@[simp] theorem Channel.sendPicture_showList (c : Channel) (m : PictureMessage) :
    (c.sendPicture m).showList = c.showList := (rfl)
@[simp] theorem Channel.holdPicture_showList (c : Channel) : c.holdPicture.showList = c.showList := (rfl)
@[simp] theorem Channel.quiet_showList (c : Channel) : c.quiet.showList = c.showList := (rfl)
@[simp] theorem Channel.showPicture_showList (c : Channel) (f : Frame) :
    (c.showPicture f).showList = c.showList := by
  unfold Channel.showPicture
  (repeat' split) <;> rfl
@[simp] theorem Channel.giveSound_showList (c : Channel) (f : Frame) (n : Nat) (a b : Bool) :
    (c.giveSound f n a b).showList = c.showList := by
  unfold Channel.giveSound
  (repeat' split) <;> rfl
@[simp] theorem Channel.emit_showList (c : Channel) (j : Nat) : (c.emit j).showList = c.showList := (rfl)
@[simp] theorem Channel.countEdge_showList (c : Channel) : c.countEdge.showList = c.showList := (rfl)
@[simp] theorem Channel.runToDeadline_showList (c : Channel) :
    c.runToDeadline.showList = c.showList := (rfl)
@[simp] theorem Channel.cued_showList (c : Channel) (item reel : Nat) :
    (c.cued item reel).showList = c.showList := (rfl)
@[simp] theorem Channel.stopped_showList (c : Channel) : c.stopped.showList = c.showList := (rfl)
@[simp] theorem Channel.jumped_showList (c : Channel) (item reel n : Nat) :
    (c.jumped item reel n).showList = c.showList := (rfl)

/-! ### Elementary updates -/

/-- A change of a channel that keeps its show list. -/
@[simp] theorem State.modChan_beside (s : State) (ch : ChannelId) (f : Channel → Channel)
    (h : ∀ c, (f c).showList = c.showList) : (s.modChan ch f).beside ch = s.beside ch := by
  simp [State.beside, State.chan_modChan_other s f ch.other_ne, h]

@[simp] theorem State.work_beside (s : State) (w : Option Work) (ch : ChannelId) :
    { s with work := w }.beside ch = s.beside ch := State.beside_of_stage rfl ch
@[simp] theorem State.lastServed_beside (s : State) (c ch : ChannelId) :
    { s with lastServed := c }.beside ch = s.beside ch := State.beside_of_stage rfl ch
@[simp] theorem State.raise_beside (s : State) (k : NoticeKind) (c : Option ChannelId) (d : NoticeDetail)
    (ch : ChannelId) : (s.raise k c d).beside ch = s.beside ch := by simp [State.beside]
@[simp] theorem State.refreshLogLow_beside (s : State) (ch : ChannelId) :
    s.refreshLogLow.beside ch = s.beside ch := by simp [State.beside]
@[simp] theorem State.raiseDrops_beside (s : State) (c : ChannelId) (fs : List DropFault) (ch : ChannelId) :
    (s.raiseDrops c fs).beside ch = s.beside ch := by simp [State.beside]
@[simp] theorem State.sendCredit_beside (s : State) (c : ChannelId) (n : Nat) (ch : ChannelId) :
    (s.sendCredit c n).beside ch = s.beside ch := by simp [State.beside]
@[simp] theorem State.sendReturn_beside (s : State) (m : ReturnMessage) (ch : ChannelId) :
    (s.sendReturn m).beside ch = s.beside ch := by simp [State.beside]
@[simp] theorem State.setPath_beside (s : State) (p : ForwardPath) (ch : ChannelId) :
    (s.setPath p).beside ch = s.beside ch := by simp [State.beside]
@[simp] theorem State.modLicence_beside (s : State) (i : Nat) (f : Licence → Licence) (ch : ChannelId) :
    (s.modLicence i f).beside ch = s.beside ch := by simp [State.beside]
@[simp] theorem State.modLog_beside (s : State) (q : Option Nat) (f : LogRecord → LogRecord)
    (ch : ChannelId) : (s.modLog q f).beside ch = s.beside ch := by simp [State.beside]

/-! ### Licences, showing counter and log (files 05, 06) -/

@[simp] theorem State.unpin_beside (s : State) (i : Nat) (ch : ChannelId) :
    (s.unpin i).beside ch = s.beside ch := by
  simp [State.beside, State.compositions_of_steady (s.unpin_steady i)]
@[simp] theorem State.takeLog_beside (s : State) (r : LogRecord) (ch : ChannelId) :
    (s.takeLog r).beside ch = s.beside ch := by
  simp [State.beside, State.compositions_of_steady (s.takeLog_steady r)]
@[simp] theorem State.openAdmission_beside (s : State) (ch : ChannelId) (c : Composition) (i n e : Nat)
    (l : Option Nat) : (s.openAdmission ch c i n e l).beside ch = s.beside ch := by
  simp only [State.openAdmission]; (repeat' split) <;> simp
@[simp] theorem State.sendFetch_beside (s : State) (c : ChannelId) (i n e : Nat) (ch : ChannelId) :
    (s.sendFetch c i n e).beside ch = s.beside ch := by simp [State.sendFetch]
@[simp] theorem State.beginFetch_beside (s : State) (ch : ChannelId) (r : AdmissionRecord) (e : Nat) :
    (s.beginFetch ch r e).beside ch = s.beside ch := by simp [State.beginFetch]
@[simp] theorem State.fetchNewest_beside (s : State) (ch : ChannelId) (e : Nat) :
    (s.fetchNewest ch e).beside ch = s.beside ch := by
  unfold State.fetchNewest; split <;> simp
@[simp] theorem State.admitAndFetch_beside (s : State) (ch : ChannelId) (c : Composition) (i n e : Nat)
    (l : Option Nat) : (s.admitAndFetch ch c i n e l).beside ch = s.beside ch := by
  simp [State.admitAndFetch]
@[simp] theorem State.modRecord_beside (s : State) (ch : ChannelId) (n : Nat)
    (f : AdmissionRecord → AdmissionRecord) : (s.modRecord ch n f).beside ch = s.beside ch := by
  simp [State.modRecord]
@[simp] theorem State.releaseReservation_beside (s : State) (r : AdmissionRecord) (ch : ChannelId) :
    (s.releaseReservation r).beside ch = s.beside ch := by
  simp [State.beside, State.compositions_of_steady (s.releaseReservation_steady r)]
@[simp] theorem State.dropRecord_beside (s : State) (ch : ChannelId) (r : AdmissionRecord) :
    (s.dropRecord ch r).beside ch = s.beside ch := by
  simp only [State.dropRecord]; split <;> simp
@[simp] theorem State.closeRecord_beside (s : State) (ch : ChannelId) (r : AdmissionRecord)
    (o : LogOutcome) : (s.closeRecord ch r o).beside ch = s.beside ch := by simp [State.closeRecord]
@[simp] theorem State.discardRecord_beside (s : State) (ch : ChannelId) (r : AdmissionRecord) :
    (s.discardRecord ch r).beside ch = s.beside ch := by
  unfold State.discardRecord
  split
  · rw [State.dropRecord_beside, State.refreshLogLow_beside]
    exact State.beside_of_stage rfl ch
  · simp
@[simp] theorem State.endRecord_beside (s : State) (ch : ChannelId) (o : LogOutcome) (r : AdmissionRecord) :
    (s.endRecord ch o r).beside ch = s.beside ch := by
  unfold State.endRecord; split <;> simp
@[simp] theorem State.reportNoNext_beside (s : State) (ch : ChannelId) :
    (s.reportNoNext ch).beside ch = s.beside ch := by simp [State.reportNoNext]
@[simp] theorem State.refuseNext_beside (s : State) (ch : ChannelId) (i : Nat) (st : Status) :
    (s.refuseNext ch i st).beside ch = s.beside ch := by simp [State.refuseNext]
@[simp] theorem State.admitNext_beside (s : State) (ch : ChannelId) (r : AdmissionRecord) :
    (s.admitNext ch r).beside ch = s.beside ch := by
  simp only [State.admitNext]; (repeat' split) <;> simp
@[simp] theorem State.nextItemOccasion_beside (s : State) (ch : ChannelId) :
    (s.nextItemOccasion ch).beside ch = s.beside ch := by
  simp only [State.nextItemOccasion]; (repeat' split) <;> simp
@[simp] theorem State.writeCounts_beside (s : State) (ch : ChannelId) (r : AdmissionRecord)
    (a b c : Nat) : (s.writeCounts ch r a b c).beside ch = s.beside ch := by simp [State.writeCounts]
@[simp] theorem State.reachCountPoint_beside (s : State) (ch : ChannelId) (r : AdmissionRecord) :
    (s.reachCountPoint ch r).beside ch = s.beside ch := by
  simp only [State.reachCountPoint]; (repeat' split) <;> simp
@[simp] theorem State.countPresentation_beside (s : State) (ch : ChannelId) (n : Nat) (d : Bool) :
    (s.countPresentation ch n d).beside ch = s.beside ch := by
  simp only [State.countPresentation]; (repeat' split) <;> simp
@[simp] theorem State.countHeld_beside (s : State) (ch : ChannelId) :
    (s.countHeld ch).beside ch = s.beside ch := by
  unfold State.countHeld; split <;> simp

/-! ### Ingest port and unpacker (files 03, 04) -/

@[simp] theorem State.arriveStale_beside (s : State) (ch : ChannelId) (g : Segment) :
    (s.arriveStale ch g).beside ch = s.beside ch := by
  simp only [State.arriveStale]; split <;> simp
@[simp] theorem State.arrive_beside (s : State) (ch : ChannelId) (g : Segment) :
    (s.arrive ch g).beside ch = s.beside ch := by
  simp only [State.arrive]; (repeat' split) <;> simp
@[simp] theorem State.abandonWork_beside (s : State) (c ch : ChannelId) :
    (s.abandonWork c).beside ch = s.beside ch := by
  simp [State.beside, State.compositions_of_steady (s.abandonWork_steady c)]
@[simp] theorem State.finishHead_beside (s : State) (ch : ChannelId) :
    (s.finishHead ch).beside ch = s.beside ch := by
  unfold State.finishHead; split <;> simp
@[simp] theorem State.raiseEpoch_beside (s : State) (ch : ChannelId) :
    (s.raiseEpoch ch).beside ch = s.beside ch := by
  simp only [State.raiseEpoch]; split <;> simp
@[simp] theorem State.restartIngest_beside (s : State) (ch : ChannelId) :
    (s.restartIngest ch).beside ch = s.beside ch := by simp [State.restartIngest]
@[simp] theorem State.putSubs_beside (s : State) (ch : ChannelId) (x : SubsResult) :
    (s.putSubs ch x).beside ch = s.beside ch :=
  (State.raiseDrops_beside _ _ _ _).trans
    ((State.beside_of_stage rfl ch).trans (State.modChan_beside s ch _ fun _ => rfl))
@[simp] theorem State.modSubs_beside (s : State) (ch : ChannelId) (f : Subtitles → Subtitles) :
    (s.modSubs ch f).beside ch = s.beside ch := by simp [State.modSubs]
@[simp] theorem State.discardOrder_beside (s : State) (ch : ChannelId) :
    (s.discardOrder ch).beside ch = s.beside ch := by simp [State.discardOrder]
@[simp] theorem State.serve_beside (s : State) (ch : ChannelId) :
    (s.serve ch).beside ch = s.beside ch := by
  simp only [State.serve]
  split
  · rfl
  · split
    · exact State.beside_of_stage rfl ch
    · simp
@[simp] theorem State.raiseUnusable_beside (s : State) (c : ChannelId) (g : Segment) (p : Payload)
    (ch : ChannelId) : (s.raiseUnusable c g p).beside ch = s.beside ch := by
  simp [State.beside, State.compositions_of_steady (s.raiseUnusable_steady c g p)]
@[simp] theorem State.handOff_beside (s : State) (ch : ChannelId) (c : Composition) (g : Segment)
    (p : List Byte) : (s.handOff ch c g p).beside ch = s.beside ch := by
  simp only [State.handOff]; split <;> simp
@[simp] theorem State.placePrologue_beside (s : State) (ch : ChannelId) (c : Composition) (g : Segment)
    (p : Payload) : (s.placePrologue ch c g p).beside ch = s.beside ch := by
  simp only [State.placePrologue]; split <;> simp
@[simp] theorem State.placeSegment_beside (s : State) (ch : ChannelId) (c : Composition) (n : Nat)
    (g : Segment) (p : Payload) : (s.placeSegment ch c n g p).beside ch = s.beside ch := by
  simp only [State.placeSegment]; split <;> simp
@[simp] theorem State.judgePriming_beside (s : State) (ch : ChannelId) (b : Bool) :
    (s.judgePriming ch b).beside ch = s.beside ch := by
  simp only [State.judgePriming]; split <;> simp
@[simp] theorem State.reportComplete_beside (s : State) (ch : ChannelId) :
    (s.reportComplete ch).beside ch = s.beside ch := by simp [State.reportComplete]
@[simp] theorem State.afterPlacement_beside (s : State) (ch : ChannelId) (a b : Bool) :
    (s.afterPlacement ch a b).beside ch = s.beside ch := by
  simp only [State.afterPlacement]; (repeat' split) <;> simp
@[simp] theorem State.unpack_beside (s : State) (ch : ChannelId) (c : Composition) (n : Nat)
    (k : KeyChoice) (g : Segment) : (s.unpack ch c n k g).beside ch = s.beside ch := by
  simp only [State.unpack]; (repeat' split) <;> simp

/-! ### Playout and jumps (files 07 to 09) -/

@[simp] theorem State.keepPeriod_beside (s : State) (ch : ChannelId) :
    (s.keepPeriod ch).beside ch = s.beside ch := by simp [State.keepPeriod]
@[simp] theorem State.raiseDamage_beside (s : State) (c : ChannelId) (f : Frame) (ch : ChannelId) :
    (s.raiseDamage c f).beside ch = s.beside ch := by
  simp [State.beside, State.compositions_of_steady (s.raiseDamage_steady c f)]
@[simp] theorem State.closeAtFrame_beside (s : State) (ch : ChannelId) (f : Frame) (a b c : Bool) :
    (s.closeAtFrame ch f a b c).beside ch = s.beside ch := by
  simp only [State.closeAtFrame]; (repeat' split) <;> simp
@[simp] theorem State.present_beside (s : State) (ch : ChannelId) (f : Frame) (a b c : Bool) :
    (s.present ch f a b c).beside ch = s.beside ch := by
  simp only [State.present]; split <;> simp
@[simp] theorem State.presentNext_beside (s : State) (ch : ChannelId) (f : Frame) :
    (s.presentNext ch f).beside ch = s.beside ch := by simp [State.presentNext]
@[simp] theorem State.pausedDeadline_beside (s : State) (ch : ChannelId) :
    (s.pausedDeadline ch).beside ch = s.beside ch := by simp [State.pausedDeadline]
@[simp] theorem State.heldDeadline_beside (s : State) (ch : ChannelId) :
    (s.heldDeadline ch).beside ch = s.beside ch := by simp [State.heldDeadline]
@[simp] theorem State.suspend_beside (s : State) (ch : ChannelId) :
    (s.suspend ch).beside ch = s.beside ch := by simp [State.suspend]
@[simp] theorem State.suspendedDeadline_beside (s : State) (ch : ChannelId) :
    (s.suspendedDeadline ch).beside ch = s.beside ch := by simp [State.suspendedDeadline]
@[simp] theorem State.underrun_beside (s : State) (ch : ChannelId) :
    (s.underrun ch).beside ch = s.beside ch := by
  simp only [State.underrun]; split <;> simp
@[simp] theorem State.endShow_beside (s : State) (ch : ChannelId) :
    (s.endShow ch).beside ch = s.beside ch := by simp [State.endShow]
@[simp] theorem State.freePresenting_beside (s : State) (ch : ChannelId) :
    (s.freePresenting ch).beside ch = s.beside ch := by simp [State.freePresenting]
@[simp] theorem State.playingDeadline_beside (s : State) (ch : ChannelId) (b : Bool) :
    (s.playingDeadline ch b).beside ch = s.beside ch := by
  simp only [State.playingDeadline]; (repeat' split) <;> simp
@[simp] theorem State.holdOn_beside (s : State) (ch : ChannelId) :
    (s.holdOn ch).beside ch = s.beside ch := by
  simp only [State.holdOn]; split <;> simp
@[simp] theorem State.holdingDeadline_beside (s : State) (ch : ChannelId) :
    (s.holdingDeadline ch).beside ch = s.beside ch := by
  simp only [State.holdingDeadline]; (repeat' split) <;> simp
@[simp] theorem State.deadline_beside (s : State) (ch : ChannelId) :
    (s.deadline ch).beside ch = s.beside ch := by
  simp only [State.deadline]; split <;> simp
@[simp] theorem State.deadlineEdge_beside (s : State) (ch : ChannelId) :
    (s.deadlineEdge ch).beside ch = s.beside ch := by simp [State.deadlineEdge]
@[simp] theorem State.sampleEdge_beside (s : State) (ch : ChannelId) :
    (s.sampleEdge ch).beside ch = s.beside ch := by
  simp only [State.sampleEdge]; (repeat' split) <;> simp
@[simp] theorem State.reachDeadline_beside (s : State) (ch : ChannelId) :
    (s.reachDeadline ch).beside ch = s.beside ch := by
  unfold State.reachDeadline; split <;> simp
@[simp] theorem State.cue_beside (s : State) (ch : ChannelId) (c : Composition) (i n e : Nat)
    (l : Option Nat) : (s.cue ch c i n e l).beside ch = s.beside ch := by simp [State.cue]
@[simp] theorem State.stop_beside (s : State) (ch : ChannelId) :
    (s.stop ch).beside ch = s.beside ch := by
  have hended (o : LogOutcome) (rs : List AdmissionRecord) :
      (rs.foldl (fun st r => st.endRecord ch o r) s).beside ch = s.beside ch :=
    State.foldl_field (·.beside ch) _ (fun _ _ => by simp) rs s
  simp [State.stop, hended]
@[simp] theorem State.discardFetching_beside (s : State) (ch : ChannelId) :
    (s.discardFetching ch).beside ch = s.beside ch :=
  State.foldl_field (·.beside ch) _ (fun _ _ => by simp) _ _
@[simp] theorem State.uncharge_beside (s : State) (ch : ChannelId) (r : AdmissionRecord) :
    (s.uncharge ch r).beside ch = s.beside ch := by simp [State.uncharge]
@[simp] theorem State.jumpReleases_beside (s : State) (ch : ChannelId) (n : Nat) :
    (s.jumpReleases ch n).beside ch = s.beside ch := by
  simp only [State.jumpReleases]; (repeat' split) <;> simp
@[simp] theorem State.closeLeft_beside (s : State) (ch : ChannelId) (n : Nat) :
    (s.closeLeft ch n).beside ch = s.beside ch := by
  simp only [State.closeLeft]; (repeat' split) <;> simp
@[simp] theorem State.jumpFlush_beside (s : State) (ch : ChannelId) (n : Nat) :
    (s.jumpFlush ch n).beside ch = s.beside ch := by simp [State.jumpFlush]
@[simp] theorem State.jumpWithin_beside (s : State) (ch : ChannelId) (r : AdmissionRecord) (e n : Nat) :
    (s.jumpWithin ch r e n).beside ch = s.beside ch := by simp [State.jumpWithin]

theorem State.jumpAway_beside {s t : State} {ch : ChannelId} {c : Composition} {i n e k : Nat}
    (h : s.jumpAway ch c i n e k = .ok t) : t.beside ch = s.beside ch := by
  simp only [State.jumpAway] at h
  split at h
  · cases h
  · cases h; simp

theorem State.jump_beside {s t : State} {ch : ChannelId} {c : Composition} {n i e : Nat}
    (h : s.jump ch c n i e = .ok t) : t.beside ch = s.beside ch := by
  have haway : ∀ k, (s.jumpAway ch c i n e k).map
      (fun st => st.modChan ch (fun x => x.jumped i e k)) = .ok t → t.beside ch = s.beside ch := by
    intro k hk
    cases hj : s.jumpAway ch c i n e k with
    | error st => simp [hj, Except.map] at hk
    | ok u =>
      simp only [hj, Except.map, Except.ok.injEq] at hk
      subst hk
      simpa using State.jumpAway_beside hj
  simp only [State.jump] at h
  split at h
  · split at h
    · cases h; simp
    · exact haway _ h
  · exact haway _ h

end Sys2Proof.Machine

/-! ## The command link and start-up leave channels and compositions alone -/

namespace Sys2Proof.Machine

theorem State.stage_eq_of {s t : State} (hc : t.compositions = s.compositions)
    (h : ∀ ch, t.chan ch = s.chan ch) : t.stage = s.stage := by
  have ha : t.chanA = s.chanA := h .a
  have hb : t.chanB = s.chanB := h .b
  simp [State.stage, hc, ha, hb]

@[simp] theorem State.clock_stage (s : State) (c : BoothClock) :
    { s with clock := c }.stage = s.stage := rfl
@[simp] theorem State.raise_stage (s : State) (k : NoticeKind) (c : Option ChannelId) (d : NoticeDetail) :
    (s.raise k c d).stage = s.stage := rfl
@[simp] theorem State.modLink_stage (s : State) (f : CommandLink → CommandLink) :
    (s.modLink f).stage = s.stage := rfl
@[simp] theorem State.setReceiver_stage (s : State) (rx : LinkState) (held : List Byte)
    (stray : StrayRun) : (s.setReceiver rx held stray).stage = s.stage := rfl
@[simp] theorem State.sendMessage_stage (s : State) (tag kind : Byte) (body : List Byte) :
    (s.sendMessage tag kind body).stage = s.stage := by
  unfold State.sendMessage; split <;> rfl
@[simp] theorem State.linkFault_stage (s : State) (reason : LinkFaultReason) :
    (s.linkFault reason).stage = s.stage := State.sendMessage_stage _ _ _ _
@[simp] theorem State.reply_stage (s : State) (tag kind rkind : Byte) (stage : ExecStage)
    (body : List Byte) : (s.reply tag kind rkind stage body).stage = s.stage := rfl
@[simp] theorem State.answer_stage (s : State) (tag kind : Byte) (a : Answer) :
    (s.answer tag kind a).stage = s.stage := by cases a <;> rfl
@[simp] theorem State.popOutgoing_stage (s : State) : s.popOutgoing.stage = s.stage := rfl
@[simp] theorem holdFrame_stage (f : CommandFrame) (s : State) : (holdFrame f s).stage = s.stage := by
  unfold holdFrame; split <;> simp
@[simp] theorem State.huntByte_stage (s : State) (b : Byte) : (s.huntByte b).stage = s.stage := by
  simp only [State.huntByte]; (repeat' split) <;> simp
@[simp] theorem State.searchLength_stage (s : State) (b0 b1 : Byte) :
    (s.searchLength b0 b1).stage = s.stage := by
  simp only [State.searchLength]; (repeat' split) <;> simp
@[simp] theorem State.lengthByte_stage (s : State) (b : Byte) : (s.lengthByte b).stage = s.stage := by
  simp only [State.lengthByte]; (repeat' split) <;> simp
@[simp] theorem State.linkSilence_stage (s : State) : s.linkSilence.stage = s.stage := by
  simp only [State.linkSilence]; (repeat' split) <;> simp
@[simp] theorem State.messageSent_stage (s : State) : s.messageSent.stage = s.stage := by
  simp only [State.messageSent]; (repeat' split) <;> simp
@[simp] theorem State.evaluateWindows_stage (s : State) : s.evaluateWindows.stage = s.stage :=
  State.stage_eq_of (State.compositions_of_steady s.evaluateWindows_steady) (by simp)
@[simp] theorem State.refreshLogLow_stage (s : State) : s.refreshLogLow.stage = s.stage := rfl
@[simp] theorem State.refreshClockUnset_stage (s : State) : s.refreshClockUnset.stage = s.stage := rfl
@[simp] theorem State.revokeNow_stage (s : State) (i : Nat) : (s.revokeNow i).stage = s.stage :=
  State.stage_eq_of (State.compositions_of_steady (s.revokeNow_steady i)) (by simp)
@[simp] theorem State.modLicence_stage (s : State) (i : Nat) (f : Licence → Licence) :
    (s.modLicence i f).stage = s.stage :=
  State.stage_eq_of (by simp) (by simp)
@[simp] theorem State.sendNextReturn_stage (s : State) : s.sendNextReturn.stage = s.stage := by
  unfold State.sendNextReturn; split <;> rfl
@[simp] theorem State.clockTick_stage (s : State) : s.clockTick.stage = s.stage := by
  simp only [State.clockTick]; (repeat' split) <;> simp
theorem completeLicence_stage (l : LicenceLoad) (results : List (Option Material)) (s : State) :
    (completeLicence l results s).1.stage = s.stage := by
  simp only [completeLicence]; (repeat' split) <;> rfl
@[simp] theorem State.unwrapComplete_stage (s : State) (passes : List Bool) :
    (s.unwrapComplete passes).stage = s.stage := by
  simp only [State.unwrapComplete]
  split
  · split
    · exact completeLicence_stage _ _ s
    · rfl
    · rfl
  · rfl
theorem State.settle_stage (s : State) : s.settle.stage = s.stage :=
  State.evaluateWindows_stage _

/-- Start-up clears the composition table and both channels (R15, R51, R131). -/
theorem State.startUp_stage (s : State) (kind : ResetKind) :
    (s.startUp kind).stage = (List.replicate 32 none, Channel.reset, Channel.reset) := by
  simp only [State.startUp, State.startupNotices, State.refreshLogLow_stage,
    State.refreshClockUnset_stage, State.raise_stage]
  cases kind with
  | retainedLoss => rfl
  | mainPowerUp | pin | softReset => exact State.settle_stage { s.clearVolatile with powered := true }

end Sys2Proof.Machine

/-! ## What a request does beside its channel -/

namespace Sys2Proof.Machine

/-- A request that changes the composition table or a show list (R3, R5, R8, R10). -/
def editsLists : Request → Bool
  | .loadComposition _ | .dropComposition _ | .loadShow _ _ | .clearShow _ => true
  | _ => false

/-- A request on a channel is refused or acts on the channel it names: what holds of both holds after
it. -/
theorem onChannel_induction {P : State → Prop} {n : Byte} {k : Nat} {s : State}
    {act : ChannelId → State × Answer} (hs : P s)
    (hact : ∀ ch, channelOf n = some ch → P (act ch).1) : P (onChannel n k s act).1 := by
  unfold onChannel
  split
  · exact hact _ ‹_›
  · exact hs

section
variable {n : Byte} {ch : ChannelId} (s : State)

/-- A request on a channel leaves alone what its action leaves alone. -/
theorem onChannel_beside {k : Nat} {act : ChannelId → State × Answer}
    (h : ∀ c, channelOf n = some c → c = ch) (hact : (act ch).1.beside ch = s.beside ch) :
    (onChannel n k s act).1.beside ch = s.beside ch :=
  onChannel_induction (P := fun t => t.beside ch = s.beside ch) rfl fun c hc => h c hc ▸ hact

theorem doConfigureChannel_beside (h : ∀ c, channelOf n = some c → c = ch) (rate : Word)
    (priming resume stall : Half) :
    (doConfigureChannel n rate priming resume stall s).1.beside ch = s.beside ch :=
  onChannel_beside s h (by (repeat' split) <;> simp)
theorem doSetTracks_beside (h : ∀ c, channelOf n = some c → c = ch) (value mask : Byte) :
    (doSetTracks n value mask s).1.beside ch = s.beside ch :=
  onChannel_beside s h (by split <;> simp)
theorem doSetRoute_beside (h : ∀ c, channelOf n = some c → c = ch) (lanes : List LaneEntry) :
    (doSetRoute n lanes s).1.beside ch = s.beside ch := by
  unfold doSetRoute
  split
  · rfl
  · exact onChannel_beside s h (by split <;> simp)
theorem doSetStyle_beside (h : ∀ c, channelOf n = some c → c = ch) (style : Byte) (handle : Half)
    (minimum : Byte) : (doSetStyle n style handle minimum s).1.beside ch = s.beside ch :=
  onChannel_beside s h (by split <;> simp)
theorem doSetSubtitleOffset_beside (h : ∀ c, channelOf n = some c → c = ch) (track : Byte)
    (offset : Half) : (doSetSubtitleOffset n track offset s).1.beside ch = s.beside ch :=
  onChannel_beside s h (by split <;> simp)
theorem doChannelReport_beside (h : ∀ c, channelOf n = some c → c = ch) :
    (doChannelReport n s).1.beside ch = s.beside ch :=
  onChannel_beside s h rfl
theorem doCue_beside (h : ∀ c, channelOf n = some c → c = ch) (item reel : Byte) :
    (doCue n item reel s).1.beside ch = s.beside ch :=
  onChannel_beside s h (by (repeat' split) <;> simp)
theorem doStart_beside (h : ∀ c, channelOf n = some c → c = ch) :
    (doStart n s).1.beside ch = s.beside ch :=
  onChannel_beside s h (by split <;> simp)
theorem doPause_beside (h : ∀ c, channelOf n = some c → c = ch) :
    (doPause n s).1.beside ch = s.beside ch :=
  onChannel_beside s h (by split <;> simp)
theorem doResume_beside (h : ∀ c, channelOf n = some c → c = ch) :
    (doResume n s).1.beside ch = s.beside ch :=
  onChannel_beside s h (by dsimp only; (repeat' split) <;> simp)
theorem doStop_beside (h : ∀ c, channelOf n = some c → c = ch) :
    (doStop n s).1.beside ch = s.beside ch :=
  onChannel_beside s h (by split <;> simp)
theorem doJump_beside (h : ∀ c, channelOf n = some c → c = ch) (item reel : Byte) :
    (doJump n item reel s).1.beside ch = s.beside ch :=
  onChannel_beside s h (by
    dsimp only
    iterate 5 (split; · rfl)
    exact State.jump_beside ‹_›)
theorem doAcknowledge_beside (h : ∀ c, channelOf n = some c → c = ch) :
    (doAcknowledge n s).1.beside ch = s.beside ch :=
  onChannel_beside s h (by split <;> simp)

end

theorem doClearResetCause_stage (mask : Byte) (s : State) :
    (doClearResetCause mask s).1.stage = s.stage := by
  unfold doClearResetCause; split <;> rfl
theorem doLoadLicence_fst (l : LicenceLoad) (s : State) : (doLoadLicence l s).1 = s := by
  unfold doLoadLicence; (repeat' split) <;> rfl
theorem doRevokeLicence_stage (i : Byte) (s : State) : (doRevokeLicence i s).1.stage = s.stage := by
  simp only [doRevokeLicence]; (repeat' split) <;> simp
theorem doDeleteLicence_stage (i : Byte) (s : State) : (doDeleteLicence i s).1.stage = s.stage := by
  simp only [doDeleteLicence]; (repeat' split) <;> rfl
theorem doReadLicence_fst (i : Byte) (s : State) : (doReadLicence i s).1 = s := by
  unfold doReadLicence; (repeat' split) <;> rfl
theorem doCounterOp_stage (i op : Byte) (v : Half) (s : State) :
    (doCounterOp i op v s).1.stage = s.stage := by
  simp only [doCounterOp]; (repeat' split) <;> simp
theorem doSetTime_stage (t : Word) (s : State) : (doSetTime t s).1.stage = s.stage := by
  simp only [doSetTime]; split <;> simp
theorem doAdjustTime_stage (d : Half) (s : State) : (doAdjustTime d s).1.stage = s.stage := by
  simp only [doAdjustTime]
  (repeat' split) <;> simp
theorem doReleaseLog_stage (n : Byte) (oldest : Word) (s : State) :
    (doReleaseLog n oldest s).1.stage = s.stage := by
  simp only [doReleaseLog]; (repeat' split) <;> rfl
theorem doClearNotices_stage (mode : Byte) (pairs : List NoticePair) (s : State) :
    (doClearNotices mode pairs s).1.stage = s.stage := by
  simp only [doClearNotices]; (repeat' split) <;> rfl
theorem doMaskNotices_stage (value change : Half) (s : State) :
    (doMaskNotices value change s).1.stage = s.stage := by
  simp only [doMaskNotices]; split <;> rfl
theorem doReadComposition_fst (slot : Byte) (s : State) : (doReadComposition slot s).1 = s := by
  unfold doReadComposition; (repeat' split) <;> rfl

/-- A request other than those on compositions and show lists leaves alone what lies beside the channel it
names; one that names no channel leaves alone what lies beside either. -/
theorem perform_beside (r : Request) (s : State) (ch : ChannelId) (hr : editsLists r = false)
    (h : ∀ n c, channelByte r = some n → channelOf n = some c → c = ch) :
    (perform r s).1.beside ch = s.beside ch := by
  cases r with
  | identify | status | softReset | readTime | readLog | readNotices => rfl
  | loadComposition | dropComposition | loadShow | clearShow => cases hr
  | readComposition slot => exact congrArg (·.beside ch) (doReadComposition_fst slot s)
  | loadLicence l => exact congrArg (·.beside ch) (doLoadLicence_fst l s)
  | readLicence i => exact congrArg (·.beside ch) (doReadLicence_fst i s)
  | clearResetCause mask => exact State.beside_of_stage (doClearResetCause_stage mask s) ch
  | revokeLicence i => exact State.beside_of_stage (doRevokeLicence_stage i s) ch
  | deleteLicence i => exact State.beside_of_stage (doDeleteLicence_stage i s) ch
  | counterOp i op v => exact State.beside_of_stage (doCounterOp_stage i op v s) ch
  | setTime t => exact State.beside_of_stage (doSetTime_stage t s) ch
  | adjustTime d => exact State.beside_of_stage (doAdjustTime_stage d s) ch
  | releaseLog n oldest => exact State.beside_of_stage (doReleaseLog_stage n oldest s) ch
  | clearNotices mode pairs => exact State.beside_of_stage (doClearNotices_stage mode pairs s) ch
  | maskNotices value change => exact State.beside_of_stage (doMaskNotices_stage value change s) ch
  | configureChannel n => exact doConfigureChannel_beside s (h n · rfl) ..
  | setTracks n => exact doSetTracks_beside s (h n · rfl) ..
  | setRoute n => exact doSetRoute_beside s (h n · rfl) _
  | setStyle n => exact doSetStyle_beside s (h n · rfl) ..
  | setSubtitleOffset n => exact doSetSubtitleOffset_beside s (h n · rfl) ..
  | channelReport n => exact doChannelReport_beside s (h n · rfl)
  | cue n => exact doCue_beside s (h n · rfl) ..
  | start n => exact doStart_beside s (h n · rfl)
  | pause n => exact doPause_beside s (h n · rfl)
  | resume n => exact doResume_beside s (h n · rfl)
  | stop n => exact doStop_beside s (h n · rfl)
  | jump n => exact doJump_beside s (h n · rfl) ..
  | acknowledgeSuspension n => exact doAcknowledge_beside s (h n · rfl)

end Sys2Proof.Machine

/-! ## The composition table (R1 to R10) -/

namespace Sys2Proof.Machine

/-- A composition slot after another table entry is set (R2). -/
theorem State.compositionSlot_set (s : State) {i : Nat} (x : Option CompositionSlot)
    (hi : i < s.compositions.length) (n : Nat) :
    State.compositionSlot { s with compositions := s.compositions.set i x } n =
      if n = i then x else s.compositionSlot n := by
  by_cases hn : n = i
  · subst hn; simp [State.compositionSlot, hi]
  · simp [State.compositionSlot, hn, List.getElem?_set_ne (Ne.symm hn)]

theorem State.lt_of_compositionSlot {s : State} {n : Nat} {o : CompositionSlot}
    (h : s.compositionSlot n = some o) : n < s.compositions.length := by
  by_contra hn
  simp [State.compositionSlot, List.getElem?_eq_none (Nat.le_of_not_lt hn)] at h

/-- Every composition slot after the references of one list give way to those of another (R9). -/
theorem State.compositionSlot_move {s t : State} {old new : List ShowItem}
    (h : t.compositions = moveReferences old new s.compositions) (n : Nat) :
    t.compositionSlot n = (s.compositionSlot n).map (fun o =>
      { o with refs := o.refs + namings new n - namings old n }) := by
  simp only [State.compositionSlot, h, getElem?_moveReferences]
  cases s.compositions[n]? <;> rfl

theorem State.composition_eq_some {s : State} {n : Nat} {c : Composition} :
    s.composition n = some c ↔ ∃ o, s.compositionSlot n = some o ∧ o.record = c := by
  simp [State.composition]

@[simp] theorem namings_nil (n : Nat) : namings [] n = 0 := rfl

/-- A list that does not name a slot has no naming of it (R2). -/
theorem namings_eq_zero {items : List ShowItem} {n : Nat} :
    namings items n = 0 ↔ ∀ i ∈ items, i.slot.toNat ≠ n := by
  simp [namings]

/-- A show item passes the checks of R8 exactly when its slot is occupied, its entry reel and flag are in
range, and the sample rates agree. -/
theorem showItemRefusal_eq_none {s : State} {ch : ChannelId} {i : ShowItem} :
    showItemRefusal s ch i = none ↔
      i.slot.toNat < 32 ∧ i.pauseAfter.toNat ≤ 1 ∧
        ∃ c, s.composition i.slot.toNat = some c ∧ i.entryReel.toNat < c.reels.length ∧
          c.sampleRate.toNat = (s.chan ch).config.sampleRate := by
  unfold showItemRefusal
  by_cases h : 32 ≤ i.slot.toNat
  · simp [h, Nat.not_lt.mpr h]
  · cases hc : s.composition i.slot.toNat with
    | none => simp [h]
    | some c =>
      simp only [if_neg h, Option.some.injEq, exists_eq_left']
      grind

/-- No item of a list fails its checks exactly when each passes them (R8, check 5). -/
theorem firstBadItem_eq_none {s : State} {ch : ChannelId} {n : Nat} {items : List ShowItem} :
    firstBadItem s ch n items = none ↔ ∀ i ∈ items, showItemRefusal s ch i = none := by
  induction items generalizing n with
  | nil => simp [firstBadItem]
  | cons i rest ih =>
    cases h : showItemRefusal s ch i with
    | some st => simp [firstBadItem, h]
    | none => simp [firstBadItem, h, ih]

/-- The table that an accepted LOAD-SHOW leaves (R9). -/
theorem installShow_compositions (ch : ChannelId) (items : List ShowItem) (s : State) :
    (installShow ch items s).compositions =
      moveReferences (s.chan ch).items items s.compositions := by simp [installShow, Channel.items]

/-- LOAD-SHOW of good items in a state that takes a list installs it (R8, R9). -/
theorem doLoadShow_of_good {s : State} {ch : ChannelId} {items : List ShowItem}
    (hst : (s.chan ch).state ∈ [.idle, .loaded, .ended]) (h1 : 1 ≤ items.length)
    (h16 : items.length ≤ 16) (hgood : ∀ i ∈ items, showItemRefusal s ch i = none) :
    doLoadShow ch.number items s = (installShow ch items s, okReply [byteOf items.length]) := by
  have hacc : (s.chan ch).state.acceptsLoadShow = true := by
    generalize (s.chan ch).state = x at hst
    revert hst; cases x <;> decide
  simp [doLoadShow, hacc, firstBadItem_eq_none.mpr hgood, Nat.not_lt.mpr h1, Nat.not_lt.mpr h16]

/-- What LOAD-SHOW does: it changes nothing, or it installs a list of occupied slots on its channel. -/
theorem doLoadShow_cases (n : Byte) (items : List ShowItem) (s : State) :
    (doLoadShow n items s).1 = s ∨
      ∃ ch, channelOf n = some ch ∧ (∀ i ∈ items, showItemRefusal s ch i = none) ∧
        (doLoadShow n items s).1 = installShow ch items s := by
  unfold doLoadShow
  split
  · exact .inl rfl
  · rename_i ch hch
    iterate 2 (split; · exact .inl rfl)
    split
    · exact .inl rfl
    · exact .inr ⟨ch, hch, firstBadItem_eq_none.mp ‹_›, rfl⟩

/-- The state after an accepted CLEAR-SHOW (R10). -/
def removeShow (ch : ChannelId) (s : State) : State :=
  { s with compositions := moveReferences (s.chan ch).items [] s.compositions }.modChan ch (fun c =>
    { c with showList := none, state := .idle, position := none, lastRecord := none })

theorem removeShow_compositions (ch : ChannelId) (s : State) :
    (removeShow ch s).compositions = moveReferences (s.chan ch).items [] s.compositions := by
  simp [removeShow]

/-- CLEAR-SHOW in LOADED or ENDED removes the list (R10). -/
theorem doClearShow_of_state {s : State} {ch : ChannelId} (hst : (s.chan ch).state ∈ [.loaded, .ended]) :
    doClearShow ch.number s = (removeShow ch s, okReply []) := by
  obtain h | h : (s.chan ch).state = .loaded ∨ (s.chan ch).state = .ended := by simpa using hst
  · simp [doClearShow, h, removeShow, Channel.items]
  · simp [doClearShow, h, removeShow, Channel.items]

/-- What CLEAR-SHOW does: it changes nothing, or it removes the list of its channel. -/
theorem doClearShow_cases (n : Byte) (s : State) :
    (doClearShow n s).1 = s ∨
      ∃ ch, channelOf n = some ch ∧ (doClearShow n s).1 = removeShow ch s := by
  unfold doClearShow onChannel
  split
  · rename_i ch hch
    dsimp only
    split
    · exact .inr ⟨ch, hch, rfl⟩
    · exact .inr ⟨ch, hch, rfl⟩
    · exact .inl rfl
  · exact .inl rfl

/-- What LOAD-COMPOSITION does: it changes nothing, or it fills an EMPTY slot, of reference count 0. -/
theorem doLoadComposition_cases (c : Composition) (s : State) :
    (doLoadComposition c s).1 = s ∨
      ∃ i, s.compositions[i]? = some none ∧ (doLoadComposition c s).1 =
        { s with compositions := s.compositions.set i (some { record := c, refs := 0 }) } := by
  unfold doLoadComposition
  iterate 2 (split; · exact .inl rfl)
  split
  · exact .inl rfl
  · rename_i i hi
    exact .inr ⟨i, ((lowestEmpty_eq_some _ i).mp hi).1, rfl⟩

/-- What DROP-COMPOSITION does: it changes nothing, or it empties a slot of reference count 0. -/
theorem doDropComposition_cases (slot : Byte) (s : State) :
    (doDropComposition slot s).1 = s ∨
      ∃ o, s.compositionSlot slot.toNat = some o ∧ o.refs = 0 ∧ (doDropComposition slot s).1 =
        { s with compositions := s.compositions.set slot.toNat none } := by
  unfold doDropComposition
  split
  · exact .inl rfl
  · split
    · exact .inl rfl
    · split
      · exact .inl rfl
      · exact .inr ⟨_, ‹_›, by omega, rfl⟩

end Sys2Proof.Machine

/-! ## The reference law (R2) -/

namespace Sys2Proof.Machine

/-- The reference law speaks of the composition table and the show lists alone. -/
theorem ReferenceLaw.of_lists {s t : State} (hs : ReferenceLaw s) (h : t.lists = s.lists) :
    ReferenceLaw t := by
  obtain ⟨hc, ha, hb⟩ : t.compositions = s.compositions ∧ t.chanA.showList = s.chanA.showList ∧
      t.chanB.showList = s.chanB.showList := by simpa [State.lists] using h
  have hslot : t.compositionSlot = s.compositionSlot := by funext n; simp [State.compositionSlot, hc]
  have hia : t.chanA.items = s.chanA.items := by simp [Channel.items, ha]
  have hib : t.chanB.items = s.chanB.items := by simp [Channel.items, hb]
  obtain ⟨hocc, hcount⟩ := hs
  refine ⟨fun ch => ?_, by simpa [hslot, hia, hib] using hcount⟩
  cases ch
  · simpa [hslot, hia] using hocc .a
  · simpa [hslot, hib] using hocc .b

theorem ReferenceLaw.of_stage {s t : State} (hs : ReferenceLaw s) (h : t.stage = s.stage) :
    ReferenceLaw t := hs.of_lists (State.lists_of_stage h)

theorem ReferenceLaw.of_beside {s t : State} {ch : ChannelId} (hs : ReferenceLaw s)
    (h : t.beside ch = s.beside ch) : ReferenceLaw t := hs.of_lists (State.lists_of_beside h)

/-- The reference count of a slot, seen from one channel. -/
theorem ReferenceLaw.refs_eq {s : State} (hs : ReferenceLaw s) (ch : ChannelId) {n : Nat}
    {o : CompositionSlot} (h : s.compositionSlot n = some o) :
    o.refs = namings (s.chan ch).items n + namings (s.chan ch.other).items n := by
  have := hs.2 n o h
  cases ch
  · exact this
  · exact this.trans (Nat.add_comm _ _)

/-- The reference law from one channel's counts. -/
theorem ReferenceLaw.of_chan {s : State} (ch : ChannelId)
    (hown : ∀ i ∈ (s.chan ch).items, (s.compositionSlot i.slot.toNat).isSome = true)
    (hother : ∀ i ∈ (s.chan ch.other).items, (s.compositionSlot i.slot.toNat).isSome = true)
    (hrefs : ∀ n o, s.compositionSlot n = some o →
      o.refs = namings (s.chan ch).items n + namings (s.chan ch.other).items n) : ReferenceLaw s := by
  cases ch
  · exact ⟨fun c => by cases c; exacts [hown, hother], hrefs⟩
  · exact ⟨fun c => by cases c; exacts [hother, hown],
      fun n o h => (hrefs n o h).trans (Nat.add_comm _ _)⟩

/-- Without compositions and show lists the law holds. -/
theorem referenceLaw_of_empty {s : State}
    (h : s.stage = (List.replicate 32 none, Channel.reset, Channel.reset)) : ReferenceLaw s := by
  have hc : s.compositions = List.replicate 32 none := congrArg (·.1) h
  have hitems (ch : ChannelId) : (s.chan ch).items = [] := by
    cases ch
    · exact congrArg (·.2.1.items) h
    · exact congrArg (·.2.2.items) h
  have hslot (n : Nat) : s.compositionSlot n = none := by
    simp only [State.compositionSlot, hc, List.getElem?_replicate]
    split <;> rfl
  exact ⟨fun ch i hi => by simp [hitems] at hi, fun n o h => by simp [hslot] at h⟩

/-- A list installed on a channel, with the references moved, keeps the law (R9, R10). -/
theorem ReferenceLaw.move {s t : State} {ch : ChannelId} {new : List ShowItem} (hs : ReferenceLaw s)
    (hocc : ∀ i ∈ new, (s.compositionSlot i.slot.toNat).isSome = true)
    (hc : t.compositions = moveReferences (s.chan ch).items new s.compositions)
    (hown : (t.chan ch).items = new) (hother : (t.chan ch.other).items = (s.chan ch.other).items) :
    ReferenceLaw t := by
  have hslot := State.compositionSlot_move hc
  refine .of_chan ch ?_ ?_ ?_
  · simpa [hown, hslot] using hocc
  · simpa [hother, hslot] using hs.1 ch.other
  · intro n o' h
    rw [hslot, Option.map_eq_some_iff] at h
    obtain ⟨o, ho, rfl⟩ := h
    have := hs.refs_eq ch ho
    simp only [hown, hother]
    omega

/-- A slot that no list names may be filled with a count of 0, or emptied (R3, R5). -/
theorem ReferenceLaw.setSlot {s : State} {i : Nat} {x : Option CompositionSlot} (hs : ReferenceLaw s)
    (hi : i < s.compositions.length) (hfree : ∀ ch, namings (s.chan ch).items i = 0)
    (hx : ∀ o, x = some o → o.refs = 0) :
    ReferenceLaw { s with compositions := s.compositions.set i x } := by
  have hslot := s.compositionSlot_set x hi
  constructor
  · intro ch j hj
    have hj : j ∈ (s.chan ch).items := by cases ch <;> exact hj
    rw [hslot, if_neg (namings_eq_zero.mp (hfree ch) j hj)]
    exact hs.1 ch j hj
  · intro n o ho
    rw [hslot] at ho
    split at ho
    · subst n
      exact (hx o ho).trans (by simpa using (congr_arg₂ (· + ·) (hfree .a) (hfree .b)).symm)
    · exact hs.2 n o ho

/-- No list names an EMPTY slot. -/
theorem ReferenceLaw.unnamed_of_empty {s : State} {i : Nat} (hs : ReferenceLaw s)
    (hi : s.compositions[i]? = some none) (ch : ChannelId) : namings (s.chan ch).items i = 0 := by
  refine namings_eq_zero.mpr fun j hj he => ?_
  have := hs.1 ch j hj
  simp [he, State.compositionSlot, hi] at this

/-- No list names a slot of reference count 0. -/
theorem ReferenceLaw.unnamed_of_refs {s : State} {i : Nat} {o : CompositionSlot} (hs : ReferenceLaw s)
    (ho : s.compositionSlot i = some o) (h0 : o.refs = 0) (ch : ChannelId) :
    namings (s.chan ch).items i = 0 := by
  have := hs.refs_eq ch ho
  omega

/-! ### Requests -/

theorem installShow_referenceLaw {s : State} {ch : ChannelId} {items : List ShowItem}
    (hs : ReferenceLaw s) (h : ∀ i ∈ items, showItemRefusal s ch i = none) :
    ReferenceLaw (installShow ch items s) := by
  refine hs.move (fun i hi => ?_) (installShow_compositions ch items s) ?_ ?_
  · obtain ⟨-, -, c, hc, -⟩ := showItemRefusal_eq_none.mp (h i hi)
    obtain ⟨o, ho, -⟩ := State.composition_eq_some.mp hc
    simp [ho]
  · simp [installShow, Channel.items]
  · rw [installShow, State.chan_modChan_other _ _ ch.other_ne]
    cases ch <;> rfl

theorem removeShow_referenceLaw {s : State} (ch : ChannelId) (hs : ReferenceLaw s) :
    ReferenceLaw (removeShow ch s) := by
  refine hs.move (by simp) (removeShow_compositions ch s) ?_ ?_
  · simp [removeShow, Channel.items]
  · rw [removeShow, State.chan_modChan_other _ _ ch.other_ne]
    cases ch <;> rfl

/-- Every request keeps the reference law. -/
theorem perform_referenceLaw (r : Request) {s : State} (hs : ReferenceLaw s) :
    ReferenceLaw (perform r s).1 := by
  cases hr : editsLists r with
  | false =>
    refine hs.of_beside (ch := ((channelByte r).bind channelOf).getD .a) (perform_beside r s _ hr ?_)
    intro n c hn hc
    simp [hn, hc]
  | true =>
    cases r with
    | loadComposition c =>
      obtain h | ⟨i, hi, h⟩ := doLoadComposition_cases c s
      · exact h.symm ▸ hs
      · have hlt : i < s.compositions.length := (List.getElem?_eq_some_iff.mp hi).1
        exact h.symm ▸ hs.setSlot hlt (hs.unnamed_of_empty hi) (by rintro o ⟨⟩; rfl)
    | dropComposition slot =>
      obtain h | ⟨o, ho, h0, h⟩ := doDropComposition_cases slot s
      · exact h.symm ▸ hs
      · exact h.symm ▸ hs.setSlot (State.lt_of_compositionSlot ho) (hs.unnamed_of_refs ho h0) nofun
    | loadShow n items =>
      obtain h | ⟨ch, -, hgood, h⟩ := doLoadShow_cases n items s
      · exact h.symm ▸ hs
      · exact h.symm ▸ installShow_referenceLaw hs hgood
    | clearShow n =>
      obtain h | ⟨ch, -, h⟩ := doClearShow_cases n s
      · exact h.symm ▸ hs
      · exact h.symm ▸ removeShow_referenceLaw ch hs
    | _ => cases hr

theorem enterRequest_referenceLaw (tag : Byte) (r : Request) {s : State} (hs : ReferenceLaw s) :
    ReferenceLaw (enterRequest tag r s) := by
  simp only [enterRequest]
  split
  · exact hs.of_stage (State.answer_stage ..)
  · exact (perform_referenceLaw r hs).of_stage (State.answer_stage ..)

theorem executeFrame_referenceLaw (f : CommandFrame) {s : State} (hs : ReferenceLaw s) :
    ReferenceLaw (executeFrame f s) := by
  unfold executeFrame
  split
  · exact hs.of_stage (State.reply_stage ..)
  · split
    · exact hs.of_stage (State.answer_stage ..)
    · split
      · exact hs.of_stage (State.answer_stage ..)
      · exact enterRequest_referenceLaw f.tag _ hs

theorem submit_referenceLaw (tag : Byte) (r : Request) {s : State} (hs : ReferenceLaw s) :
    ReferenceLaw (submit tag r s) := by
  unfold submit
  split
  · exact enterRequest_referenceLaw tag r hs
  · exact hs.of_stage (holdFrame_stage _ s)

/-! ### Bytes and messages of the command link -/

theorem placeFrame_referenceLaw (f : CommandFrame) {s : State} (hs : ReferenceLaw s) :
    ReferenceLaw (placeFrame f s) := by
  unfold placeFrame
  split
  · exact executeFrame_referenceLaw f hs
  · exact hs.of_stage (holdFrame_stage f s)

theorem takeLinkByte_referenceLaw (b : Byte) {s : State} (hs : ReferenceLaw s) :
    ReferenceLaw (s.takeLinkByte b) := by
  unfold State.takeLinkByte
  split
  · exact hs.of_stage (s.huntByte_stage b)
  · exact hs.of_stage (s.lengthByte_stage b)
  · simp only [State.frameByte]
    split
    · exact hs.of_stage (State.setReceiver_stage ..)
    · split
      · exact placeFrame_referenceLaw _ (hs.of_stage (State.setReceiver_stage ..))
      · exact hs.of_stage (State.linkFault_stage _ _)

theorem takeLinkBytes_referenceLaw (bytes : List Byte) {s : State} (hs : ReferenceLaw s) :
    ReferenceLaw (s.takeLinkBytes bytes) := by
  induction bytes generalizing s with
  | nil => exact hs
  | cons b rest ih => exact ih (takeLinkByte_referenceLaw b hs)

theorem startUp_referenceLaw (kind : ResetKind) (s : State) : ReferenceLaw (s.startUp kind) :=
  referenceLaw_of_empty (s.startUp_stage kind)

theorem replySent_referenceLaw {s : State} (hs : ReferenceLaw s) : ReferenceLaw s.replySent := by
  unfold State.replySent
  split
  · split
    · split
      · simp only [State.emptyPlace]
        split
        · exact executeFrame_referenceLaw _ (hs.of_stage rfl)
        · exact hs.of_stage rfl
      · exact startUp_referenceLaw _ s
      · exact hs
    · exact hs
  · exact hs

/-! ### Ingest port and unpacker -/

theorem takePathByte_referenceLaw (b : Byte) {s : State} (hs : ReferenceLaw s) :
    ReferenceLaw (s.takePathByte b) := by
  have harrive (bytes : List Byte) : ReferenceLaw (s.arriveHeld bytes) :=
    hs.of_beside (ch := headerChannel bytes) (by simp [State.arriveHeld])
  have hpath (p : ForwardPath) : ReferenceLaw (s.setPath p) := hs.of_stage rfl
  simp only [State.takePathByte]
  split
  · exact hpath _
  · split
    · exact hpath _
    · split
      · exact hs.of_stage rfl
      · split
        · exact harrive _
        · exact hpath _
  · split
    · exact hpath _
    · exact harrive _

theorem takePathBytes_referenceLaw (bytes : List Byte) {s : State} (hs : ReferenceLaw s) :
    ReferenceLaw (s.takePathBytes bytes) := by
  induction bytes generalizing s with
  | nil => exact hs
  | cons b rest ih => exact ih (takePathByte_referenceLaw b hs)

theorem takeSegment_referenceLaw {s : State} (hs : ReferenceLaw s) : ReferenceLaw s.takeSegment := by
  unfold State.takeSegment
  split
  · exact hs
  · split
    · exact hs
    · exact hs.of_beside (State.serve_beside s _)

theorem finishSegment_referenceLaw {s : State} (hs : ReferenceLaw s) : ReferenceLaw s.finishSegment := by
  simp only [State.finishSegment]
  split
  · exact hs
  · rename_i w _
    refine hs.of_beside (ch := w.channel) ?_
    (repeat' split) <;> simp

/-! ### Steps -/

/-- A command that needs main power acts, or changes nothing. -/
theorem of_whenPowered {P : State → Prop} {s after t : State} (h : whenPowered s after = .next t)
    (hs : P s) (hafter : P after) : P t := by
  simp only [whenPowered, Host.Outcome.next.injEq] at h
  subst h
  split
  · exact hafter
  · exact hs

/-- Every command keeps the reference law. -/
theorem exec_referenceLaw {c : Instr} {s t : State} (hs : ReferenceLaw s) (h : exec c s = .next t) :
    ReferenceLaw t := by
  cases hc : requestOf c with
  | some p =>
    exact of_whenPowered ((exec_of_requestOf s hc).symm.trans h) hs (submit_referenceLaw p.1 p.2 hs)
  | none =>
    cases c with
    | commandFrameCompleted bytes | frameFault bytes | syncFound bytes =>
      exact of_whenPowered h hs (takeLinkBytes_referenceLaw bytes hs)
    | segmentHeader bytes | segmentArrival bytes | markerFound bytes =>
      exact of_whenPowered h hs (takePathBytes_referenceLaw bytes hs)
    | replySent => exact of_whenPowered h hs (replySent_referenceLaw hs)
    | partialFrameTimeout => exact of_whenPowered h hs (hs.of_stage s.linkSilence_stage)
    | retainedLoss => cases h; exact startUp_referenceLaw .retainedLoss s
    | mainPowerUp => cases h; exact startUp_referenceLaw .mainPowerUp s
    | pin => exact of_whenPowered h hs (startUp_referenceLaw .pin s)
    | mainPowerDown => cases h; exact referenceLaw_of_empty rfl
    | returnMessageSend => exact of_whenPowered h hs (hs.of_stage s.sendNextReturn_stage)
    | segmentTake => exact of_whenPowered h hs (takeSegment_referenceLaw hs)
    | segmentFinish => exact of_whenPowered h hs (finishSegment_referenceLaw hs)
    | deadline ch => exact of_whenPowered h hs (hs.of_beside (s.reachDeadline_beside ch))
    | boothClockTick => cases h; exact hs.of_stage s.clockTick_stage
    | licenceUnwrapComplete passes => exact of_whenPowered h hs (hs.of_stage (s.unwrapComplete_stage passes))
    | sampleClockEdge ch => exact of_whenPowered h hs (hs.of_beside (s.sampleEdge_beside ch))
    | outgoingMessageSent => exact of_whenPowered h hs (hs.of_stage s.messageSent_stage)
    | subtitlePortSend => exact of_whenPowered h hs (hs.of_stage rfl)
    | _ => simp [requestOf] at hc

/-- Settles O24: the law depends on the composition table and the show lists alone (`ReferenceLaw.of_lists`).
LOAD-SHOW and CLEAR-SHOW move the counts with the lists (`ReferenceLaw.move`), LOAD- and DROP-COMPOSITION
touch a slot that no list names (`ReferenceLaw.setSlot`), resets empty everything, and every other command
leaves both alone. -/
theorem referenceLawIsKept : Obligations.ReferenceLawIsKept := by
  intro s t hs h
  unfold step at h
  split at h
  · cases h; exact hs
  · rename_i c rest _
    exact exec_referenceLaw (s := { s with pending := rest }) (hs.of_lists rfl) h

end Sys2Proof.Machine

/-! ## The requests of file 01, their replies included -/

namespace Sys2Proof.Machine

/-- A record within the ranges of R1 and R3 passes LOAD-COMPOSITION's checks. -/
theorem checks_of_valid {c : Composition} (h : ValidComposition c) :
    countsInRange c = true ∧ compositionValuesOk c = true := by
  obtain ⟨hid, hframe, hrate, hsource, hlogged, hreels, hreels', htracks, htrack, hreel, hsum, hsound,
    hsub⟩ := h
  refine ⟨by simp [countsInRange, hreels, hreels', htracks], ?_⟩
  have hsound' : (c.hasSound || c.reels.all (fun r => r.soundKey = 0)) = true := by
    by_cases h0 : c.sourceChannels = 0
    · simpa [Composition.hasSound, h0] using hsound h0
    · have hs : c.hasSound = true := by simpa [Composition.hasSound] using h0
      simp [hs]
  have hsub' : (!c.tracks.isEmpty || c.reels.all (fun r => r.subtitleKey = 0)) = true := by
    by_cases h0 : c.tracks = []
    · simpa [h0] using hsub h0
    · simp [h0]
  have hframe' : frameRates.contains c.rate = true := by
    simpa [frameRates, Composition.rate] using hframe
  have hrate' : isSampleRate c.sampleRate.toNat = true := by simpa [isSampleRate] using hrate
  have hsum' : c.framesFrom 0 ≤ 1000000 := by simpa [Composition.framesFrom] using hsum
  have htrack' : c.tracks.all (fun t =>
      t.kind.toNat ≤ 1 && 1 ≤ t.tickRate.toNat && t.tickRate.toNat ≤ 1000) = true := by
    simpa [and_assoc] using htrack
  have hreel' : c.reels.all (fun r => 1 ≤ r.duration.toNat && r.duration.toNat ≤ 259200) = true := by
    simpa using hreel
  simp only [compositionValuesOk, hsound', hsub', hframe', hrate', hsum', htrack', hreel', hid, hsource,
    hlogged, ne_eq, not_false_eq_true, decide_true, Bool.and_self]

/-- A composition id is held exactly when an occupied slot has it (R4). -/
theorem State.holdsComposition_eq_false {s : State} {id : Id64}
    (h : ∀ n o, s.compositionSlot n = some o → o.record.id ≠ id) : s.holdsComposition id = false := by
  simp only [State.holdsComposition, List.any_eq_false]
  intro x hx
  obtain ⟨n, hn⟩ := List.mem_iff_getElem?.mp hx
  cases x with
  | none => simp
  | some o => simpa using h n o (by simp [State.compositionSlot, hn])

/-- Settles O20: a part that takes the request performs it at once, and each clause is one branch of
LOAD-COMPOSITION or DROP-COMPOSITION. -/
theorem compositionTableLoadsAndDrops : Obligations.CompositionTableLoadsAndDrops := by
  intro s tag ht
  refine ⟨fun c i hvalid hnew hi hlow => ?_, fun slot o h32 ho => ?_, fun slot h32 ho => ?_,
    fun slot h32 => ?_⟩
  · obtain ⟨hcounts, hvalues⟩ := checks_of_valid hvalid
    have hlow : lowestEmpty s.compositions = some i := (lowestEmpty_eq_some _ i).mpr ⟨hi, hlow⟩
    rw [exec_of_takes ht rfl]
    simp only [perform, doLoadComposition, hcounts, hvalues, State.holdsComposition_eq_false hnew, hlow]
    rfl
  · rw [exec_of_takes ht rfl]
    by_cases h0 : o.refs = 0
    · simp only [perform, doDropComposition, if_neg (Nat.not_le.mpr h32), ho, h0]
      rfl
    · simp only [perform, doDropComposition, if_neg (Nat.not_le.mpr h32), ho, h0,
        if_pos (Nat.pos_of_ne_zero h0)]
      rfl
  · rw [exec_of_takes ht rfl]
    simp only [perform, doDropComposition, if_neg (Nat.not_le.mpr h32), ho]
    rfl
  · rw [exec_of_takes ht rfl]
    simp only [perform, doDropComposition, if_pos h32]
    rfl

/-- Settles O21: READ-COMPOSITION replies from the slot and keeps the state. -/
theorem readCompositionShowsTheSlot : Obligations.ReadCompositionShowsTheSlot := by
  intro s tag slot ht
  rw [exec_of_takes ht rfl]
  refine ⟨fun o h32 ho => ?_, fun h32 ho => ?_, fun h32 => ⟨List.replicate 23 0, ?_⟩⟩
  · simp only [perform, doReadComposition, if_neg (Nat.not_le.mpr h32), ho]
    rfl
  · simp only [perform, doReadComposition, if_neg (Nat.not_le.mpr h32), ho]
    rfl
  · simp only [perform, doReadComposition, if_pos h32]
    rfl

/-- An installed list: the channel's fields that LOAD-SHOW sets, and the table (R9). -/
theorem installShow_eq (ch : ChannelId) (items : List ShowItem) (s : State) :
    installShow ch items s = { s.setChan ch { s.chan ch with
        showList := some items, state := .loaded, position := none, lastRecord := none } with
      compositions := (installShow ch items s).compositions } := by
  cases ch <;> rfl

/-- A removed list: the channel's fields that CLEAR-SHOW sets, and the table (R10). -/
theorem removeShow_eq (ch : ChannelId) (s : State) :
    removeShow ch s = { s.setChan ch { s.chan ch with
        showList := none, state := .idle, position := none, lastRecord := none } with
      compositions := (removeShow ch s).compositions } := by
  cases ch <;> rfl

/-- Settles O22: an accepted LOAD-SHOW leaves `installShow`, an accepted CLEAR-SHOW `removeShow`, and both
move the references of every slot. -/
theorem showListsTakeAndGiveReferences : Obligations.ShowListsTakeAndGiveReferences := by
  intro s tag ch ht
  refine ⟨fun items hst h1 h16 hgood => ⟨installShow ch items s, ?_, installShow_eq ch items s,
    State.compositionSlot_move (installShow_compositions ch items s)⟩,
    fun hst => ⟨removeShow ch s, ?_, removeShow_eq ch s, fun n => ?_⟩⟩
  · have hgood' : ∀ i ∈ items, showItemRefusal s ch i = none := fun i hi =>
      showItemRefusal_eq_none.mpr (hgood i hi)
    rw [exec_of_takes ht rfl, perform, doLoadShow_of_good hst h1 h16 hgood']
    rfl
  · rw [exec_of_takes ht rfl, perform, doClearShow_of_state hst]
    rfl
  · simp [State.compositionSlot_move (removeShow_compositions ch s)]

/-- Settles O23: `clampedConfig` is what R14 clamps, and a change of rate outside IDLE is refused. -/
theorem configurationIsClamped : Obligations.ConfigurationIsClamped := by
  intro s tag ch rate priming resume stall ht hrate
  have hrate' : isSampleRate rate.toNat = true := by simpa [isSampleRate] using hrate
  rw [exec_of_takes ht rfl]
  refine ⟨fun h => ⟨_, _, _, rfl, rfl, rfl, ?_⟩, fun hne hst => ⟨List.replicate 10 0, ?_⟩⟩
  · have hok : ¬(rate.toNat ≠ (s.chan ch).config.sampleRate ∧ (s.chan ch).state ≠ .idle) := by
      rintro ⟨hne, hst⟩
      exact h.elim (hne ·.symm) hst
    simp only [perform, doConfigureChannel, onChannel_number, hrate', if_neg hok]
    rfl
  · simp only [perform, doConfigureChannel, onChannel_number, hrate', if_pos (And.intro hne.symm hst)]
    rfl

end Sys2Proof.Machine

/-! ## The channels beside each other (R115, R178) -/

namespace Sys2Proof.Machine

/-- A request row leaves the channels as they were, or as its action leaves them. -/
theorem request_chan {tag : Byte} {r : Request} {s t : State} (h : request tag r s = .next t)
    (ch : ChannelId) : t.chan ch = s.chan ch ∨ t.chan ch = (perform r s).1.chan ch := by
  have hsubmit : (submit tag r s).chan ch = s.chan ch ∨
      (submit tag r s).chan ch = (perform r s).1.chan ch := by
    unfold submit
    split
    · simp only [enterRequest]
      split
      · exact .inl (State.chan_of_stage (State.answer_stage ..) ch)
      · exact .inr (State.chan_of_stage (State.answer_stage ..) ch)
    · exact .inl (State.chan_of_stage (holdFrame_stage _ s) ch)
  exact of_whenPowered (P := fun t => t.chan ch = s.chan ch ∨ t.chan ch = (perform r s).1.chan ch) h
    (.inl rfl) hsubmit

/-- The action of a request on a channel leaves the other channel as it is. -/
theorem perform_chan_other {r : Request} {n : Byte} {ch : ChannelId} (s : State)
    (hn : channelByte r = some n) (hch : channelOf n = some ch) :
    (perform r s).1.chan ch.other = s.chan ch.other := by
  cases hr : editsLists r with
  | false =>
    refine State.chan_other_of_beside (perform_beside r s ch hr fun m c hm hc => ?_)
    obtain rfl : n = m := by simpa [hn] using hm
    simpa [hch] using hc.symm
  | true =>
    cases r with
    | loadShow m items =>
      obtain rfl : m = n := by simpa [channelByte] using hn
      obtain h | ⟨c, hc, -, h⟩ := doLoadShow_cases m items s
      · exact congrArg (·.chan ch.other) h
      · obtain rfl : ch = c := by simpa [hch] using hc
        refine (congrArg (·.chan ch.other) h).trans ?_
        cases ch <;> rfl
    | clearShow m =>
      obtain rfl : m = n := by simpa [channelByte] using hn
      obtain h | ⟨c, hc, h⟩ := doClearShow_cases m s
      · exact congrArg (·.chan ch.other) h
      · obtain rfl : ch = c := by simpa [hch] using hc
        refine (congrArg (·.chan ch.other) h).trans ?_
        cases ch <;> rfl
    | loadComposition | dropComposition => cases hn
    | _ => cases hr

/-- The action of a request that names no channel leaves both channels as they are. -/
theorem perform_chan_of_none {r : Request} (s : State) (hn : channelByte r = none) (ch : ChannelId) :
    (perform r s).1.chan ch = s.chan ch := by
  cases hr : editsLists r with
  | false =>
    exact State.chan_of_beside (fun c => perform_beside r s c hr (by simp [hn])) ch
  | true =>
    cases r with
    | loadComposition c =>
      obtain h | ⟨i, -, h⟩ := doLoadComposition_cases c s
      · exact congrArg (·.chan ch) h
      · exact (congrArg (·.chan ch) h).trans (by cases ch <;> rfl)
    | dropComposition slot =>
      obtain h | ⟨o, -, -, h⟩ := doDropComposition_cases slot s
      · exact congrArg (·.chan ch) h
      · exact (congrArg (·.chan ch) h).trans (by cases ch <;> rfl)
    | loadShow | clearShow => cases hn
    | _ => cases hr

/-- Settles O51: a request row changes the channels only by its action, which stays beside the other channel
(`perform_beside`); so do deadlines and edges (`State.reachDeadline_beside`, `State.sampleEdge_beside`). -/
theorem channelsDoNotInterfere : Obligations.ChannelsDoNotInterfere := by
  intro c s t h
  refine ⟨fun tag r n ch hc hn hch => ?_, fun tag r ch hc hn => ?_, fun ch hc => ?_⟩
  · have hreq := (exec_of_requestOf s hc).symm.trans h
    exact (request_chan hreq ch.other).elim id (·.trans (perform_chan_other s hn hch))
  · have hreq := (exec_of_requestOf s hc).symm.trans h
    exact (request_chan hreq ch).elim id (·.trans (perform_chan_of_none s hn ch))
  · obtain rfl | rfl := hc
    · exact of_whenPowered (P := fun t => t.chan ch.other = s.chan ch.other) h rfl
        (State.chan_other_of_beside (s.reachDeadline_beside ch))
    · exact of_whenPowered (P := fun t => t.chan ch.other = s.chan ch.other) h rfl
        (State.chan_other_of_beside (s.sampleEdge_beside ch))

end Sys2Proof.Machine

/-! ## The state after reset -/

namespace Sys2Proof.Machine

@[simp] theorem State.reset_chan (ch : ChannelId) : State.reset.chan ch = Channel.reset := by
  cases ch <;> rfl

/-- After reset every licence slot is EMPTY (R92). -/
@[simp] theorem State.reset_licence (i : Nat) : State.reset.licence i = none := by
  simp only [State.licence, State.reset, List.getElem?_replicate]
  split <;> rfl

theorem State.reset_recordLaws : RecordLaws State.reset := by
  refine fun _ => ⟨fun i l h => ?_, ⟨List.nodup_nil, nofun⟩, ⟨List.nodup_nil, nofun⟩, nofun,
    fun i l h => ?_⟩
  · simp at h
  · simp at h

/-- After reset two kinds are pending, each once (R194). -/
theorem State.reset_noticeLaw : NoticeLaw State.reset := by
  unfold NoticeLaw; decide

theorem Channel.reset_slotLaw : Channel.reset.slotLaw := by
  unfold Channel.slotLaw; decide

theorem Channel.reset_showLaw : Channel.reset.showLaw :=
  ⟨by simp [Channel.timerLaw, Channel.reset, FrameTimer.reset, ChannelState.timerStopped],
    ⟨Nat.zero_le 2, fun _ => rfl⟩, nofun⟩

/-- Settles O60: law by law; after reset tables, queues and lists are empty. -/
theorem resetMeetsEveryLaw : Obligations.ResetMeetsEveryLaw := by
  refine ⟨⟨rfl, rfl⟩, fun i l h => ?_, fun i l h => ?_, Nat.zero_le 300, State.reset_recordLaws,
    ⟨Nat.zero_le 128, .nil, nofun⟩, rfl, State.reset_noticeLaw, fun _ => ⟨rfl, rfl⟩, ⟨Nat.zero_le 16, nofun⟩,
    referenceLaw_of_empty rfl, fun ch => ?_, fun ch => ?_, fun ch t => ?_, fun ch => ?_, rfl⟩
  · simp at h
  · simp at h
  · simpa using Channel.reset_showLaw
  · simpa using Channel.reset_slotLaw
  · simp [Channel.reset, Subtitles.reset]
  · rw [State.reset_chan]; exact ⟨rfl, rfl⟩

end Sys2Proof.Machine

/-! ## The conversions of file 02 and the gains (R26, R29 to R31) -/

namespace Sys2Proof.Machine

@[simp] theorem roundDiv_natCast (m b : Nat) : roundDiv m b = ((2 * m + b) / (2 * b) : Nat) := by
  simp [roundDiv]

@[simp] theorem roundDiv_zero (b : Nat) : roundDiv 0 b = 0 := by
  have h : b / (2 * b) = 0 := Nat.div_eq_zero_iff.mpr (by omega)
  simpa [h] using roundDiv_natCast 0 b

/-- Rounding with ties away from zero treats both signs alike. -/
theorem roundDiv_neg (a : Int) (b : Nat) : roundDiv (-a) b = -roundDiv a b := by
  obtain h | rfl | h := lt_trichotomy a 0
  · simp [roundDiv, Int.not_le.mpr h, Int.le_of_lt h]
  · simp
  · simp [roundDiv, Int.not_le.mpr h, Int.le_of_lt h]

theorem natAbs_roundDiv (a : Int) (b : Nat) :
    (roundDiv a b).natAbs = (2 * a.natAbs + b) / (2 * b) := by
  obtain ⟨m, rfl | rfl⟩ := a.eq_nat_or_neg
  · rw [roundDiv_natCast, Int.natAbs_natCast, Int.natAbs_natCast]
  · rw [roundDiv_neg, roundDiv_natCast, Int.natAbs_neg, Int.natAbs_natCast, Int.natAbs_neg,
      Int.natAbs_natCast]

/-- A whole multiple is divided without a remainder. -/
theorem roundDiv_mul_self (x : Int) {n : Nat} (hn : 1 ≤ n) : roundDiv (x * n) n = x := by
  have hnat (m : Nat) : roundDiv ((m : Int) * n) n = m := by
    have hq : (2 * (m * n) + n) / (2 * n) = m := by
      rw [Nat.mul_left_comm, Nat.mul_comm m, Nat.mul_add_div (by omega), Nat.div_eq_of_lt (by omega),
        Nat.add_zero]
    rw [← Int.natCast_mul, roundDiv_natCast, hq]
  obtain ⟨m, rfl | rfl⟩ := x.eq_nat_or_neg
  · exact hnat m
  · rw [Int.neg_mul, roundDiv_neg, hnat]

/-- A value scaled by at most one is not raised in magnitude. -/
theorem natAbs_roundDiv_mul_le (x : Int) {k d : Nat} (hd : 0 < d) (hk : k ≤ d) :
    (roundDiv (x * k) d).natAbs ≤ x.natAbs := by
  have hle : x.natAbs * k ≤ x.natAbs * d := Nat.mul_le_mul_left _ hk
  have hbound : 2 * (x.natAbs * k) + d < (x.natAbs + 1) * (2 * d) := by
    rw [Nat.add_mul, Nat.mul_left_comm _ 2 d]
    omega
  rw [natAbs_roundDiv, Int.natAbs_mul, Int.natAbs_natCast]
  exact Nat.le_of_lt_succ ((Nat.div_lt_iff_lt_mul (by omega)).mpr hbound)

theorem gainFactorOf_le (g : Option Nat) : gainFactorOf g ≤ 32768 := by
  have htable : ∀ f ∈ gainTable, f ≤ 32768 := by decide
  cases g with
  | none => exact Nat.zero_le _
  | some n =>
    simp only [gainFactorOf, List.getD_eq_getElem?_getD]
    cases h : gainTable[n]? with
    | none => exact Nat.zero_le _
    | some f => exact htable f (List.mem_of_getElem? h)

/-- A factor of at most 32 768 raises no sample (R30): neither the rounded product nor its saturation is
larger in magnitude. -/
theorem natAbs_applyGain_le (x : Int) {factor : Nat} (hf : factor ≤ 32768) :
    (applyGain x factor).natAbs ≤ x.natAbs := by
  have h := natAbs_roundDiv_mul_le x (by decide) hf
  simp only [applyGain, saturate24]
  omega

/-- At the last sample of its period a ramp has the new factor (R31). -/
theorem rampedFactor_last (old new : Nat) {spf : Nat} (h : 1 ≤ spf) :
    rampedFactor old new (spf - 1) spf = new := by
  have hj : ((spf - 1 : Nat) : Int) + 1 = spf := by omega
  simp [rampedFactor, hj, roundDiv_mul_self _ h]

theorem scaleValue_full (x : Int) {n : Nat} (h : 1 ≤ n) : scaleValue x n n = x :=
  roundDiv_mul_self x h

theorem scaleValue_zero (x : Int) (n : Nat) : scaleValue x 0 n = 0 := by simp [scaleValue]

/-- A cue is BEYOND-REEL exactly when its start lies at or past the reel's end (R26). -/
theorem effectiveInterval_eq_beyondReel {ri ro minimum duration : Nat} {offset : Int} :
    effectiveInterval ri ro offset minimum duration = .beyondReel ↔
      (duration : Int) ≤ max 0 ((ri : Int) + offset) := by
  simp only [effectiveInterval]
  split
  · exact iff_of_true rfl (by omega)
  · split
    · exact iff_of_false nofun (by omega)
    · exact iff_of_false nofun (by omega)

/-- The interval of a cue that is not dropped (R26): stretched to one frame when its end is not past its
start, and otherwise from its start to its end, within the reel. -/
theorem effectiveInterval_eq_span {ri ro minimum duration ei eo : Nat} {offset : Int} {stretched : Bool}
    (h : effectiveInterval ri ro offset minimum duration = .span ei eo stretched) :
    ei = ((ri : Int) + offset).toNat ∧ ei < duration ∧
      ((stretched = true ∧ eo = ei + 1 ∧
          max ((ro : Int) + offset) ((ei : Int) + minimum) ≤ ei) ∨
        (stretched = false ∧ ei < eo ∧
          (eo : Int) = min (max ((ro : Int) + offset) ((ei : Int) + minimum)) duration)) := by
  simp only [effectiveInterval] at h
  split at h
  · cases h
  · split at h
    · cases h
      exact ⟨rfl, by omega, .inl ⟨rfl, rfl, by omega⟩⟩
    · cases h
      exact ⟨rfl, by omega, .inr ⟨rfl, by omega, by omega⟩⟩

/-- Settles O59: the two forms of a cue's interval, and the rounded quotient, which keeps whole multiples
(`roundDiv_mul_self`) and raises nothing that is scaled by at most one (`natAbs_roundDiv_mul_le`). -/
theorem conversionsStayInRange : Obligations.ConversionsStayInRange := by
  refine ⟨fun ri ro minimum duration offset =>
      ⟨effectiveInterval_eq_beyondReel, fun ei eo stretched h => ?_⟩,
    gainFactorOf_le, rfl, fun x _ _ _ => natAbs_applyGain_le x, fun old new _ => rampedFactor_last old new,
    fun x n h => ⟨scaleValue_full x h, scaleValue_zero x n⟩⟩
  obtain ⟨hei, hlt, ⟨rfl, heo, hmax⟩ | ⟨rfl, hlow, heo⟩⟩ := effectiveInterval_eq_span h
  · exact ⟨by omega, by omega, by omega, by simp only [true_iff]; omega, fun _ => heo, nofun⟩
  · exact ⟨by omega, hlow, by omega, by simp only [Bool.false_eq_true, false_iff]; omega, nofun,
      fun _ => heo⟩

end Sys2Proof.Machine

/-! ## Sample edges and lanes (R16, R18, R168 to R175) -/

namespace Sys2Proof.Machine

/-- An edge that would bring the count to the period finds no edge missing before the deadline (R19). -/
theorem Channel.runToDeadline_of_last {c : Channel} (h : c.timer.period = some (c.timer.count + 1)) :
    c.runToDeadline = c := by
  have hmissing : c.timer.period.getD 0 - 1 - c.timer.count = 0 := by simp [h]
  simp only [Channel.runToDeadline, hmissing, edgesOf, Nat.add_zero]

theorem State.modChan_of_eq {s : State} {ch : ChannelId} {f : Channel → Channel}
    (h : f (s.chan ch) = s.chan ch) : s.modChan ch f = s := by
  simp only [State.modChan, h]
  cases ch <;> rfl

theorem State.sampleEdge_of_stopped {s : State} {ch : ChannelId} (h : (s.chan ch).timer.state = .stopped) :
    s.sampleEdge ch = s.modChan ch (fun c => c.emit 0) := by
  simp only [State.sampleEdge, h]

/-- An edge before the period's last (R19). -/
theorem State.sampleEdge_of_running {s : State} {ch : ChannelId} (h : (s.chan ch).timer.state = .running)
    (hlast : (s.chan ch).timer.period ≠ some ((s.chan ch).timer.count + 1)) :
    s.sampleEdge ch = s.modChan ch (fun c => c.countEdge) := by
  simp only [State.sampleEdge, h, if_neg hlast]

/-- In ARMED, and in RUNNING at the period's last edge, a sample edge is the deadline (R19). -/
theorem State.sampleEdge_eq_reachDeadline {s : State} {ch : ChannelId}
    (h : (s.chan ch).timer.state = .armed ∨ (s.chan ch).timer.state = .running ∧
      (s.chan ch).timer.period = some ((s.chan ch).timer.count + 1)) :
    s.sampleEdge ch = s.reachDeadline ch := by
  obtain harmed | ⟨hrun, hlast⟩ := h
  · simp only [State.sampleEdge, State.reachDeadline, harmed]
  · simp only [State.sampleEdge, State.reachDeadline, hrun, if_pos hlast,
      State.modChan_of_eq (Channel.runToDeadline_of_last hlast)]

theorem exec_sampleClockEdge {s : State} (hp : s.powered = true) (ch : ChannelId) :
    exec (.sampleClockEdge ch) s = .next (s.sampleEdge ch) := by
  simp only [exec, execSampleClockEdge, whenPowered, hp, if_true]

theorem exec_deadline {s : State} (hp : s.powered = true) (ch : ChannelId) :
    exec (.deadline ch) s = .next (s.reachDeadline ch) := by
  simp only [exec, execDeadline, whenPowered, hp, if_true]

/-- The map entry of a lane after the next deadline: that of a pending image, or its own (R170). -/
def SoundRouter.nextSetting (r : SoundRouter) (i : Nat) (l : Lane) : Option LaneSetting :=
  match r.pendingMap with
  | some image => image[i]?
  | none => some l.setting

/-- The line of a lane after the next deadline: emptied when a pending image changes its length (R170). -/
def SoundRouter.nextLine (r : SoundRouter) (l : Lane) (e : LaneSetting) : List Int :=
  if r.pendingMap = none ∨ l.line.length = laneDelaySamples e.delay r.rate then l.line
  else List.replicate (laneDelaySamples e.delay r.rate) 0

/-- A lane at a deadline, before its block or its decay: the period ends and a pending image takes effect
(R170, R174). `g` is the factor in force. -/
def SoundRouter.nextLane (r : SoundRouter) (l : Lane) (e : LaneSetting) (g : Nat) : Lane :=
  { l with
    setting := e, line := r.nextLine l e, rampIn := none
    gain := if e.gain = l.setting.gain then .steady g else .ramp g (gainFactorOf e.gain) }

/-- What a deadline makes of a lane before its block or its decay, with its delay-change mark: the line has
another length than before exactly when the image changed its delay (R170). -/
theorem SoundRouter.getElem?_routedLanes_endPeriod {r : SoundRouter} {i g : Nat} {l : Lane}
    {e : LaneSetting} (h : r.lanes[i]? = some l) (he : r.nextSetting i l = some e)
    (hg : l.gain.settled = .steady g) :
    r.endPeriod.routedLanes[i]? =
      some (r.nextLane l e g, !(decide ((r.nextLine l e).length = l.line.length))) := by
  have hended : r.endPeriod.lanes[i]? = some { l with gain := .steady g, rampIn := none } := by
    simp [SoundRouter.endPeriod, h, hg]
  rw [SoundRouter.getElem?_routedLanes hended]
  have hmap : r.endPeriod.pendingMap = r.pendingMap := rfl
  cases hp : r.pendingMap with
  | none =>
    obtain rfl : l.setting = e := by simpa [SoundRouter.nextSetting, hp] using he
    simp [hmap, hp, SoundRouter.nextLane, SoundRouter.nextLine]
  | some image =>
    have he : image[i]? = some e := by simpa [SoundRouter.nextSetting, hp] using he
    have hrate : r.endPeriod.rate = r.rate := rfl
    by_cases hlen : l.line.length = laneDelaySamples e.delay r.rate
    · simp [hmap, hp, he, hrate, Lane.route, resizedLine, LaneSetting.lineLength, GainFactor.rampTo,
        SoundRouter.nextLane, SoundRouter.nextLine, hlen]
    · simp [hmap, hp, he, hrate, Lane.route, resizedLine, LaneSetting.lineLength, GainFactor.rampTo,
        SoundRouter.nextLane, SoundRouter.nextLine, hlen, Ne.symm hlen]

/-- The source of a map entry that a block has (R168). -/
theorem LaneSetting.effective_eq_bind (e : LaneSetting) (channels : Nat) :
    e.effective channels = e.source.bind (fun c => if c < channels then some c else none) := by
  unfold LaneSetting.effective
  cases e.source <;> rfl

section
variable {r : SoundRouter} {i g : Nat} {l : Lane} {e : LaneSetting} (h : r.lanes[i]? = some l)
  (he : r.nextSetting i l = some e) (hg : l.gain.settled = .steady g)
include h he hg

/-- A lane at a deadline with a block: it leads in from its settings at that deadline (R171). -/
theorem SoundRouter.getElem?_beginBlock (b : SoundBlock) (target : Bool) :
    (r.beginBlock b target).lanes[i]? = some ((r.nextLane l e g).leadIn
      (!(decide ((r.nextLine l e).length = l.line.length))) (markAfter r) target b.channels
      (rampLength r.rate)) := by
  simp only [SoundRouter.beginBlock, List.getElem?_map,
    SoundRouter.getElem?_routedLanes_endPeriod h he hg]
  rfl

/-- A lane at a deadline without a block: it decays and its source is SILENT (R173). -/
theorem SoundRouter.getElem?_beginQuiet :
    r.beginQuiet.lanes[i]? =
      some { (r.nextLane l e g).startDecay (rampLength r.rate) with effective := none } := by
  simp only [SoundRouter.beginQuiet, List.getElem?_map,
    SoundRouter.getElem?_routedLanes_endPeriod h he hg]
  rfl

/-- A lane at a suspending deadline is silenced at once (R175). -/
theorem SoundRouter.getElem?_suspend :
    r.suspend.lanes[i]? = some (r.nextLane l e g).silenced := by
  simp only [SoundRouter.suspend, List.getElem?_map,
    SoundRouter.getElem?_routedLanes_endPeriod h he hg]
  rfl

end

/-- How a lane takes a block (R171): a QUIET mark ramps it in from the first sample; an
OPEN mark lets a changed lane or a jump target decay first. -/
theorem Lane.leadIn_eq (l : Lane) (changed : Bool) (mark : SoundMark) (target : Bool)
    (channels n : Nat) :
    l.leadIn changed mark target channels n = { l with
      effective := l.setting.effective channels
      decay := if mark = .opened ∧
            (changed = true ∨ l.setting.effective channels ≠ l.effective ∨ target = true) then
          some { value := l.last, length := n, next := 0 } else none
      rampIn := if mark = .quiet then some 0
        else if changed = true ∨ l.setting.effective channels ≠ l.effective ∨ target = true then some n
        else none } := by
  cases mark with
  | quiet => simp [Lane.leadIn]
  | opened =>
    by_cases hd : changed = true ∨ l.setting.effective channels ≠ l.effective ∨ target = true
    · have hd' : (changed || decide (l.setting.effective channels ≠ l.effective) || target) = true := by
        simpa [or_assoc] using hd
      simp only [Lane.leadIn, hd', hd, Lane.startDecay]
      simp
    · have hd' : (changed || decide (l.setting.effective channels ≠ l.effective) || target) = false := by
        simpa [and_assoc] using hd
      simp only [Lane.leadIn, hd', hd]
      simp

/-- Settles O48: the edges by the state of the timer, the lanes' samples by `Lane.edge`, and what each deadline
makes of a lane from its settings at that deadline (`SoundRouter.getElem?_routedLanes_endPeriod`). -/
theorem edgesCountUpToTheDeadline : Obligations.EdgesCountUpToTheDeadline := by
  refine ⟨fun s ch hp => ?_, fun r i l h => ⟨fun j spf => ?_, ?_⟩⟩
  · rw [exec_sampleClockEdge hp]
    refine ⟨fun hstop => ?_, fun hrun hlast => ?_, fun hdue => ?_⟩
    · rw [State.sampleEdge_of_stopped hstop]; rfl
    · rw [State.sampleEdge_of_running hrun hlast]; rfl
    · exact ⟨_, rfl, by rw [exec_deadline hp, State.sampleEdge_eq_reachDeadline hdue]⟩
  · refine ⟨_, l.sourceValue r.block j (rampLength r.rate) spf,
      by rw [SoundRouter.getElem?_edge, h]; rfl, fun d hd => ?_, fun hd hb => ?_, fun b hd hb => ?_, ?_⟩
    · simp only [Lane.sourceValue, hd]
    · simp only [Lane.sourceValue, hd, hb]
    · simp only [Lane.sourceValue, hd, hb]; rfl
    · simp only [Lane.edge, List.drop_one]; rfl
  · rintro e line g gain changed mark he rfl rfl hg rfl rfl
    have hsettled : l.gain.settled = .steady g := by
      subst hg; cases l.gain <;> rfl
    refine ⟨fun b target eff heff => ?_, ?_, ?_⟩
    · rw [← LaneSetting.effective_eq_bind] at heff
      subst heff
      rw [SoundRouter.getElem?_beginBlock h he hsettled, Lane.leadIn_eq]
      rfl
    · rw [SoundRouter.getElem?_beginQuiet h he hsettled]; rfl
    · rw [SoundRouter.getElem?_suspend h he hsettled]; rfl

end Sys2Proof.Machine

/-! ## What keeps every law of channels and compositions

A command reaches the channels and the composition table by few ways: the action of a request, an arriving
segment, the unpacker, the frame timers, and start-up. A law that these keep is kept by every step. -/

namespace Sys2Proof.Machine

/-- A law of the composition table and the channels that every way of reaching them keeps. -/
structure StageInvariant (P : State → Prop) : Prop where
  /-- The law speaks of the composition table and the channels alone. -/
  of_stage : ∀ {s t : State}, P s → t.stage = s.stage → P t
  /-- It holds of what a reset leaves (R15, R51, R131). -/
  of_reset : ∀ {s : State}, s.stage = (List.replicate 32 none, Channel.reset, Channel.reset) → P s
  perform : ∀ (r : Request) {s : State}, P s → P (perform r s).1
  arrive : ∀ (ch : ChannelId) (g : Segment) {s : State}, P s → P (s.arrive ch g)
  serve : ∀ (ch : ChannelId) {s : State}, P s → P (s.serve ch)
  finishSegment : ∀ {s : State}, P s → P s.finishSegment
  reachDeadline : ∀ (ch : ChannelId) {s : State}, P s → P (s.reachDeadline ch)
  sampleEdge : ∀ (ch : ChannelId) {s : State}, P s → P (s.sampleEdge ch)

namespace StageInvariant

variable {P : State → Prop} {s : State}

theorem enterRequest (hP : StageInvariant P) (tag : Byte) (r : Request) (hs : P s) :
    P (enterRequest tag r s) := by
  simp only [Machine.enterRequest]
  split
  · exact hP.of_stage hs (State.answer_stage ..)
  · exact hP.of_stage (hP.perform r hs) (State.answer_stage ..)

theorem executeFrame (hP : StageInvariant P) (f : CommandFrame) (hs : P s) : P (executeFrame f s) := by
  unfold Machine.executeFrame
  split
  · exact hP.of_stage hs (State.reply_stage ..)
  · split
    · exact hP.of_stage hs (State.answer_stage ..)
    · split
      · exact hP.of_stage hs (State.answer_stage ..)
      · exact hP.enterRequest f.tag _ hs

theorem placeFrame (hP : StageInvariant P) (f : CommandFrame) (hs : P s) : P (placeFrame f s) := by
  unfold Machine.placeFrame
  split
  · exact hP.executeFrame f hs
  · exact hP.of_stage hs (holdFrame_stage f s)

theorem submit (hP : StageInvariant P) (tag : Byte) (r : Request) (hs : P s) : P (submit tag r s) := by
  unfold Machine.submit
  split
  · exact hP.enterRequest tag r hs
  · exact hP.of_stage hs (holdFrame_stage _ s)

theorem takeLinkByte (hP : StageInvariant P) (b : Byte) (hs : P s) : P (s.takeLinkByte b) := by
  unfold State.takeLinkByte
  split
  · exact hP.of_stage hs (s.huntByte_stage b)
  · exact hP.of_stage hs (s.lengthByte_stage b)
  · simp only [State.frameByte]
    split
    · exact hP.of_stage hs (State.setReceiver_stage ..)
    · split
      · exact hP.placeFrame _ (hP.of_stage hs (State.setReceiver_stage ..))
      · exact hP.of_stage hs (State.linkFault_stage _ _)

theorem takeLinkBytes (hP : StageInvariant P) (bytes : List Byte) (hs : P s) :
    P (s.takeLinkBytes bytes) := by
  induction bytes generalizing s with
  | nil => exact hs
  | cons b rest ih => exact ih (hP.takeLinkByte b hs)

theorem startUp (hP : StageInvariant P) (kind : ResetKind) (s : State) : P (s.startUp kind) :=
  hP.of_reset (s.startUp_stage kind)

theorem emptyPlace (hP : StageInvariant P) (hs : P s) : P s.emptyPlace := by
  simp only [State.emptyPlace]
  split
  · exact hP.executeFrame _ (hP.of_stage hs rfl)
  · exact hP.of_stage hs rfl

theorem replySent (hP : StageInvariant P) (hs : P s) : P s.replySent := by
  unfold State.replySent
  split
  · split
    · split
      · exact hP.emptyPlace (hP.of_stage hs rfl)
      · exact hP.startUp _ s
      · exact hs
    · exact hs
  · exact hs

theorem takePathByte (hP : StageInvariant P) (b : Byte) (hs : P s) : P (s.takePathByte b) := by
  have hpath (p : ForwardPath) : P (s.setPath p) := hP.of_stage hs rfl
  simp only [State.takePathByte]
  split
  · exact hpath _
  · split
    · exact hpath _
    · split
      · exact hP.of_stage hs rfl
      · split
        · exact hP.arrive _ _ (hpath _)
        · exact hpath _
  · split
    · exact hpath _
    · exact hP.arrive _ _ (hpath _)

theorem takePathBytes (hP : StageInvariant P) (bytes : List Byte) (hs : P s) :
    P (s.takePathBytes bytes) := by
  induction bytes generalizing s with
  | nil => exact hs
  | cons b rest ih => exact ih (hP.takePathByte b hs)

theorem takeSegment (hP : StageInvariant P) (hs : P s) : P s.takeSegment := by
  unfold State.takeSegment
  split
  · exact hs
  · split
    · exact hs
    · exact hP.serve _ hs

/-- Every command keeps the law. -/
theorem exec (hP : StageInvariant P) {c : Instr} {t : State} (hs : P s) (h : exec c s = .next t) : P t := by
  cases hc : requestOf c with
  | some p => exact of_whenPowered ((exec_of_requestOf s hc).symm.trans h) hs (hP.submit p.1 p.2 hs)
  | none =>
    cases c with
    | commandFrameCompleted bytes | frameFault bytes | syncFound bytes =>
      exact of_whenPowered h hs (hP.takeLinkBytes bytes hs)
    | segmentHeader bytes | segmentArrival bytes | markerFound bytes =>
      exact of_whenPowered h hs (hP.takePathBytes bytes hs)
    | replySent => exact of_whenPowered h hs (hP.replySent hs)
    | partialFrameTimeout => exact of_whenPowered h hs (hP.of_stage hs s.linkSilence_stage)
    | retainedLoss => cases h; exact hP.startUp .retainedLoss s
    | mainPowerUp => cases h; exact hP.startUp .mainPowerUp s
    | pin => exact of_whenPowered h hs (hP.startUp .pin s)
    | mainPowerDown => cases h; exact hP.of_reset rfl
    | returnMessageSend => exact of_whenPowered h hs (hP.of_stage hs s.sendNextReturn_stage)
    | segmentTake => exact of_whenPowered h hs (hP.takeSegment hs)
    | segmentFinish => exact of_whenPowered h hs (hP.finishSegment hs)
    | deadline ch => exact of_whenPowered h hs (hP.reachDeadline ch hs)
    | boothClockTick => cases h; exact hP.of_stage hs s.clockTick_stage
    | licenceUnwrapComplete passes =>
      exact of_whenPowered h hs (hP.of_stage hs (s.unwrapComplete_stage passes))
    | sampleClockEdge ch => exact of_whenPowered h hs (hP.sampleEdge ch hs)
    | outgoingMessageSent => exact of_whenPowered h hs (hP.of_stage hs s.messageSent_stage)
    | subtitlePortSend => exact of_whenPowered h hs (hP.of_stage hs rfl)
    | _ => simp [requestOf] at hc

/-- Every step keeps the law. -/
theorem step (hP : StageInvariant P) {t : State} (hs : P s) (h : step s = .next t) : P t := by
  unfold Machine.step at h
  split at h
  · cases h; exact hs
  · rename_i c rest _
    have hqueue : P { s with pending := rest } := hP.of_stage hs rfl
    exact hP.exec hqueue h

end StageInvariant

end Sys2Proof.Machine

/-! ## The laws of a channel's show (files 02, 04, 06 to 09)

`Channel.lawful` gathers the laws of timer, records, latch and slots. `Channel.Sheds` is what most operations
on records, queue, subtitles and sound do to a channel as far as these laws can see. -/

namespace Sys2Proof.Machine

/-- The laws of a channel's show and of its slots. -/
def Channel.lawful (c : Channel) : Prop := c.showLaw ∧ c.slotLaw

/-- The laws of both channels. -/
def Lawful (s : State) : Prop := ∀ ch, (s.chan ch).lawful

theorem lawful_iff {s : State} : Lawful s ↔ ShowLaw s ∧ SlotLaw s := forall_and

/-- What the laws read of a channel, but for its records. -/
def Channel.footing (c : Channel) : ChannelState × FrameTimer × Bool × List Slot :=
  (c.state, c.timer, c.latch, c.slots)

/-- A channel on the same footing with no more records. -/
def Channel.Sheds (c d : Channel) : Prop :=
  d.footing = c.footing ∧ d.records.length ≤ c.records.length

/-- A channel on the same footing whose record law is kept. -/
def Channel.Keeps (c d : Channel) : Prop := d.footing = c.footing ∧ (c.recordLaw → d.recordLaw)

theorem Channel.footing_eq_iff {c d : Channel} :
    d.footing = c.footing ↔ d.state = c.state ∧ d.timer = c.timer ∧ d.latch = c.latch ∧ d.slots = c.slots := by
  simp [Channel.footing]

theorem Channel.Sheds.refl (c : Channel) : c.Sheds c := ⟨rfl, le_rfl⟩

theorem Channel.Sheds.of_eq {c d : Channel} (h : d = c) : c.Sheds d := h ▸ .refl c

theorem Channel.Sheds.trans {c d e : Channel} (h : c.Sheds d) (h' : d.Sheds e) : c.Sheds e :=
  ⟨h'.1.trans h.1, h'.2.trans h.2⟩

theorem Channel.Sheds.keeps {c d : Channel} (h : c.Sheds d) : c.Keeps d := by
  obtain ⟨hf, hlen⟩ := h
  obtain ⟨hstate, -⟩ := Channel.footing_eq_iff.mp hf
  refine ⟨hf, fun ⟨htwo, hrest⟩ => ⟨hlen.trans htwo, fun hd => ?_⟩⟩
  have hnone : c.records = [] := hrest (hstate ▸ hd)
  exact List.length_eq_zero_iff.mp (Nat.le_zero.mp (by simpa [hnone] using hlen))

theorem Channel.Keeps.trans {c d e : Channel} (h : c.Keeps d) (h' : d.Keeps e) : c.Keeps e :=
  ⟨h'.1.trans h.1, h'.2 ∘ h.2⟩

/-- The laws read the footing and the record law alone. -/
theorem Channel.lawful.of_keeps {c d : Channel} (hc : c.lawful) (h : c.Keeps d) : d.lawful := by
  obtain ⟨⟨htimer, hrecord, hlatch⟩, hslot⟩ := hc
  obtain ⟨hf, hkeep⟩ := h
  obtain ⟨hstate, ht, hl, hslots⟩ := Channel.footing_eq_iff.mp hf
  refine ⟨⟨?_, hkeep hrecord, ?_⟩, ?_⟩
  · simpa only [Channel.timerLaw, hstate, ht] using htimer
  · simpa only [Channel.latchLaw, hstate, hl] using hlatch
  · simpa only [Channel.slotLaw, hslots] using hslot

theorem Channel.lawful.of_sheds {c d : Channel} (hc : c.lawful) (h : c.Sheds d) : d.lawful :=
  hc.of_keeps h.keeps

theorem Channel.lawful.latch_eq_false {c : Channel} (hc : c.lawful) (h : c.state ≠ .suspended) :
    c.latch = false := by
  obtain ⟨⟨-, -, hlatch⟩, -⟩ := hc
  exact Bool.eq_false_iff.mpr (h ∘ hlatch)

/-- A change of state with the latch clear, between states in which the timer is STOPPED, or between states
in which it is not, that comes to rest only from rest. -/
theorem Channel.lawful.of_state {c d : Channel} (hc : c.lawful) (hl : d.latch = false)
    (hstop : d.state.timerStopped = c.state.timerStopped)
    (hrest : d.state.atRest = true → c.state.atRest = true)
    (h : d.timer = c.timer ∧ d.slots = c.slots ∧ d.records = c.records) : d.lawful := by
  obtain ⟨ht, hslots, hrecords⟩ := h
  obtain ⟨⟨htimer, ⟨htwo, hnone⟩, -⟩, hslot⟩ := hc
  refine ⟨⟨?_, ⟨hrecords ▸ htwo, fun hd => hrecords ▸ hnone (hrest hd)⟩, fun hd => ?_⟩, ?_⟩
  · simpa only [Channel.timerLaw, hstop, ht] using htimer
  · simp [hl] at hd
  · simpa only [Channel.slotLaw, hslots] using hslot

/-- One more record on a channel that shows and has at most one (R93). -/
theorem Channel.recordLaw_of_admitted {c d : Channel} (hrest : c.state.atRest = false)
    (hlen : c.records.length ≤ 1) (hf : d.footing = c.footing)
    (hd : d.records.length = c.records.length + 1) : d.recordLaw := by
  obtain ⟨hstate, -⟩ := Channel.footing_eq_iff.mp hf
  exact ⟨by omega, fun h => by simp [hstate, hrest] at h⟩

theorem Channel.lawful.of_admitted {c d : Channel} (hc : c.lawful) (hrest : c.state.atRest = false)
    (hlen : c.records.length ≤ 1) (hf : d.footing = c.footing)
    (hd : d.records.length = c.records.length + 1) : d.lawful :=
  hc.of_keeps ⟨hf, fun _ => Channel.recordLaw_of_admitted hrest hlen hf hd⟩

theorem Channel.reset_lawful : Channel.reset.lawful := ⟨Channel.reset_showLaw, Channel.reset_slotLaw⟩

/-! ### Lawful states -/

theorem Lawful.of_chan {s t : State} (hs : Lawful s) (h : ∀ ch, t.chan ch = s.chan ch) : Lawful t :=
  fun ch => h ch ▸ hs ch

theorem Lawful.of_stage {s t : State} (hs : Lawful s) (h : t.stage = s.stage) : Lawful t :=
  hs.of_chan (State.chan_of_stage h)

/-- An operation on one channel's show keeps the laws when it keeps them there. -/
theorem Lawful.of_beside {s t : State} {ch : ChannelId} (hs : Lawful s) (h : t.beside ch = s.beside ch)
    (hch : (t.chan ch).lawful) : Lawful t := fun c => by
  by_cases hc : c = ch
  · exact hc ▸ hch
  · obtain rfl : c = ch.other := by cases c <;> cases ch <;> simp_all [ChannelId.other]
    exact State.chan_other_of_beside h ▸ hs _

theorem Lawful.of_modChan {s : State} {ch : ChannelId} {f : Channel → Channel} (hs : Lawful s)
    (h : (f (s.chan ch)).lawful) : Lawful (s.modChan ch f) := fun c => by
  rw [State.chan_modChan]
  split
  · exact h
  · exact hs c

theorem lawful_of_reset {s : State}
    (h : s.stage = (List.replicate 32 none, Channel.reset, Channel.reset)) : Lawful s := by
  have ha : s.chanA = Channel.reset := congrArg (·.2.1) h
  have hb : s.chanB = Channel.reset := congrArg (·.2.2) h
  intro ch
  cases ch
  · simpa [ha] using Channel.reset_lawful
  · simpa [hb] using Channel.reset_lawful

/-! ### Slots (R63, R111 to R113) -/

theorem countP_map_le {p : Slot → Bool} {f : Slot → Slot} (h : ∀ x, p (f x) = true → p x = true)
    (l : List Slot) : (l.map f).countP p ≤ l.countP p := by
  rw [List.countP_map]
  exact List.countP_mono_left fun x _ => h x

theorem countP_mapIdx_le {p : Slot → Bool} {f : Nat → Slot → Slot}
    (h : ∀ i x, p (f i x) = true → p x = true) (l : List Slot) :
    (l.mapIdx f).countP p ≤ l.countP p := by
  induction l generalizing f with
  | nil => exact le_rfl
  | cons x rest ih =>
    have hrest := ih (f := fun i => f (i + 1)) fun i => h (i + 1)
    have hhead := h 0 x
    simp only [List.mapIdx_cons, List.countP_cons]
    grind

/-- A slot replaced adds at most itself to a count. -/
theorem countP_set_le (p : Slot → Bool) (l : List Slot) (i : Nat) (x : Slot) :
    (l.set i x).countP p ≤ l.countP p + if p x = true then 1 else 0 := by
  by_cases hi : i < l.length
  · rw [List.countP_set hi]
    omega
  · rw [List.set_eq_of_length_le (Nat.le_of_not_lt hi)]
    omega

/-- Slots changed one by one, none of which becomes PRESENTING or FILLING anew. -/
theorem Channel.slotLaw.of_map {c d : Channel} (hc : c.slotLaw) {f : Slot → Slot}
    (hd : d.slots = c.slots.map f) (hp : ∀ x, (f x).isPresenting = true → x.isPresenting = true)
    (hf : ∀ x, (f x).isFilling = true → x.isFilling = true) : d.slotLaw := by
  obtain ⟨hpres, hfill⟩ := hc
  simp only [Channel.slotLaw, hd]
  exact ⟨(countP_map_le hp _).trans hpres, (countP_map_le hf _).trans hfill⟩

theorem Channel.freePresenting_slotLaw {c : Channel} (hc : c.slotLaw) : c.freePresenting.slotLaw :=
  hc.of_map rfl (fun x => by cases x <;> simp [Slot.isPresenting])
    (fun x => by cases x <;> simp [Slot.isPresenting, Slot.isFilling])

/-- After R113 freed it, no slot is PRESENTING. -/
theorem Channel.freePresenting_presenting (c : Channel) :
    c.freePresenting.slots.countP Slot.isPresenting = 0 := by
  simp only [Channel.freePresenting, List.countP_map, List.countP_eq_zero]
  intro x _
  cases x <;> simp [Slot.isPresenting]

theorem Channel.fullFlush_slotLaw (c : Channel) : c.fullFlush.slotLaw := by
  simp [Channel.slotLaw, Channel.fullFlush, List.countP_replicate, Slot.isPresenting, Slot.isFilling]

theorem Channel.flushAfter_slotLaw {c : Channel} (hc : c.slotLaw) (kept : Nat) :
    (c.flushAfter kept).slotLaw := by
  obtain ⟨hpres, hfill⟩ := hc
  refine ⟨(countP_mapIdx_le (fun i x => ?_) _).trans hpres, (countP_mapIdx_le (fun i x => ?_) _).trans hfill⟩
  · split <;> simp [Slot.isPresenting]
  · split <;> simp [Slot.isFilling]

/-- A presented slot is the only PRESENTING one when the deadline has freed the one before (R113). -/
theorem Channel.presentSlot_slotLaw {c : Channel} (hc : c.slotLaw)
    (h0 : c.slots.countP Slot.isPresenting = 0) (f : Frame) : (c.presentSlot f).slotLaw := by
  obtain ⟨-, hfill⟩ := hc
  have hp := countP_set_le Slot.isPresenting c.slots c.present (.presenting f)
  have hf := countP_set_le Slot.isFilling c.slots c.present (.presenting f)
  simp only [Slot.isPresenting, Slot.isFilling, if_true, Bool.false_eq_true, if_false] at hp hf
  simp only [Channel.slotLaw, Channel.presentSlot]
  omega

end Sys2Proof.Machine

/-! ## Operations on records, ports and subtitles shed at most records

One lemma per operation, on its own channel, in the order of the model; other channels are left by the
`_beside` lemmas. -/

namespace Sys2Proof.Machine

section
variable (s : State) (ch : ChannelId)

@[simp] theorem State.putSubs_chan_same (x : SubsResult) :
    (s.putSubs ch x).chan ch = { s.chan ch with subs := x.subs } :=
  (State.raiseDrops_chan _ ch x.drops ch).trans (by cases ch <;> rfl)

/-! ### Ingest port (file 03) -/

theorem State.arrive_sheds (g : Segment) : (s.chan ch).Sheds ((s.arrive ch g).chan ch) := by
  simp only [State.arrive, State.arriveStale]
  (repeat' split) <;> simp [Channel.Sheds, Channel.footing]

theorem State.finishHead_sheds : (s.chan ch).Sheds ((s.finishHead ch).chan ch) := by
  unfold State.finishHead
  split <;> simp [Channel.Sheds, Channel.footing]

theorem State.raiseEpoch_sheds : (s.chan ch).Sheds ((s.raiseEpoch ch).chan ch) := by
  simp only [State.raiseEpoch]
  split <;> simp [Channel.Sheds, Channel.footing]

theorem State.restartIngest_sheds : (s.chan ch).Sheds ((s.restartIngest ch).chan ch) := by
  simp [State.restartIngest, Channel.Sheds, Channel.footing]

/-! ### Admission and log (file 06) -/

theorem State.beginFetch_sheds (r : AdmissionRecord) (reel : Nat) :
    (s.chan ch).Sheds ((s.beginFetch ch r reel).chan ch) := by
  simp [State.beginFetch, Channel.Sheds, Channel.footing]

theorem State.openAdmission_chan (c : Composition) (item slot reel : Nat) (licence : Option Nat) :
    (s.openAdmission ch c item slot reel licence).chan ch = { s.chan ch with
      records := (s.chan ch).records ++ [freshRecord s ch c item slot reel licence]
      nextIdent := (s.chan ch).nextIdent + 1 } := by
  simp only [State.openAdmission]
  (repeat' split) <;> simp

/-- An admission leaves the footing and adds one record (R98). -/
theorem State.admitAndFetch_grows (c : Composition) (item slot reel : Nat) (licence : Option Nat) :
    ((s.admitAndFetch ch c item slot reel licence).chan ch).footing = (s.chan ch).footing ∧
      ((s.admitAndFetch ch c item slot reel licence).chan ch).records.length =
        (s.chan ch).records.length + 1 := by
  simp only [State.admitAndFetch, State.fetchNewest, State.openAdmission_chan]
  split
  · simp [State.beginFetch, State.openAdmission_chan, Channel.footing]
  · simp [State.openAdmission_chan, Channel.footing]

theorem State.modRecord_sheds (ident : Nat) (f : AdmissionRecord → AdmissionRecord) :
    (s.chan ch).Sheds ((s.modRecord ch ident f).chan ch) := by
  simp [State.modRecord, Channel.Sheds, Channel.footing]

theorem State.dropRecord_chan (r : AdmissionRecord) :
    (s.dropRecord ch r).chan ch = (s.chan ch).removeRecord r.ident := by
  simp only [State.dropRecord]
  split <;> simp

theorem Channel.removeRecord_sheds (c : Channel) (ident : Nat) : c.Sheds (c.removeRecord ident) :=
  ⟨rfl, List.length_filter_le _ _⟩

theorem State.closeRecord_chan (r : AdmissionRecord) (o : LogOutcome) :
    (s.closeRecord ch r o).chan ch = (s.chan ch).removeRecord r.ident := by
  simp [State.closeRecord, State.dropRecord_chan]

theorem State.discardRecord_chan (r : AdmissionRecord) :
    (s.discardRecord ch r).chan ch = (s.chan ch).removeRecord r.ident := by
  unfold State.discardRecord
  split
  · rw [State.dropRecord_chan, State.refreshLogLow_chan]
    cases ch <;> rfl
  · exact s.dropRecord_chan ch r

theorem State.endRecord_chan (o : LogOutcome) (r : AdmissionRecord) :
    (s.endRecord ch o r).chan ch = (s.chan ch).removeRecord r.ident := by
  unfold State.endRecord
  split
  · exact s.discardRecord_chan ch r
  · exact s.closeRecord_chan ch r o

theorem State.closeRecord_sheds (r : AdmissionRecord) (o : LogOutcome) :
    (s.chan ch).Sheds ((s.closeRecord ch r o).chan ch) :=
  s.closeRecord_chan ch r o ▸ Channel.removeRecord_sheds _ _

theorem State.discardRecord_sheds (r : AdmissionRecord) :
    (s.chan ch).Sheds ((s.discardRecord ch r).chan ch) :=
  s.discardRecord_chan ch r ▸ Channel.removeRecord_sheds _ _

theorem State.admitNext_keeps {r r' : AdmissionRecord} (h : (s.chan ch).records = [r']) :
    (s.chan ch).Keeps ((s.admitNext ch r).chan ch) := by
  have hquiet : (s.chan ch).Sheds ((s.reportNoNext ch).chan ch) := by
    simp [State.reportNoNext, Channel.Sheds, Channel.footing]
  have hrefuse (item : Nat) (st : Status) : (s.chan ch).Sheds ((s.refuseNext ch item st).chan ch) := by
    simp [State.refuseNext, Channel.Sheds, Channel.footing]
  simp only [State.admitNext]
  iterate 3 (split; · exact hquiet.keeps)
  split
  · exact (hrefuse _ _).keeps
  · obtain ⟨hf, hlen⟩ := s.admitAndFetch_grows ch _ (r.item + 1) _ _ _
    refine ⟨hf, fun ⟨_, hrest⟩ => Channel.recordLaw_of_admitted ?_ (by simp [h]) hf hlen⟩
    exact Bool.eq_false_iff.mpr fun hr => by simpa [h] using hrest hr

/-- A next-item occasion admits only beside a single record (R94). -/
theorem State.nextItemOccasion_keeps : (s.chan ch).Keeps ((s.nextItemOccasion ch).chan ch) := by
  unfold State.nextItemOccasion
  split
  · split
    · exact s.admitNext_keeps ch ‹_›
    · exact (Channel.Sheds.refl _).keeps
  · exact (Channel.Sheds.refl _).keeps

theorem State.writeCounts_sheds (r : AdmissionRecord) (a b c : Nat) :
    (s.chan ch).Sheds ((s.writeCounts ch r a b c).chan ch) := by
  simpa [State.writeCounts] using s.modRecord_sheds ch _ _

theorem State.reachCountPoint_sheds (r : AdmissionRecord) :
    (s.chan ch).Sheds ((s.reachCountPoint ch r).chan ch) := by
  simp only [State.reachCountPoint, State.raise_chan, State.modLog_chan]
  split
  · split
    · exact .refl _
    · simpa using (s.modLicence _ Licence.charge).modRecord_sheds ch r.ident _
  · exact .refl _

theorem State.countPresentation_sheds (ident : Nat) (damaged : Bool) :
    (s.chan ch).Sheds ((s.countPresentation ch ident damaged).chan ch) := by
  simp only [State.countPresentation]
  split
  · exact .refl _
  · rename_i r _
    have hcounts := s.writeCounts_sheds ch r (bump32 r.presented) r.held
      (if damaged then bump32 r.damaged else r.damaged)
    split
    · refine .trans ?_ (State.reachCountPoint_sheds _ ch r)
      split <;> simpa using hcounts
    · split <;> simpa using hcounts

theorem State.countHeld_sheds : (s.chan ch).Sheds ((s.countHeld ch).chan ch) := by
  unfold State.countHeld
  split
  · exact .refl _
  · exact s.writeCounts_sheds ch _ _ _ _

/-! ### Unpacker (file 04) -/

theorem State.discardOrder_sheds : (s.chan ch).Sheds ((s.discardOrder ch).chan ch) :=
  .trans (by simp [Channel.modCounts, Channel.Sheds, Channel.footing]) (State.finishHead_sheds _ ch)

theorem State.serve_sheds : (s.chan ch).Sheds ((s.serve ch).chan ch) := by
  have hserved (w : Option Work) : ({ s with lastServed := ch, work := w } : State).chan ch = s.chan ch := by
    cases ch <;> rfl
  simp only [State.serve]
  split
  · exact .refl _
  · split
    · exact .of_eq (hserved _)
    · exact hserved s.work ▸ State.discardOrder_sheds _ ch

theorem State.placePrologue_sheds (comp : Composition) (g : Segment) (p : Payload) :
    (s.chan ch).Sheds ((s.placePrologue ch comp g p).chan ch) := by
  simp only [State.placePrologue, State.handOff]
  (repeat' split) <;> simp [Channel.setCursor, Channel.Sheds, Channel.footing]

theorem State.reportComplete_sheds : (s.chan ch).Sheds ((s.reportComplete ch).chan ch) := by
  simp [State.reportComplete, Channel.Sheds, Channel.footing]

/-! ### Jumps (file 08) -/

theorem State.uncharge_sheds (r : AdmissionRecord) : (s.chan ch).Sheds ((s.uncharge ch r).chan ch) := by
  simpa [State.uncharge] using (s.releaseReservation r).modRecord_sheds ch r.ident _

/-- Records ended one by one leave those of other names. -/
theorem foldl_removeRecord {ch : ChannelId} {op : State → AdmissionRecord → State}
    (hop : ∀ s r, (op s r).chan ch = (s.chan ch).removeRecord r.ident) (l : List AdmissionRecord)
    (s : State) : (s.chan ch).Sheds ((l.foldl op s).chan ch) ∧
      ((l.foldl op s).chan ch).records =
        (s.chan ch).records.filter (fun x => l.all (fun r => x.ident ≠ r.ident)) := by
  induction l generalizing s with
  | nil => simp [Channel.Sheds.refl]
  | cons r rest ih =>
    obtain ⟨hsheds, hrecords⟩ := ih (op s r)
    rw [hop] at hsheds hrecords
    refine ⟨(Channel.removeRecord_sheds _ _).trans hsheds, ?_⟩
    simp [hrecords, Channel.removeRecord, List.filter_filter, Bool.and_comm]

/-- After the fetching record is discarded at most the presenting record is left (R137, R138). -/
theorem State.discardFetching_sheds : (s.chan ch).Sheds ((s.discardFetching ch).chan ch) ∧
    ((s.discardFetching ch).chan ch).records.length ≤ 1 := by
  obtain ⟨hsheds, hrecords⟩ := foldl_removeRecord (fun s => s.discardRecord_chan ch)
    (s.chan ch).records.tail s
  refine ⟨hsheds, ?_⟩
  unfold State.discardFetching
  rw [hrecords]
  cases (s.chan ch).records with
  | nil => exact Nat.zero_le 1
  | cons r rest =>
    have hrest : rest.filter (fun x => rest.all (fun y => x.ident ≠ y.ident)) = [] :=
      List.filter_eq_nil_iff.mpr fun x hx => by simpa using ⟨x, hx, rfl⟩
    rw [List.tail_cons, List.filter_cons, hrest]
    split
    · exact le_rfl
    · exact Nat.zero_le 1

theorem State.jumpReleases_sheds (n : Nat) : (s.chan ch).Sheds ((s.jumpReleases ch n).chan ch) ∧
    ((s.jumpReleases ch n).chan ch).records.length ≤ 1 := by
  obtain ⟨hsheds, hone⟩ := s.discardFetching_sheds ch
  simp only [State.jumpReleases]
  split
  · exact ⟨hsheds, hone⟩
  · rename_i r _
    have hfreed := (s.discardFetching ch).uncharge_sheds ch r
    split
    · have hdropped := hfreed.trans (State.discardRecord_sheds _ ch { r with chargeable := false })
      exact ⟨hsheds.trans hdropped, hdropped.2.trans hone⟩
    · exact ⟨hsheds.trans hfreed, hfreed.2.trans hone⟩

theorem State.closeLeft_sheds (n : Nat) : (s.chan ch).Sheds ((s.closeLeft ch n).chan ch) := by
  unfold State.closeLeft
  split
  · split
    · exact s.closeRecord_sheds ch _ _
    · exact .refl _
  · exact .refl _

end

end Sys2Proof.Machine

/-! ## The ring of slots and the unpacker (R57, R61 to R63, R111, R112)

`Channel.Fills` is what the unpacker and the flushes do to a channel as far as the laws of its show can see:
they change slots, and keep the slot law. -/

namespace Sys2Proof.Machine

/-- What the laws read of a channel, but for its slots. -/
def Channel.standing (c : Channel) : ChannelState × FrameTimer × Bool × List AdmissionRecord :=
  (c.state, c.timer, c.latch, c.records)

/-- A channel of the same standing whose slot law is kept. -/
def Channel.Fills (c d : Channel) : Prop := d.standing = c.standing ∧ (c.slotLaw → d.slotLaw)

theorem Channel.Fills.refl (c : Channel) : c.Fills c := ⟨rfl, id⟩

theorem Channel.Fills.trans {c d e : Channel} (h : c.Fills d) (h' : d.Fills e) : c.Fills e :=
  ⟨h'.1.trans h.1, h'.2 ∘ h.2⟩

theorem Channel.standing_eq_iff {c d : Channel} : d.standing = c.standing ↔
    d.state = c.state ∧ d.timer = c.timer ∧ d.latch = c.latch ∧ d.records = c.records := by
  simp [Channel.standing]

theorem Channel.lawful.of_fills {c d : Channel} (hc : c.lawful) (h : c.Fills d) : d.lawful := by
  obtain ⟨⟨htimer, hrecord, hlatch⟩, hslot⟩ := hc
  obtain ⟨hstanding, hkeep⟩ := h
  obtain ⟨hstate, ht, hl, hrecords⟩ := Channel.standing_eq_iff.mp hstanding
  refine ⟨⟨?_, ?_, ?_⟩, hkeep hslot⟩
  · simpa only [Channel.timerLaw, hstate, ht] using htimer
  · simpa only [Channel.recordLaw, hstate, hrecords] using hrecord
  · simpa only [Channel.latchLaw, hstate, hl] using hlatch

theorem Channel.flushAfter_fills (c : Channel) (kept : Nat) : c.Fills (c.flushAfter kept) :=
  ⟨rfl, fun h => Channel.flushAfter_slotLaw h kept⟩

/-! ### The FILLING slot -/

/-- Every frame in assembly is the one of a position. -/
def Channel.fillingAt (c : Channel) (p : Position) : Prop := ∀ f, Slot.filling f ∈ c.slots → f.pos = p

/-- A channel that can take a fragment: its frame is in assembly, or none is (R63). -/
def Channel.readyFor (c : Channel) (g : Segment) : Prop := c.hasSlot g = true ∨ c.fillingCount = 0

theorem Slot.isFilling_iff {x : Slot} : x.isFilling = true ↔ ∃ f, x = .filling f := by
  cases x <;> simp [Slot.isFilling]

theorem Channel.filling_notMem_of_none {c : Channel} (h : c.fillingFrame = none) (f : Frame) :
    Slot.filling f ∉ c.slots := by
  intro hf
  cases hx : c.slots.find? Slot.isFilling with
  | none => simpa [Slot.isFilling] using List.find?_eq_none.mp hx _ hf
  | some x =>
    obtain ⟨y, rfl⟩ := Slot.isFilling_iff.mp (List.find?_some hx)
    simp [Channel.fillingFrame, hx, Slot.frame] at h

theorem Channel.filling_mem_of_some {c : Channel} {f : Frame} (h : c.fillingFrame = some f) :
    Slot.filling f ∈ c.slots := by
  obtain ⟨x, hx, hxf⟩ := Option.bind_eq_some_iff.mp h
  obtain ⟨y, rfl⟩ := Slot.isFilling_iff.mp (List.find?_some hx)
  obtain rfl : y = f := by simpa [Slot.frame] using hxf
  exact List.mem_of_find?_eq_some hx

/-- When only the segment's own frame can be in assembly, the channel can take the segment. -/
theorem Channel.fillingAt.readyFor {c : Channel} {g : Segment} (h : c.fillingAt g.position) :
    c.readyFor g := by
  cases hf : c.fillingFrame with
  | none =>
    refine .inr (List.countP_eq_zero.mpr fun x hx hfill => ?_)
    obtain ⟨f, rfl⟩ := Slot.isFilling_iff.mp hfill
    exact Channel.filling_notMem_of_none hf f hx
  | some f =>
    exact .inl (by simp [Channel.hasSlot, hf, h f (Channel.filling_mem_of_some hf)])

/-- A slot stays FILLING in a settle only as it was, with a frame that is not complete (R63). -/
theorem Slot.settle_eq_filling {x : Slot} {f : Frame} :
    x.settle = .filling f ↔ x = .filling f ∧ f.complete = false := by
  cases x with
  | filling y =>
    simp only [Slot.settle]
    by_cases hy : y.complete = true <;> simp only [hy] <;> grind
  | free | ready | presenting => simp [Slot.settle]

theorem Slot.settle_isFilling {x : Slot} (h : x.settle.isFilling = true) : x.isFilling = true := by
  obtain ⟨f, hf⟩ := Slot.isFilling_iff.mp h
  exact Slot.isFilling_iff.mpr ⟨f, (Slot.settle_eq_filling.mp hf).1⟩

theorem Slot.settle_isPresenting (x : Slot) : x.settle.isPresenting = x.isPresenting := by
  cases x with
  | filling f => simp only [Slot.settle]; split <;> rfl
  | free | ready | presenting => rfl

theorem Channel.mem_modFilling {c : Channel} {f : Frame → Frame} {x : Frame}
    (h : Slot.filling x ∈ (c.modFilling f).slots) :
    ∃ y, Slot.filling y ∈ c.slots ∧ f y = x ∧ x.complete = false := by
  obtain ⟨z, hz, hx⟩ := List.mem_map.mp h
  cases z with
  | filling y =>
    obtain ⟨hy, hopen⟩ := Slot.settle_eq_filling.mp hx
    exact ⟨y, hz, Slot.filling.inj hy, hopen⟩
  | free | ready | presenting => simp at hx

theorem Channel.modFilling_fills (c : Channel) (f : Frame → Frame) : c.Fills (c.modFilling f) := by
  refine ⟨rfl, fun h => h.of_map rfl (fun x hx => ?_) (fun x hx => ?_)⟩
  · cases x with
    | filling y => exact (Slot.settle_isPresenting (.filling (f y))).symm.trans hx
    | free | ready | presenting => exact hx
  · cases x with
    | filling y => rfl
    | free | ready | presenting => exact hx

/-! ### The closure of what a segment skips (R57) -/

/-- A frame of another position is closed whole by step 1. -/
theorem Frame.closeSkipped_complete {f : Frame} {g : Segment} (h : f.pos ≠ g.position) :
    (f.closeSkipped g).complete = true := by
  have hpicture : (f.closeSkipped g).picture.closed = true := by
    simp only [Frame.closeSkipped]
    split
    · assumption
    · rfl
  have hsound : (f.closeSkipped g).sound.all (·.closed) = true := by
    cases hs : f.sound with
    | none => simp [Frame.closeSkipped, hs]
    | some p =>
      simp only [Frame.closeSkipped, hs, h, Option.map_some, Option.all_some]
      by_cases hp : p.closed = true <;> simp [hp, Part.closeEarly]
  simp [Frame.complete, hpicture, hsound]

theorem Channel.closeFilling_fills (c : Channel) (comp : Composition) (g : Segment) :
    c.Fills (c.closeFilling comp g) := by
  unfold Channel.closeFilling
  split
  · exact .refl c
  · dsimp only
    split <;> exact c.modFilling_fills _

theorem Channel.closeFilling_fillingAt (c : Channel) (comp : Composition) (g : Segment) :
    (c.closeFilling comp g).fillingAt g.position := by
  have hclosed : (c.modFilling (fun x => x.closeSkipped g)).fillingAt g.position := by
    intro x hx
    obtain ⟨y, -, rfl, hopen⟩ := Channel.mem_modFilling hx
    by_contra hpos
    simp [Frame.closeSkipped_complete (f := y) hpos] at hopen
  unfold Channel.closeFilling
  split
  · exact fun f hf => absurd hf (Channel.filling_notMem_of_none ‹_› f)
  · dsimp only
    split <;> exact hclosed

/-- A frame closed whole takes its slot as READY (R57, step 2). -/
theorem Channel.closeWhole_slots (c : Channel) (comp : Composition) (item record : Nat) (p : Nat × Nat) :
    (c.closeWhole comp item record p).slots =
      (c.slots.map Slot.settle).set c.take (.ready (missingFrame comp item record p)) := by
  have hcomplete : (missingFrame comp item record p).complete = true := by
    simp only [Frame.complete, missingFrame]
    split <;> rfl
  have hsettle : Slot.settle (.filling (missingFrame comp item record p)) =
      .ready (missingFrame comp item record p) := by simp [Slot.settle, hcomplete]
  rw [← hsettle, ← List.map_set]
  rfl

theorem Channel.closeWhole_fills (c : Channel) (comp : Composition) (item record : Nat) (p : Nat × Nat) :
    c.Fills (c.closeWhole comp item record p) := by
  refine ⟨rfl, fun ⟨hpres, hfill⟩ => ?_⟩
  have hp := countP_map_le (p := Slot.isPresenting) (fun x hx => x.settle_isPresenting ▸ hx) c.slots
  have hf := countP_map_le (p := Slot.isFilling) (fun x => x.settle_isFilling) c.slots
  simp only [Channel.slotLaw, Channel.closeWhole_slots]
  exact ⟨(countP_set_le _ _ _ _).trans (hp.trans hpres), (countP_set_le _ _ _ _).trans (hf.trans hfill)⟩

theorem Channel.closeWhole_fillingAt {c : Channel} {q : Position} (h : c.fillingAt q) (comp : Composition)
    (item record : Nat) (p : Nat × Nat) : (c.closeWhole comp item record p).fillingAt q := by
  intro f hf
  rw [Channel.closeWhole_slots] at hf
  obtain hmem | heq := List.mem_or_eq_of_mem_set hf
  · obtain ⟨x, hx, hxf⟩ := List.mem_map.mp hmem
    obtain ⟨rfl, -⟩ := Slot.settle_eq_filling.mp hxf
    exact h f hx
  · cases heq

/-- What the frames closed whole leave, one after another. -/
theorem Channel.closeSkippedFrames_keeps (c : Channel) (comp : Composition) (item record : Nat)
    (key : Cursor) (q : Position) (n : Nat) (hq : c.fillingAt q) :
    c.Fills (c.closeSkippedFrames comp item record key n) ∧
      (c.closeSkippedFrames comp item record key n).fillingAt q := by
  induction n generalizing c with
  | zero => exact ⟨.refl c, hq⟩
  | succ n ih =>
    unfold Channel.closeSkippedFrames
    split
    · exact ⟨.refl c, hq⟩
    · split
      · exact ⟨.refl c, hq⟩
      · obtain ⟨hfills, hat⟩ := ih _ (Channel.closeWhole_fillingAt hq comp item record _)
        exact ⟨(c.closeWhole_fills comp item record _).trans hfills, hat⟩

/-! ### The order check and the placement (R56, R61 to R63) -/

/-- Reel and place name an order key (R55). -/
theorem Cursor.eq_of_place {a b : Cursor} (hreel : a.reel = b.reel) (hplace : a.place = b.place) :
    a = b := by
  cases a <;> cases b <;> simp [Cursor.reel, Cursor.place] at hreel hplace ⊢ <;> omega

/-- Two order keys of which neither is below the other are one (R55). -/
theorem Cursor.eq_of_not_below {a b : Cursor} (h : a.below b = false) (h' : b.below a = false) :
    a = b := by
  simp only [Cursor.below, Bool.or_eq_false_iff, Bool.and_eq_false_imp, decide_eq_false_iff_not,
    decide_eq_true_eq] at h h'
  exact Cursor.eq_of_place (by omega) (by omega)

/-- A fragment that passes the order check at the cursor is of the frame in assembly (R56). -/
theorem hasSlot_of_orderFits {c : Channel} {comp : Composition} {g : Segment}
    (hfits : orderFits c comp g = true) (hg : g.isFragment = true)
    (hbelow : c.assembly.cursor.below g.key = false) : c.hasSlot g = true := by
  simp only [orderFits, Bool.and_eq_true, Bool.or_eq_true, Bool.not_eq_true', hg] at hfits
  obtain ⟨⟨-, hnot⟩, hopen⟩ := hfits
  have hkey : g.key = c.assembly.cursor := Cursor.eq_of_not_below hnot hbelow
  have hpart : c.partOpen g = true := by simpa [hkey] using hopen
  unfold Channel.partOpen at hpart
  split at hpart
  · simp_all [Channel.hasSlot]
  · cases hpart

/-- Steps 1 and 2 of R57 leave the channel ready for a fragment that passed the order check. -/
theorem Channel.closeBefore_readies {c : Channel} {comp : Composition} {g : Segment}
    (hfits : orderFits c comp g = true) (record : Nat) :
    c.Fills (c.closeBefore comp record g) ∧
      (g.isFragment = true → (c.closeBefore comp record g).readyFor g) := by
  unfold Channel.closeBefore
  split
  · obtain ⟨hfills, hat⟩ := (c.closeFilling comp g).closeSkippedFrames_keeps comp g.item record g.key
      g.position (ringSize + 1) (c.closeFilling_fillingAt comp g)
    exact ⟨(c.closeFilling_fills comp g).trans hfills, fun _ => hat.readyFor⟩
  · rename_i hbelow
    exact ⟨.refl c, fun hg => .inl (hasSlot_of_orderFits hfits hg (Bool.eq_false_iff.mpr hbelow))⟩

/-- A slot taken for a frame when none is FILLING (R63, R112). -/
theorem Channel.takeSlot_fills {c : Channel} (h0 : c.fillingCount = 0) (f : Frame) :
    c.Fills (c.takeSlot f) := by
  refine ⟨rfl, fun ⟨hpres, _⟩ => ⟨?_, ?_⟩⟩
  · exact (countP_set_le _ _ _ _).trans hpres
  · exact (countP_set_le _ _ _ _).trans (Nat.add_le_add_right (Nat.le_of_eq h0) 1)

theorem Channel.openFrame_fills {c : Channel} {g : Segment} (h : c.readyFor g) (comp : Composition)
    (record : Nat) : c.Fills (c.openFrame comp record g) := by
  unfold Channel.openFrame
  split
  · exact .refl c
  · rename_i hslot
    have htake := Channel.takeSlot_fills (h.resolve_left hslot) (openedFrame comp record g)
    dsimp only
    split <;> exact htake

theorem Channel.placeFragment_fills {c : Channel} {g : Segment} (h : c.readyFor g) (comp : Composition)
    (record : Nat) (p : Payload) : c.Fills (c.placeFragment comp record g p) := by
  obtain ⟨hstanding, hslots⟩ := (c.openFrame comp record g).modFilling_fills
    (fun f => f.takeFragment g (c.blockLength comp) p)
  exact (Channel.openFrame_fills h comp record).trans ⟨hstanding, hslots⟩

/-! ### The finish of an operation (R52, R66, R118) -/

section
variable {s : State} {ch : ChannelId}

/-- CUEING and PRIMED are alike to the laws (R18, R118). -/
theorem State.judgePriming_lawful (h : (s.chan ch).lawful) (completed : Bool) :
    ((s.judgePriming ch completed).chan ch).lawful := by
  simp only [State.judgePriming]
  split
  · rename_i hprimed
    have hstate : (s.chan ch).state = .cueing := by
      simp only [Bool.and_eq_true, decide_eq_true_eq] at hprimed
      exact hprimed.1
    simp only [State.raise_chan, State.chan_modChan_same]
    exact h.of_state (h.latch_eq_false (by simp [hstate])) (by rw [hstate]; rfl) nofun ⟨rfl, rfl, rfl⟩
  · exact h

theorem State.placeSegment_lawful {g : Segment} (h : (s.chan ch).lawful)
    (hready : g.isFragment = true → (s.chan ch).readyFor g) (comp : Composition) (record : Nat)
    (p : Payload) : ((s.placeSegment ch comp record g p).chan ch).lawful := by
  have hcounted : ((s.modChan ch (fun c => c.modCounts (·.withPayload p))).raiseUnusable ch g p).chan ch =
      (s.chan ch).modCounts (·.withPayload p) := by simp
  have hsheds : (s.chan ch).Sheds ((s.chan ch).modCounts (·.withPayload p)) := ⟨rfl, le_rfl⟩
  simp only [State.placeSegment]
  split
  · rename_i hg
    rw [State.chan_modChan_same, hcounted]
    exact (h.of_sheds hsheds).of_fills (Channel.placeFragment_fills (c := (s.chan ch).modCounts _)
      (hready hg) comp record p)
  · have hplaced := State.placePrologue_sheds
      ((s.modChan ch (fun c => c.modCounts (·.withPayload p))).raiseUnusable ch g p) ch comp g p
    rw [hcounted] at hplaced
    exact (h.of_sheds hsheds).of_sheds hplaced

theorem State.afterPlacement_lawful (h : (s.chan ch).lawful) (completed readied : Bool) :
    ((s.afterPlacement ch completed readied).chan ch).lawful := by
  have hreturned := h.of_sheds (s.finishHead_sheds ch)
  have hreported : ((if completed then (s.finishHead ch).reportComplete ch else s.finishHead ch).chan
      ch).lawful := by
    split
    · exact hreturned.of_sheds (State.reportComplete_sheds _ ch)
    · exact hreturned
  simp only [State.afterPlacement]
  generalize (if completed = true then (s.finishHead ch).reportComplete ch else s.finishHead ch) = t
    at hreported ⊢
  have hjudged : ((if readied || completed then t.judgePriming ch completed else t).chan ch).lawful := by
    split
    · exact State.judgePriming_lawful hreported completed
    · exact hreported
  split
  · exact hjudged.of_keeps (State.nextItemOccasion_keeps _ ch)
  · exact hjudged

/-- A segment that passed the order check is unpacked (R52, R57). -/
theorem State.unpack_lawful {comp : Composition} {g : Segment} (h : (s.chan ch).lawful)
    (hfits : orderFits (s.chan ch) comp g = true) (record : Nat) (key : KeyChoice) :
    ((s.unpack ch comp record key g).chan ch).lawful := by
  obtain ⟨hfills, hready⟩ := Channel.closeBefore_readies hfits record
  have hclosed : ((s.modChan ch (fun c => c.closeBefore comp record g)).chan ch).lawful := by
    simpa using h.of_fills hfills
  simp only [State.unpack]
  split
  · split
    · exact State.judgePriming_lawful hclosed false
    · exact hclosed
  · exact State.afterPlacement_lawful
      (State.placeSegment_lawful hclosed (by simpa using hready) comp record _) _ _

/-- A segment that passes the order check fits the fetching record's composition (R56). -/
theorem State.orderFits_of_orderPasses {g : Segment} {r : AdmissionRecord} {comp : Composition}
    (h : s.orderPasses ch g = true) (hr : (s.chan ch).fetchingRecord = some r)
    (hcomp : s.fetchingComposition ch = some comp) : orderFits (s.chan ch) comp g = true := by
  have hslot : s.composition r.slot = some comp := by simpa [State.fetchingComposition, hr] using hcomp
  simp only [State.orderPasses, hr, hslot, Bool.and_eq_true] at h
  exact h.2

theorem State.finishSegment_lawful (hs : Lawful s) : Lawful s.finishSegment := by
  simp only [State.finishSegment]
  split
  · exact hs
  · rename_i w _
    have hfreed : Lawful { s with work := none } := hs.of_stage rfl
    have hsame : State.chan { s with work := none } w.channel = s.chan w.channel :=
      State.chan_of_stage rfl w.channel
    have hdiscard : Lawful (State.discardOrder { s with work := none } w.channel) :=
      hfreed.of_beside (State.discardOrder_beside _ _)
        ((hfreed w.channel).of_sheds (State.discardOrder_sheds _ _))
    split
    · exact hfreed
    · split
      · exact hdiscard
      · rename_i hpasses
        split
        · rename_i hr hcomp
          refine hfreed.of_beside (State.unpack_beside _ _ _ _ _ _)
            (State.unpack_lawful (hfreed w.channel) ?_ _ _)
          rw [hsame]
          exact State.orderFits_of_orderPasses (by simpa using hpasses) hr hcomp
        · exact hdiscard

end

end Sys2Proof.Machine

/-! ## Deadlines and edges keep the laws (R18 to R21, R113, R120 to R128, R144 to R147) -/

namespace Sys2Proof.Machine

/-- A channel whose timer is not STOPPED and whose laws hold, as one that takes deadlines. -/
structure Channel.Showing (c : Channel) : Prop where
  timer : c.timer.state ≠ .stopped
  state : c.state.timerStopped = false
  records : c.records.length ≤ 2
  latch : c.latchLaw
  slots : c.slotLaw

theorem ChannelState.atRest_of_showing {st : ChannelState} (h : st.timerStopped = false) :
    st.atRest = false := by
  cases st with
  | idle | loaded | cueing | primed | ended => cases h
  | playing | paused | holding | suspended => rfl

theorem Channel.Showing.lawful {c : Channel} (h : c.Showing) : c.lawful := by
  refine ⟨⟨iff_of_false h.timer (by simp [h.state]), ⟨h.records, fun hr => ?_⟩, h.latch⟩, h.slots⟩
  simp [ChannelState.atRest_of_showing h.state] at hr

theorem Channel.lawful.showing {c : Channel} (h : c.lawful) (ht : c.timer.state ≠ .stopped) :
    c.Showing := by
  obtain ⟨⟨htimer, ⟨htwo, -⟩, hlatch⟩, hslot⟩ := h
  exact ⟨ht, Bool.eq_false_iff.mpr (ht ∘ htimer.mpr), htwo, hlatch, hslot⟩

theorem Channel.Showing.of_keeps {c d : Channel} (hc : c.Showing) (h : c.Keeps d) : d.Showing := by
  obtain ⟨-, htimer, -⟩ := Channel.footing_eq_iff.mp h.1
  exact (hc.lawful.of_keeps h).showing (htimer ▸ hc.timer)

/-- A change to another state whose timer is not STOPPED, with the latch clear. -/
theorem Channel.Showing.of_state {c d : Channel} (hc : c.Showing) (hl : c.state ≠ .suspended)
    (hd : d.state.timerStopped = false)
    (h : d.latch = c.latch ∧ d.timer = c.timer ∧ d.slots = c.slots ∧ d.records = c.records) :
    d.Showing := by
  obtain ⟨hlatch, hsame⟩ := h
  have hlawful : d.lawful := hc.lawful.of_state (hlatch.trans (hc.lawful.latch_eq_false hl))
    (hd.trans hc.state.symm) (fun hr => by simp [ChannelState.atRest_of_showing hd] at hr) hsame
  exact hlawful.showing (hsame.1 ▸ hc.timer)

theorem Channel.Showing.freePresenting {c : Channel} (h : c.Showing) : c.freePresenting.Showing :=
  ⟨h.timer, h.state, h.records, h.latch, Channel.freePresenting_slotLaw h.slots⟩

theorem Channel.showPicture_sheds (c : Channel) (f : Frame) : c.Sheds (c.showPicture f) := by
  unfold Channel.showPicture
  (repeat' split) <;> exact ⟨rfl, le_rfl⟩

theorem Channel.giveSound_sheds (c : Channel) (f : Frame) (channels : Nat) (target knownEnd : Bool) :
    c.Sheds (c.giveSound f channels target knownEnd) := by
  unfold Channel.giveSound
  (repeat' split) <;> exact ⟨rfl, le_rfl⟩

section
variable {s : State} {ch : ChannelId}

theorem State.keepPeriod_showing (h : (s.chan ch).Showing) :
    ((s.keepPeriod ch).chan ch).Showing := by
  simp only [State.keepPeriod, State.chan_modChan_same]
  exact ⟨nofun, h.state, h.records, h.latch, h.slots⟩

theorem State.pausedDeadline_showing (h : (s.chan ch).Showing) :
    ((s.pausedDeadline ch).chan ch).Showing := by
  have hk := State.keepPeriod_showing h
  simp only [State.pausedDeadline, State.chan_modChan_same]
  exact ⟨hk.timer, hk.state, hk.records, hk.latch, hk.slots⟩

theorem State.heldDeadline_showing (h : (s.chan ch).Showing) :
    ((s.heldDeadline ch).chan ch).Showing :=
  (State.pausedDeadline_showing h).of_keeps (State.countHeld_sheds _ ch).keeps

theorem State.suspendedDeadline_showing (h : (s.chan ch).Showing) :
    ((s.suspendedDeadline ch).chan ch).Showing := by
  have hk := State.keepPeriod_showing h
  simp only [State.suspendedDeadline, State.chan_modChan_same]
  exact ⟨hk.timer, hk.state, hk.records, hk.latch, hk.slots⟩

/-- A suspending deadline sets the latch and the state that it needs (R147). -/
theorem State.suspend_showing (h : (s.chan ch).Showing) : ((s.suspend ch).chan ch).Showing := by
  have hk := State.keepPeriod_showing h
  simp only [State.suspend, State.raise_chan, State.putSubs_chan_same, State.chan_modChan_same]
  exact ⟨hk.timer, rfl, hk.records, fun _ => rfl, hk.slots⟩

theorem State.underrun_showing (h : (s.chan ch).Showing) (hst : (s.chan ch).state ≠ .suspended) :
    ((s.underrun ch).chan ch).Showing := by
  have hstalled : (((s.raise .underrun (some ch) (.underrun (s.chan ch).reportedPosition
      (s.awaited ch))).modChan ch (fun c => { c with stallCount := 1, state := .holding })).chan
      ch).Showing := by
    simp only [State.chan_modChan_same, State.raise_chan]
    exact h.of_state hst rfl ⟨rfl, rfl, rfl, rfl⟩
  simp only [State.underrun]
  split
  · exact State.suspend_showing hstalled
  · exact State.heldDeadline_showing hstalled

theorem State.holdOn_showing (h : (s.chan ch).Showing) : ((s.holdOn ch).chan ch).Showing := by
  have hstalled : ((s.modChan ch (fun c => { c with stallCount := min 250 (c.stallCount + 1) })).chan
      ch).Showing := by
    simp only [State.chan_modChan_same]
    exact ⟨h.timer, h.state, h.records, h.latch, h.slots⟩
  simp only [State.holdOn]
  split
  · exact State.suspend_showing hstalled
  · exact State.heldDeadline_showing hstalled

theorem State.closeAtFrame_keeps (f : Frame) (lastFrame committed knownEnd : Bool) :
    (s.chan ch).Keeps ((s.closeAtFrame ch f lastFrame committed knownEnd).chan ch) := by
  have hclose (r : AdmissionRecord) (o : LogOutcome) :
      (s.chan ch).Keeps (((s.closeRecord ch r o).nextItemOccasion ch).chan ch) :=
    (s.closeRecord_sheds ch r o).keeps.trans (State.nextItemOccasion_keeps _ ch)
  simp only [State.closeAtFrame]
  split
  · exact (Channel.Sheds.refl _).keeps
  · split
    · exact hclose _ _
    · split
      · exact hclose _ _
      · exact (Channel.Sheds.refl _).keeps

/-- A presented slot is the only PRESENTING one, and its record may close and another open (R121). -/
theorem State.present_showing (h : (s.chan ch).Showing)
    (h0 : (s.chan ch).slots.countP Slot.isPresenting = 0) (f : Frame) (target committed knownEnd : Bool) :
    ((s.present ch f target committed knownEnd).chan ch).Showing := by
  simp only [State.present]
  split
  · exact h
  · rename_i comp _
    have hslot : ((s.chan ch).presentSlot f).Showing :=
      ⟨h.timer, h.state, h.records, h.latch, Channel.presentSlot_slotLaw h.slots h0 f⟩
    have hout := hslot.of_keeps ((Channel.showPicture_sheds _ f).trans
      (Channel.giveSound_sheds _ f comp.sourceChannels.toNat target knownEnd)).keeps
    refine Channel.Showing.of_keeps ?_
      ((State.countPresentation_sheds _ ch _ _).keeps.trans (State.closeAtFrame_keeps f _ _ _))
    simp only [State.raiseDamage_chan, State.chan_modChan_same, State.putSubs_chan_same]
    exact ⟨nofun, hout.state, hout.records, hout.latch, hout.slots⟩

theorem State.presentNext_showing (h : (s.chan ch).Showing)
    (h0 : (s.chan ch).slots.countP Slot.isPresenting = 0) (f : Frame) :
    ((s.presentNext ch f).chan ch).Showing := by
  simp only [State.presentNext]
  refine State.present_showing ?_ ?_ f _ _ _
  · simp only [State.chan_modChan_same]
    exact ⟨h.timer, h.state, h.records, h.latch, h.slots⟩
  · simpa using h0

/-- A show ends with no record and with its timer STOPPED (R128). -/
theorem State.endShow_lawful (h : (s.chan ch).Showing) (hst : (s.chan ch).state ≠ .suspended)
    (hrecords : (s.chan ch).records = []) : ((s.endShow ch).chan ch).lawful := by
  have hlatch := h.lawful.latch_eq_false hst
  simp only [State.endShow, State.raise_chan, State.putSubs_chan_same, State.chan_modChan_same]
  exact ⟨⟨iff_of_true rfl rfl, ⟨h.records, fun _ => hrecords⟩, fun hl => absurd hl (by
    simp [Channel.sendPicture, hlatch])⟩, h.slots⟩

theorem State.playingDeadline_lawful (h : (s.chan ch).Showing) (hst : (s.chan ch).state ≠ .suspended)
    (h0 : (s.chan ch).slots.countP Slot.isPresenting = 0) (presented : Bool) :
    ((s.playingDeadline ch presented).chan ch).lawful := by
  simp only [State.playingDeadline]
  split
  · refine (State.pausedDeadline_showing ?_).lawful
    simp only [State.chan_modChan_same]
    exact h.of_state hst rfl ⟨rfl, rfl, rfl, rfl⟩
  · split
    · rename_i hover
      refine State.endShow_lawful h hst ?_
      simp only [State.showOver, Bool.and_eq_true, List.isEmpty_iff] at hover
      obtain ⟨-, ⟨-, hrecords⟩, -⟩ := hover
      exact hrecords
    · split
      · exact (State.presentNext_showing h h0 _).lawful
      · exact (State.underrun_showing h hst).lawful

theorem State.holdingDeadline_showing (h : (s.chan ch).Showing) (hst : (s.chan ch).state ≠ .suspended)
    (h0 : (s.chan ch).slots.countP Slot.isPresenting = 0) :
    ((s.holdingDeadline ch).chan ch).Showing := by
  simp only [State.holdingDeadline]
  split
  · split
    · refine State.presentNext_showing ?_ ?_ _
      · simp only [State.chan_modChan_same]
        exact h.of_state hst rfl ⟨rfl, rfl, rfl, rfl⟩
      · simpa using h0
    · exact State.holdOn_showing h
  · exact State.holdOn_showing h

/-- A deadline, in each state that has one (R114). -/
theorem State.deadline_lawful (h : (s.chan ch).Showing) : ((s.deadline ch).chan ch).lawful := by
  have hchan : (s.freePresenting ch).chan ch = (s.chan ch).freePresenting := by
    simp [State.freePresenting]
  have hfreed : ((s.freePresenting ch).chan ch).Showing := hchan ▸ h.freePresenting
  have h0 : ((s.freePresenting ch).chan ch).slots.countP Slot.isPresenting = 0 :=
    hchan ▸ (s.chan ch).freePresenting_presenting
  have hstate : ((s.freePresenting ch).chan ch).state = (s.chan ch).state := by rw [hchan]; rfl
  simp only [State.deadline]
  split
  · rename_i hst
    exact State.playingDeadline_lawful hfreed (by simp [hstate, hst]) h0 _
  · exact (State.pausedDeadline_showing hfreed).lawful
  · rename_i hst
    exact (State.holdingDeadline_showing hfreed (by simp [hstate, hst]) h0).lawful
  · exact (State.suspendedDeadline_showing hfreed).lawful
  all_goals exact h.lawful

theorem State.deadlineEdge_lawful (h : (s.chan ch).Showing) : ((s.deadlineEdge ch).chan ch).lawful := by
  simp only [State.deadlineEdge, State.chan_modChan_same]
  exact (State.deadline_lawful h).of_sheds ⟨rfl, le_rfl⟩

theorem State.reachDeadline_lawful (h : (s.chan ch).lawful) : ((s.reachDeadline ch).chan ch).lawful := by
  unfold State.reachDeadline
  split
  · exact h
  · exact State.deadlineEdge_lawful (h.showing (by simp [*]))
  · have hs := h.showing (by simp [*])
    refine State.deadlineEdge_lawful ?_
    simp only [State.chan_modChan_same]
    exact ⟨hs.timer, hs.state, hs.records, hs.latch, hs.slots⟩

theorem State.sampleEdge_lawful (h : (s.chan ch).lawful) : ((s.sampleEdge ch).chan ch).lawful := by
  simp only [State.sampleEdge]
  split
  · simp only [State.chan_modChan_same]
    exact h.of_sheds ⟨rfl, le_rfl⟩
  · exact State.deadlineEdge_lawful (h.showing (by simp [*]))
  · have hs := h.showing (by simp [*])
    split
    · exact State.deadlineEdge_lawful hs
    · simp only [State.chan_modChan_same]
      exact Channel.Showing.lawful ⟨hs.timer, hs.state, hs.records, hs.latch, hs.slots⟩

end

end Sys2Proof.Machine

/-! ## Requests keep the laws (R8 to R10, R115 to R119, R124, R125, R129, R134 to R138, R149, R150) -/

namespace Sys2Proof.Machine

section
variable {s : State}

theorem Lawful.of_compositions (hs : Lawful s) (table : List (Option CompositionSlot)) :
    Lawful { s with compositions := table } := hs.of_chan fun ch => by cases ch <;> rfl

theorem ChannelState.timerStopped_of_atRest {st : ChannelState} (h : st.atRest = true) :
    st.timerStopped = true ∧ st ≠ .suspended := by
  cases st with
  | idle | loaded | ended => exact ⟨rfl, nofun⟩
  | cueing | primed | playing | paused | holding | suspended => cases h

/-- A show list comes and goes between states of rest (R8 to R10). -/
theorem Channel.lawful.of_rest {c d : Channel} (hc : c.lawful) (hold : c.state.atRest = true)
    (hnew : d.state.atRest = true)
    (h : d.latch = c.latch ∧ d.timer = c.timer ∧ d.slots = c.slots ∧ d.records = c.records) :
    d.lawful := by
  obtain ⟨hlatch, hsame⟩ := h
  obtain ⟨hstopped, hruns⟩ := ChannelState.timerStopped_of_atRest hold
  obtain ⟨hstopped', -⟩ := ChannelState.timerStopped_of_atRest hnew
  exact hc.of_state (hlatch.trans (hc.latch_eq_false hruns)) (hstopped'.trans hstopped.symm)
    (fun _ => hold) hsame

theorem ChannelState.acceptsLoadShow_eq_atRest (st : ChannelState) : st.acceptsLoadShow = st.atRest := by
  cases st <;> rfl

theorem doLoadShow_lawful (n : Byte) (items : List ShowItem) (hs : Lawful s) :
    Lawful (doLoadShow n items s).1 := by
  unfold doLoadShow
  split
  · exact hs
  · rename_i ch _
    split
    · exact hs
    · rename_i hrest
      iterate 2 (split; · exact hs)
      have hold : (s.chan ch).state.atRest = true := by
        simpa [ChannelState.acceptsLoadShow_eq_atRest] using hrest
      exact (hs.of_compositions _).of_modChan
        ((hs ch).of_rest hold rfl (by cases ch <;> exact ⟨rfl, rfl, rfl, rfl⟩))

theorem doClearShow_lawful (n : Byte) (hs : Lawful s) : Lawful (doClearShow n s).1 := by
  have hremove (ch : ChannelId) (hold : (s.chan ch).state.atRest = true) :
      Lawful (removeShow ch s) := by
    exact (hs.of_compositions _).of_modChan
      ((hs ch).of_rest hold rfl (by cases ch <;> exact ⟨rfl, rfl, rfl, rfl⟩))
  refine onChannel_induction (P := Lawful) hs fun ch _ => ?_
  dsimp only
  split
  · exact hremove ch (by simp [*, ChannelState.atRest])
  · exact hremove ch (by simp [*, ChannelState.atRest])
  · exact hs

/-- An accepted CUE: nothing in the ring, one record, the latch clear and the timer STOPPED (R117). -/
theorem State.cue_lawful {ch : ChannelId} (h : (s.chan ch).lawful)
    (hst : (s.chan ch).state.atRest = true) (comp : Composition) (item slot reel : Nat)
    (licence : Option Nat) : ((s.cue ch comp item slot reel licence).chan ch).lawful := by
  obtain ⟨⟨htimer, ⟨-, hnone⟩, -⟩, -⟩ := h
  have hstopped : (s.chan ch).fullFlush.timer.state = .stopped :=
    htimer.mpr (ChannelState.timerStopped_of_atRest hst).1
  have hsheds := State.restartIngest_sheds (s.modChan ch (fun c => c.fullFlush)) ch
  obtain ⟨hf, hlen⟩ := ((s.modChan ch (fun c => c.fullFlush)).restartIngest ch).admitAndFetch_grows ch comp
    item slot reel licence
  rw [State.chan_modChan_same] at hsheds
  obtain ⟨-, ht, -, hslots⟩ := Channel.footing_eq_iff.mp (hf.trans hsheds.1)
  have hempty : (s.chan ch).fullFlush.records = [] := hnone hst
  have hlen' := hsheds.2
  simp only [State.cue, State.chan_modChan_same]
  refine ⟨⟨iff_of_true ?_ rfl, ⟨?_, nofun⟩, nofun⟩, ?_⟩
  · simpa only [Channel.cued, ht] using hstopped
  · simp only [Channel.cued]
    rw [hempty] at hlen'
    rw [hlen]
    exact Nat.add_le_add_right (hlen'.trans (Nat.zero_le 1)) 1
  · simpa only [Channel.slotLaw, Channel.cued, hslots] using (s.chan ch).fullFlush_slotLaw

theorem doCue_lawful (n item reel : Byte) (hs : Lawful s) : Lawful (doCue n item reel s).1 := by
  have hcue (ch : ChannelId) (hst : (s.chan ch).state.atRest = true) (comp : Composition)
      (i slot r : Nat) (licence : Option Nat) : Lawful (s.cue ch comp i slot r licence) :=
    hs.of_beside (State.cue_beside ..) (State.cue_lawful (hs ch) hst comp i slot r licence)
  refine onChannel_induction (P := Lawful) hs fun ch _ => ?_
  dsimp only
  split
  iterate 2
    · rename_i hst
      iterate 2 (split; · exact hs)
      exact hcue ch (by simp [hst, ChannelState.atRest]) _ _ _ _ _
  · exact hs

/-- START arms the timer of a PRIMED channel (R119). -/
theorem doStart_lawful (n : Byte) (hs : Lawful s) : Lawful (doStart n s).1 := by
  refine onChannel_induction (P := Lawful) hs fun ch _ => ?_
  dsimp only
  split
  · rename_i hst
    have hlatch := (hs ch).latch_eq_false (by simp [hst])
    obtain ⟨⟨-, ⟨htwo, -⟩, -⟩, hslot⟩ := hs ch
    exact hs.of_modChan (Channel.Showing.lawful
      ⟨nofun, rfl, htwo, fun h => absurd h (by simp [hlatch]), hslot⟩)
  · exact hs

theorem doPause_lawful (n : Byte) (hs : Lawful s) : Lawful (doPause n s).1 := by
  refine onChannel_induction (P := Lawful) hs fun ch _ => ?_
  split
  iterate 2
    · rename_i hst
      exact hs.of_modChan ((hs ch).of_state ((hs ch).latch_eq_false (by simp [hst])) (by rw [hst]; rfl)
        nofun ⟨rfl, rfl, rfl⟩)
  · exact hs

theorem doResume_lawful (n : Byte) (hs : Lawful s) : Lawful (doResume n s).1 := by
  refine onChannel_induction (P := Lawful) hs fun ch _ => ?_
  dsimp only
  split
  · rename_i hst
    have hlatch := (hs ch).latch_eq_false (by simp [hst])
    split
    · exact hs.of_modChan ((hs ch).of_state hlatch (by rw [hst]; rfl) nofun ⟨rfl, rfl, rfl⟩)
    · exact hs.of_modChan ((hs ch).of_state hlatch (by rw [hst]; rfl) nofun ⟨rfl, rfl, rfl⟩)
  · rename_i hst
    split
    · exact hs
    · rename_i hlatch
      split
      · exact hs
      · exact hs.of_modChan ((hs ch).of_state (Bool.eq_false_iff.mpr hlatch) (by rw [hst]; rfl) nofun
          ⟨rfl, rfl, rfl⟩)
  · exact hs

theorem doAcknowledge_lawful (n : Byte) (hs : Lawful s) : Lawful (doAcknowledge n s).1 := by
  refine onChannel_induction (P := Lawful) hs fun ch _ => ?_
  split
  · exact hs.of_modChan ((hs ch).of_state rfl rfl id ⟨rfl, rfl, rfl⟩)
  · exact hs

/-- An accepted STOP ends every record, and leaves timer, latch and ring as ENDED needs them (R129). -/
theorem State.stop_lawful (ch : ChannelId) : ((s.stop ch).chan ch).lawful := by
  obtain ⟨-, hended⟩ := foldl_removeRecord
    (fun t => t.endRecord_chan ch (s.chan ch).state.stopOutcome) (s.chan ch).records s
  have hnone : (State.chan ((s.chan ch).records.foldl
      (fun st r => st.endRecord ch (s.chan ch).state.stopOutcome r) s) ch).records = [] := by
    rw [hended]
    exact List.filter_eq_nil_iff.mpr fun x hx => by simpa using ⟨x, hx, rfl⟩
  obtain ⟨-, hraised⟩ := State.raiseEpoch_sheds ((s.chan ch).records.foldl
    (fun st r => st.endRecord ch (s.chan ch).state.stopOutcome r) s) ch
  rw [hnone] at hraised
  simp only [State.stop, State.raise_chan, State.putSubs_chan_same, State.chan_modChan_same,
    State.sendReturn_chan]
  exact ⟨⟨iff_of_true rfl rfl, ⟨hraised.trans (Nat.zero_le 2),
    fun _ => List.length_eq_zero_iff.mp (Nat.le_zero.mp hraised)⟩, nofun⟩, Channel.fullFlush_slotLaw _⟩

theorem doStop_lawful (n : Byte) (hs : Lawful s) : Lawful (doStop n s).1 := by
  refine onChannel_induction (P := Lawful) hs fun ch _ => ?_
  split
  · exact hs.of_beside (s.stop_beside ch) (State.stop_lawful ch)
  · exact hs

/-! ### JUMP (R134 to R138) -/

/-- A jump is judged only on a channel that is not at rest (R134). -/
theorem ChannelState.atRest_of_judgesJump {st : ChannelState} (h : st.judgesJump = true) :
    st.atRest = false := by
  cases st with
  | idle | loaded | ended | suspended => cases h
  | cueing | primed | playing | paused | holding => rfl

/-- Pending jump, position, subtitles: of the laws, only CUEING and PRIMED are touched (R136). -/
theorem Channel.jumped_lawful {c : Channel} (h : c.lawful) (item reel n : Nat) :
    (c.jumped item reel n).lawful := by
  by_cases hst : c.state = .cueing ∨ c.state = .primed
  · have hnew : (c.jumped item reel n).state = .cueing := by
      obtain hst | hst := hst <;> simp [Channel.jumped, hst]
    refine h.of_state (h.latch_eq_false ?_) ?_ ?_ ⟨rfl, rfl, rfl⟩
    · obtain hst | hst := hst <;> simp [hst]
    · obtain hst | hst := hst <;> simp [hnew, hst, ChannelState.timerStopped]
    · rw [hnew]; nofun
  · have hnew : (c.jumped item reel n).footing = c.footing := by
      simp [Channel.jumped, Channel.footing, not_or.mp hst]
    exact h.of_sheds ⟨hnew, le_rfl⟩

section
variable (ch : ChannelId)

/-- Ring and port at a jump (R136, steps 2 and 3): slots go, records stay. -/
theorem State.jumpFlush_lawful (h : (s.chan ch).lawful) (n : Nat) :
    ((s.jumpFlush ch n).chan ch).lawful ∧ ((s.jumpFlush ch n).chan ch).state = (s.chan ch).state ∧
      ((s.jumpFlush ch n).chan ch).records.length ≤ (s.chan ch).records.length := by
  have hsheds := State.raiseEpoch_sheds (s.modChan ch (fun c => c.flushAfter n)) ch
  rw [State.chan_modChan_same] at hsheds
  obtain ⟨hstate, -⟩ := Channel.footing_eq_iff.mp hsheds.1
  exact ⟨(h.of_fills ((s.chan ch).flushAfter_fills n)).of_sheds hsheds, hstate, hsheds.2⟩

/-- A jump to another item: its releases leave at most one record beside the new one (R137). -/
theorem State.jumpAway_lawful {t : State} {comp : Composition} {item slot reel n : Nat}
    (h : (s.chan ch).lawful) (hst : (s.chan ch).state.atRest = false)
    (ht : s.jumpAway ch comp item slot reel n = .ok t) : (t.chan ch).lawful := by
  simp only [State.jumpAway] at ht
  split at ht
  · cases ht
  · cases ht
    obtain ⟨hreleased, hone⟩ := s.jumpReleases_sheds ch n
    have hclosed := State.closeLeft_sheds (s.jumpReleases ch n) ch n
    have hleft := hreleased.trans hclosed
    obtain ⟨hstate, -⟩ := Channel.footing_eq_iff.mp hleft.1
    obtain ⟨hflushed, hstate', hlen⟩ := State.jumpFlush_lawful ch (h.of_sheds hleft) n
    obtain ⟨hf, hgrown⟩ := State.admitAndFetch_grows
      (((s.jumpReleases ch n).closeLeft ch n).jumpFlush ch n) ch comp item slot reel _
    exact hflushed.of_admitted (by rw [hstate', hstate, hst]) (hlen.trans (hclosed.2.trans hone)) hf
      hgrown

/-- A jump within the presenting record's item (R138). -/
theorem State.jumpWithin_lawful (h : (s.chan ch).lawful) (r : AdmissionRecord) (reel n : Nat) :
    ((s.jumpWithin ch r reel n).chan ch).lawful := by
  obtain ⟨hsheds, -⟩ := s.discardFetching_sheds ch
  obtain ⟨hflushed, -⟩ := State.jumpFlush_lawful ch (h.of_sheds hsheds) n
  exact hflushed.of_sheds (State.beginFetch_sheds _ ch r reel)

theorem State.jump_lawful {t : State} {comp : Composition} {slot item reel : Nat}
    (h : (s.chan ch).lawful) (hst : (s.chan ch).state.atRest = false)
    (ht : s.jump ch comp slot item reel = .ok t) : (t.chan ch).lawful := by
  have hfinish {u : State} (n : Nat) (hu : (u.chan ch).lawful) :
      ((u.modChan ch (fun k => k.jumped item reel n)).chan ch).lawful := by
    rw [State.chan_modChan_same]
    exact Channel.jumped_lawful hu item reel n
  have haway (n : Nat) (hn : (s.jumpAway ch comp item slot reel n).map
      (fun st => st.modChan ch (fun k => k.jumped item reel n)) = .ok t) : (t.chan ch).lawful := by
    cases hj : s.jumpAway ch comp item slot reel n with
    | error st => simp [hj, Except.map] at hn
    | ok u =>
      simp only [hj, Except.map, Except.ok.injEq] at hn
      exact hn ▸ hfinish n (State.jumpAway_lawful ch h hst hj)
  simp only [State.jump] at ht
  split at ht
  · split at ht
    · cases ht
      exact hfinish _ (State.jumpWithin_lawful ch h _ reel _)
    · exact haway _ ht
  · exact haway _ ht

end

theorem doJump_lawful (n item reel : Byte) (hs : Lawful s) : Lawful (doJump n item reel s).1 := by
  refine onChannel_induction (P := Lawful) hs fun ch _ => ?_
  dsimp only
  split
  · exact hs
  · rename_i hjudged
    have hst := ChannelState.atRest_of_judgesJump (by simpa using hjudged)
    iterate 4 (split; · exact hs)
    rename_i hjump
    exact hs.of_beside (State.jump_beside hjump) (State.jump_lawful ch (hs ch) hst hjump)

/-! ### All requests -/

/-- A channel with settings changed that the laws do not read. -/
theorem Lawful.of_settings {ch : ChannelId} {f : Channel → Channel} (hs : Lawful s)
    (h : (s.chan ch).Sheds (f (s.chan ch))) : Lawful (s.modChan ch f) :=
  hs.of_modChan ((hs ch).of_sheds h)

theorem doConfigureChannel_lawful (n : Byte) (rate : Word) (priming resume stall : Half)
    (hs : Lawful s) : Lawful (doConfigureChannel n rate priming resume stall s).1 := by
  refine onChannel_induction (P := Lawful) hs fun ch _ => ?_
  iterate 2 (split; · exact hs)
  exact hs.of_settings ⟨rfl, le_rfl⟩

theorem doSetTracks_lawful (n value mask : Byte) (hs : Lawful s) :
    Lawful (doSetTracks n value mask s).1 := by
  refine onChannel_induction (P := Lawful) hs fun ch _ => ?_
  split
  · exact hs
  · exact hs.of_settings ⟨rfl, le_rfl⟩

theorem doSetRoute_lawful (n : Byte) (lanes : List LaneEntry) (hs : Lawful s) :
    Lawful (doSetRoute n lanes s).1 := by
  unfold doSetRoute
  split
  · exact hs
  · refine onChannel_induction (P := Lawful) hs fun ch _ => ?_
    split
    · exact hs
    · exact hs.of_settings ⟨rfl, le_rfl⟩

theorem doSetStyle_lawful (n style : Byte) (handle : Half) (minimum : Byte) (hs : Lawful s) :
    Lawful (doSetStyle n style handle minimum s).1 := by
  refine onChannel_induction (P := Lawful) hs fun ch _ => ?_
  split
  · exact hs
  · exact hs.of_settings ⟨rfl, le_rfl⟩

theorem doSetSubtitleOffset_lawful (n track : Byte) (offset : Half) (hs : Lawful s) :
    Lawful (doSetSubtitleOffset n track offset s).1 := by
  refine onChannel_induction (P := Lawful) hs fun ch _ => ?_
  split
  · exact hs
  · exact hs.of_settings ⟨rfl, le_rfl⟩

/-- Every request keeps the laws: one that names no channel leaves both as they are. -/
theorem perform_lawful (r : Request) (hs : Lawful s) : Lawful (perform r s).1 := by
  cases r with
  | identify | status | softReset | clearResetCause | loadComposition | dropComposition
  | readComposition | loadLicence | revokeLicence | deleteLicence | readLicence | counterOp | setTime
  | adjustTime | readTime | readLog | releaseLog | readNotices | clearNotices | maskNotices =>
    exact hs.of_chan (perform_chan_of_none s rfl)
  | channelReport n => exact onChannel_induction (P := Lawful) hs fun _ _ => hs
  | configureChannel n rate priming resume stall =>
    exact doConfigureChannel_lawful n rate priming resume stall hs
  | setTracks n value mask => exact doSetTracks_lawful n value mask hs
  | setRoute n lanes => exact doSetRoute_lawful n lanes hs
  | setStyle n style handle minimum => exact doSetStyle_lawful n style handle minimum hs
  | setSubtitleOffset n track offset => exact doSetSubtitleOffset_lawful n track offset hs
  | loadShow n items => exact doLoadShow_lawful n items hs
  | clearShow n => exact doClearShow_lawful n hs
  | cue n item reel => exact doCue_lawful n item reel hs
  | start n => exact doStart_lawful n hs
  | pause n => exact doPause_lawful n hs
  | resume n => exact doResume_lawful n hs
  | stop n => exact doStop_lawful n hs
  | jump n item reel => exact doJump_lawful n item reel hs
  | acknowledgeSuspension n => exact doAcknowledge_lawful n hs

end

/-- The ways by which commands reach the channels keep the laws. -/
theorem lawful_stageInvariant : StageInvariant Lawful where
  of_stage := Lawful.of_stage
  of_reset := lawful_of_reset
  perform r _ hs := perform_lawful r hs
  arrive ch g s hs := hs.of_beside (s.arrive_beside ch g) ((hs ch).of_sheds (s.arrive_sheds ch g))
  serve ch s hs := hs.of_beside (s.serve_beside ch) ((hs ch).of_sheds (s.serve_sheds ch))
  finishSegment hs := State.finishSegment_lawful hs
  reachDeadline ch s hs := hs.of_beside (s.reachDeadline_beside ch) (State.reachDeadline_lawful (hs ch))
  sampleEdge ch s hs := hs.of_beside (s.sampleEdge_beside ch) (State.sampleEdge_lawful (hs ch))

/-- Settles O50: requests, segments, deadlines and edges keep the laws of their channel, whose other channel
they leave alone. -/
theorem showLawsAreKept : Obligations.ShowLawsAreKept := fun _ _ hs h =>
  lawful_iff.mp (lawful_stageInvariant.step (lawful_iff.mpr hs) h)

end Sys2Proof.Machine

/-! ## Credit and the blocks of the queue (R37, R39, R44 to R46)

`State.credits` is what the credit law speaks of: one lemma per operation, in the order of the model. Only CUE
changes it, and sets it to the allotment. -/

namespace Sys2Proof.Machine

/-- Granted-unused credit and the blocks held in the queue together (R37). -/
def Channel.credit (c : Channel) : Nat := c.granted + blocksHeld c.queue

/-- The credit of both channels. -/
def State.credits (s : State) : Nat × Nat := (s.chanA.credit, s.chanB.credit)

theorem creditLaw_iff {s : State} : CreditLaw s ↔ s.credits = (Config.allotment, Config.allotment) := by
  simp [CreditLaw, Channel.creditLaw, State.credits, Channel.credit]

theorem CreditLaw.of_credits {s t : State} (hs : CreditLaw s) (h : t.credits = s.credits) : CreditLaw t :=
  creditLaw_iff.mpr (h.trans (creditLaw_iff.mp hs))

theorem CreditLaw.credit_eq {s : State} (hs : CreditLaw s) (ch : ChannelId) :
    (s.chan ch).credit = Config.allotment := by
  obtain ⟨ha, hb⟩ := hs
  cases ch
  · exact ha
  · exact hb

theorem State.credits_of_chan {s t : State} (h : ∀ ch, t.chan ch = s.chan ch) : t.credits = s.credits :=
  Prod.ext (congrArg Channel.credit (h .a)) (congrArg Channel.credit (h .b))

theorem State.credits_of_stage {s t : State} (h : t.stage = s.stage) : t.credits = s.credits :=
  State.credits_of_chan (State.chan_of_stage h)

/-- A change of one channel that keeps its credit. -/
theorem State.modChan_credits (s : State) {ch : ChannelId} {f : Channel → Channel}
    (h : (f (s.chan ch)).credit = (s.chan ch).credit) : (s.modChan ch f).credits = s.credits := by
  cases ch
  · exact Prod.ext h rfl
  · exact Prod.ext rfl h

section
variable (s : State) (ch : ChannelId)

@[simp] theorem State.raise_credits (k : NoticeKind) (c : Option ChannelId) (d : NoticeDetail) :
    (s.raise k c d).credits = s.credits := rfl
@[simp] theorem State.refreshLogLow_credits : s.refreshLogLow.credits = s.credits := rfl
@[simp] theorem State.sendCredit_credits (n : Nat) : (s.sendCredit ch n).credits = s.credits := rfl
@[simp] theorem State.sendReturn_credits (m : ReturnMessage) : (s.sendReturn m).credits = s.credits := rfl
@[simp] theorem State.modLicence_credits (i : Nat) (f : Licence → Licence) :
    (s.modLicence i f).credits = s.credits := State.credits_of_chan (by simp)
@[simp] theorem State.modLog_credits (q : Option Nat) (f : LogRecord → LogRecord) :
    (s.modLog q f).credits = s.credits := State.credits_of_chan (by simp)
@[simp] theorem State.unpin_credits (i : Nat) : (s.unpin i).credits = s.credits :=
  State.credits_of_chan (by simp)
@[simp] theorem State.releaseReservation_credits (r : AdmissionRecord) :
    (s.releaseReservation r).credits = s.credits := State.credits_of_chan (by simp)
@[simp] theorem State.takeLog_credits (r : LogRecord) : (s.takeLog r).credits = s.credits := rfl
@[simp] theorem State.putSubs_credits (x : SubsResult) : (s.putSubs ch x).credits = s.credits := by
  have hplaced : (s.modChan ch (fun c => { c with subs := x.subs })).credits = s.credits :=
    s.modChan_credits rfl
  exact (State.credits_of_chan (State.raiseDrops_chan _ ch x.drops)).trans hplaced

/-! ### Arrivals, finishes and epochs (R39, R41, R44 to R46) -/

@[simp] theorem State.arriveStale_credits (g : Segment) : (s.arriveStale ch g).credits = s.credits := by
  have hcounted : (s.modChan ch (fun c => { c with stale := min 65535 (c.stale + 1) })).credits =
      s.credits := s.modChan_credits rfl
  simp only [State.arriveStale]
  split
  · exact hcounted
  · exact hcounted

/-- A segment joins the queue with blocks that were granted (R39). -/
@[simp] theorem State.arrive_credits (g : Segment) : (s.arrive ch g).credits = s.credits := by
  unfold State.arrive
  split
  · exact s.arriveStale_credits ch g
  · split
    · rfl
    · refine s.modChan_credits ?_
      simp only [Channel.credit, blocksHeld_append, blocksHeld_cons, blocksHeld_nil]
      omega

/-- A finished segment's blocks are granted again (R44). -/
@[simp] theorem State.finishHead_credits : (s.finishHead ch).credits = s.credits := by
  unfold State.finishHead
  split
  · rfl
  · rename_i g rest hqueue
    refine s.modChan_credits ?_
    simp only [Channel.credit, hqueue, blocksHeld_cons]
    omega

@[simp] theorem State.abandonWork_credits : (s.abandonWork ch).credits = s.credits :=
  State.credits_of_chan (by simp)

/-- A raised epoch grants the blocks of the whole queue again (R45). -/
@[simp] theorem State.raiseEpoch_credits : (s.raiseEpoch ch).credits = s.credits := by
  have hemptied : ((s.abandonWork ch).modChan ch (fun c =>
      { c with epoch := c.epoch + 1, queue := [],
               granted := c.granted + blocksHeld (s.chan ch).queue })).credits = s.credits := by
    refine ((s.abandonWork ch).modChan_credits ?_).trans (s.abandonWork_credits ch)
    simp [Channel.credit]
  simp only [State.raiseEpoch]
  split
  · exact hemptied
  · exact hemptied

/-- CUE grants the allotment to an empty queue (R46). -/
theorem State.restartIngest_credit : ((s.restartIngest ch).chan ch).credit = Config.allotment := by
  simp [State.restartIngest, Channel.credit]

/-! ### Admission and log (file 06) -/

@[simp] theorem State.beginFetch_credits (r : AdmissionRecord) (reel : Nat) :
    (s.beginFetch ch r reel).credits = s.credits := State.modChan_credits _ rfl

@[simp] theorem State.fetchNewest_credits (reel : Nat) : (s.fetchNewest ch reel).credits = s.credits := by
  unfold State.fetchNewest
  split
  · exact s.beginFetch_credits ch _ reel
  · rfl

@[simp] theorem State.openAdmission_credits (c : Composition) (item slot reel : Nat)
    (licence : Option Nat) : (s.openAdmission ch c item slot reel licence).credits = s.credits := by
  simp only [State.openAdmission]
  refine (State.modChan_credits _ rfl).trans ?_
  (repeat' split) <;> simp

@[simp] theorem State.admitAndFetch_credits (c : Composition) (item slot reel : Nat)
    (licence : Option Nat) : (s.admitAndFetch ch c item slot reel licence).credits = s.credits := by
  simp [State.admitAndFetch]

@[simp] theorem State.modRecord_credits (n : Nat) (f : AdmissionRecord → AdmissionRecord) :
    (s.modRecord ch n f).credits = s.credits := State.modChan_credits _ rfl

@[simp] theorem State.dropRecord_credits (r : AdmissionRecord) :
    (s.dropRecord ch r).credits = s.credits := by
  simp only [State.dropRecord]
  refine (State.modChan_credits _ rfl).trans ?_
  split <;> simp

@[simp] theorem State.closeRecord_credits (r : AdmissionRecord) (o : LogOutcome) :
    (s.closeRecord ch r o).credits = s.credits := by simp [State.closeRecord]

@[simp] theorem State.discardRecord_credits (r : AdmissionRecord) :
    (s.discardRecord ch r).credits = s.credits := by
  unfold State.discardRecord
  split
  · exact State.dropRecord_credits _ ch r
  · exact s.dropRecord_credits ch r

@[simp] theorem State.endRecord_credits (o : LogOutcome) (r : AdmissionRecord) :
    (s.endRecord ch o r).credits = s.credits := by
  unfold State.endRecord
  split <;> simp

@[simp] theorem State.nextItemOccasion_credits : (s.nextItemOccasion ch).credits = s.credits := by
  have hquiet : (s.reportNoNext ch).credits = s.credits := s.modChan_credits rfl
  have hrefuse (item : Nat) (st : Status) : (s.refuseNext ch item st).credits = s.credits :=
    s.modChan_credits rfl
  simp only [State.nextItemOccasion, State.admitNext]
  (repeat' split) <;> simp [hquiet, hrefuse]

@[simp] theorem State.writeCounts_credits (r : AdmissionRecord) (a b c : Nat) :
    (s.writeCounts ch r a b c).credits = s.credits := by simp [State.writeCounts]

@[simp] theorem State.reachCountPoint_credits (r : AdmissionRecord) :
    (s.reachCountPoint ch r).credits = s.credits := by
  simp only [State.reachCountPoint]
  (repeat' split) <;> simp

@[simp] theorem State.countPresentation_credits (n : Nat) (damaged : Bool) :
    (s.countPresentation ch n damaged).credits = s.credits := by
  simp only [State.countPresentation]
  (repeat' split) <;> simp

@[simp] theorem State.countHeld_credits : (s.countHeld ch).credits = s.credits := by
  unfold State.countHeld
  split <;> simp

/-! ### The unpacker (file 04) -/

theorem Channel.closeFilling_credit (c : Channel) (comp : Composition) (g : Segment) :
    (c.closeFilling comp g).credit = c.credit := by
  unfold Channel.closeFilling
  split
  · rfl
  · dsimp only
    split <;> rfl

theorem Channel.closeSkippedFrames_credit (c : Channel) (comp : Composition) (item record : Nat)
    (key : Cursor) (n : Nat) : (c.closeSkippedFrames comp item record key n).credit = c.credit := by
  induction n generalizing c with
  | zero => rfl
  | succ n ih =>
    unfold Channel.closeSkippedFrames
    split
    · rfl
    · split
      · rfl
      · exact ih _

theorem Channel.closeBefore_credit (c : Channel) (comp : Composition) (record : Nat) (g : Segment) :
    (c.closeBefore comp record g).credit = c.credit := by
  unfold Channel.closeBefore
  split
  · exact (Channel.closeSkippedFrames_credit _ _ _ _ _ _).trans (c.closeFilling_credit comp g)
  · rfl

theorem Channel.placeFragment_credit (c : Channel) (comp : Composition) (record : Nat) (g : Segment)
    (p : Payload) : (c.placeFragment comp record g p).credit = c.credit := by
  have hopened : (c.openFrame comp record g).credit = c.credit := by
    simp only [Channel.openFrame]
    (repeat' split) <;> rfl
  exact hopened

@[simp] theorem State.discardOrder_credits : (s.discardOrder ch).credits = s.credits :=
  (State.finishHead_credits _ ch).trans (s.modChan_credits rfl)

@[simp] theorem State.serve_credits : (s.serve ch).credits = s.credits := by
  simp only [State.serve]
  split
  · rfl
  · split
    · rfl
    · exact State.discardOrder_credits _ ch

@[simp] theorem State.raiseUnusable_credits (g : Segment) (p : Payload) :
    (s.raiseUnusable ch g p).credits = s.credits := State.credits_of_chan (by simp)

@[simp] theorem State.placePrologue_credits (comp : Composition) (g : Segment) (p : Payload) :
    (s.placePrologue ch comp g p).credits = s.credits := by
  have hmoved : (s.modChan ch (fun c => c.setCursor g.key)).credits = s.credits := s.modChan_credits rfl
  simp only [State.placePrologue, State.handOff]
  (repeat' split) <;> simp [hmoved]

@[simp] theorem State.placeSegment_credits (comp : Composition) (record : Nat) (g : Segment)
    (p : Payload) : (s.placeSegment ch comp record g p).credits = s.credits := by
  have hcounted : (s.modChan ch (fun c => c.modCounts (·.withPayload p))).credits = s.credits :=
    s.modChan_credits rfl
  simp only [State.placeSegment]
  split
  · refine (State.modChan_credits _ (Channel.placeFragment_credit ..)).trans ?_
    simpa using hcounted
  · simpa using hcounted

@[simp] theorem State.judgePriming_credits (completed : Bool) :
    (s.judgePriming ch completed).credits = s.credits := by
  simp only [State.judgePriming]
  split
  · exact s.modChan_credits rfl
  · rfl

@[simp] theorem State.reportComplete_credits : (s.reportComplete ch).credits = s.credits :=
  s.modChan_credits rfl

@[simp] theorem State.afterPlacement_credits (completed readied : Bool) :
    (s.afterPlacement ch completed readied).credits = s.credits := by
  simp only [State.afterPlacement]
  (repeat' split) <;> simp

@[simp] theorem State.unpack_credits (comp : Composition) (record : Nat) (key : KeyChoice)
    (g : Segment) : (s.unpack ch comp record key g).credits = s.credits := by
  have hclosed : (s.modChan ch (fun c => c.closeBefore comp record g)).credits = s.credits :=
    s.modChan_credits (Channel.closeBefore_credit ..)
  simp only [State.unpack]
  (repeat' split) <;> simp [hclosed]

theorem State.finishSegment_credits : s.finishSegment.credits = s.credits := by
  have hfreed : { s with work := none }.credits = s.credits := rfl
  simp only [State.finishSegment]
  (repeat' split) <;> simp [hfreed]

/-! ### Deadlines and edges (files 02, 07, 09) -/

@[simp] theorem State.keepPeriod_credits : (s.keepPeriod ch).credits = s.credits := s.modChan_credits rfl

@[simp] theorem State.pausedDeadline_credits : (s.pausedDeadline ch).credits = s.credits :=
  (State.modChan_credits _ rfl).trans (s.keepPeriod_credits ch)

@[simp] theorem State.heldDeadline_credits : (s.heldDeadline ch).credits = s.credits :=
  (State.countHeld_credits _ ch).trans (s.pausedDeadline_credits ch)

@[simp] theorem State.suspendedDeadline_credits : (s.suspendedDeadline ch).credits = s.credits :=
  (State.modChan_credits _ rfl).trans (s.keepPeriod_credits ch)

@[simp] theorem State.suspend_credits : (s.suspend ch).credits = s.credits := by
  simp only [State.suspend, State.raise_credits, State.putSubs_credits]
  exact (State.modChan_credits _ rfl).trans (s.keepPeriod_credits ch)

@[simp] theorem State.underrun_credits : (s.underrun ch).credits = s.credits := by
  have hstalled : ((s.raise .underrun (some ch) (.underrun (s.chan ch).reportedPosition
      (s.awaited ch))).modChan ch (fun c => { c with stallCount := 1, state := .holding })).credits =
      s.credits := (State.modChan_credits _ rfl).trans (s.raise_credits ..)
  simp only [State.underrun]
  split <;> simp [hstalled]

@[simp] theorem State.holdOn_credits : (s.holdOn ch).credits = s.credits := by
  have hstalled : (s.modChan ch (fun c => { c with stallCount := min 250 (c.stallCount + 1) })).credits =
      s.credits := s.modChan_credits rfl
  simp only [State.holdOn]
  split <;> simp [hstalled]

@[simp] theorem State.raiseDamage_credits (f : Frame) : (s.raiseDamage ch f).credits = s.credits :=
  State.credits_of_chan (by simp)

@[simp] theorem State.closeAtFrame_credits (f : Frame) (lastFrame committed knownEnd : Bool) :
    (s.closeAtFrame ch f lastFrame committed knownEnd).credits = s.credits := by
  simp only [State.closeAtFrame]
  (repeat' split) <;> simp

theorem Channel.showPicture_credit (c : Channel) (f : Frame) : (c.showPicture f).credit = c.credit := by
  unfold Channel.showPicture
  (repeat' split) <;> rfl

theorem Channel.giveSound_credit (c : Channel) (f : Frame) (channels : Nat) (target knownEnd : Bool) :
    (c.giveSound f channels target knownEnd).credit = c.credit := by
  unfold Channel.giveSound
  (repeat' split) <;> rfl

@[simp] theorem State.present_credits (f : Frame) (target committed knownEnd : Bool) :
    (s.present ch f target committed knownEnd).credits = s.credits := by
  simp only [State.present]
  split
  · rfl
  · rw [State.closeAtFrame_credits, State.countPresentation_credits, State.raiseDamage_credits]
    refine (State.modChan_credits _ rfl).trans ((State.putSubs_credits _ _ _).trans ?_)
    exact s.modChan_credits ((Channel.giveSound_credit ..).trans (Channel.showPicture_credit ..))

@[simp] theorem State.presentNext_credits (f : Frame) : (s.presentNext ch f).credits = s.credits :=
  (State.present_credits _ ch f _ _ _).trans (s.modChan_credits rfl)

@[simp] theorem State.endShow_credits : (s.endShow ch).credits = s.credits := by
  simp only [State.endShow, State.raise_credits, State.putSubs_credits]
  exact s.modChan_credits rfl

@[simp] theorem State.playingDeadline_credits (presented : Bool) :
    (s.playingDeadline ch presented).credits = s.credits := by
  have hpaused : (s.modChan ch (fun c => { c with state := .paused })).credits = s.credits :=
    s.modChan_credits rfl
  simp only [State.playingDeadline]
  (repeat' split) <;> simp [hpaused]

@[simp] theorem State.holdingDeadline_credits : (s.holdingDeadline ch).credits = s.credits := by
  have hplays : (s.modChan ch (fun c => { c with stallCount := 0, state := .playing })).credits =
      s.credits := s.modChan_credits rfl
  simp only [State.holdingDeadline]
  (repeat' split) <;> simp [hplays]

theorem State.deadlineEdge_credits : (s.deadlineEdge ch).credits = s.credits := by
  have hfreed : (s.freePresenting ch).credits = s.credits := s.modChan_credits rfl
  have hdeadline : (s.deadline ch).credits = s.credits := by
    simp only [State.deadline]
    split <;> simp [hfreed]
  exact (State.modChan_credits _ rfl).trans hdeadline

theorem State.reachDeadline_credits : (s.reachDeadline ch).credits = s.credits := by
  unfold State.reachDeadline
  split
  · rfl
  · exact s.deadlineEdge_credits ch
  · exact (State.deadlineEdge_credits _ ch).trans (s.modChan_credits rfl)

theorem State.sampleEdge_credits : (s.sampleEdge ch).credits = s.credits := by
  simp only [State.sampleEdge]
  split
  · exact s.modChan_credits rfl
  · exact s.deadlineEdge_credits ch
  · split
    · exact s.deadlineEdge_credits ch
    · exact s.modChan_credits rfl

/-! ### STOP and JUMP (R129, R134 to R138) -/

theorem State.stop_credits : (s.stop ch).credits = s.credits := by
  simp only [State.stop, State.raise_credits, State.putSubs_credits]
  refine (State.modChan_credits _ rfl).trans ?_
  simp only [State.sendReturn_credits, State.raiseEpoch_credits]
  exact State.foldl_field (·.credits) _ (fun _ _ => by simp) _ s

@[simp] theorem State.discardFetching_credits : (s.discardFetching ch).credits = s.credits :=
  State.foldl_field (·.credits) _ (fun _ _ => by simp) _ s

@[simp] theorem State.jumpReleases_credits (n : Nat) : (s.jumpReleases ch n).credits = s.credits := by
  simp only [State.jumpReleases, State.uncharge]
  (repeat' split) <;> simp

@[simp] theorem State.closeLeft_credits (n : Nat) : (s.closeLeft ch n).credits = s.credits := by
  unfold State.closeLeft
  (repeat' split) <;> simp

@[simp] theorem State.jumpFlush_credits (n : Nat) : (s.jumpFlush ch n).credits = s.credits :=
  (State.raiseEpoch_credits _ ch).trans (s.modChan_credits rfl)

@[simp] theorem State.jumpWithin_credits (r : AdmissionRecord) (reel n : Nat) :
    (s.jumpWithin ch r reel n).credits = s.credits := by simp [State.jumpWithin]

end

section
variable {s t : State} {ch : ChannelId}

theorem State.jumpAway_credits {comp : Composition} {item slot reel n : Nat}
    (h : s.jumpAway ch comp item slot reel n = .ok t) : t.credits = s.credits := by
  simp only [State.jumpAway] at h
  split at h
  · cases h
  · cases h
    simp

theorem State.jump_credits {comp : Composition} {slot item reel : Nat}
    (h : s.jump ch comp slot item reel = .ok t) : t.credits = s.credits := by
  have haway (n : Nat) (hn : (s.jumpAway ch comp item slot reel n).map
      (fun st => st.modChan ch (fun k => k.jumped item reel n)) = .ok t) : t.credits = s.credits := by
    cases hj : s.jumpAway ch comp item slot reel n with
    | error st => simp [hj, Except.map] at hn
    | ok u =>
      simp only [hj, Except.map, Except.ok.injEq] at hn
      exact hn ▸ (u.modChan_credits rfl).trans (State.jumpAway_credits hj)
  simp only [State.jump] at h
  split at h
  · split at h
    · cases h
      exact (State.modChan_credits _ rfl).trans (s.jumpWithin_credits ch _ reel _)
    · exact haway _ h
  · exact haway _ h

/-- An operation beside the other channel keeps the law when it keeps it on its own channel. -/
theorem CreditLaw.of_beside (hs : CreditLaw s) (h : t.beside ch = s.beside ch)
    (hch : (t.chan ch).creditLaw) : CreditLaw t := by
  have hother : (t.chan ch.other).creditLaw := State.chan_other_of_beside h ▸ hs.credit_eq ch.other
  cases ch
  · exact ⟨hch, hother⟩
  · exact ⟨hother, hch⟩

/-- CUE restarts its channel's credit, whatever it was (R46). -/
theorem State.cue_creditLaw (hs : CreditLaw s) (comp : Composition) (item slot reel : Nat)
    (licence : Option Nat) : CreditLaw (s.cue ch comp item slot reel licence) := by
  have hrestarted : CreditLaw ((s.modChan ch (fun c => c.fullFlush)).restartIngest ch) := by
    refine hs.of_beside (ch := ch) ?_ (State.restartIngest_credit _ ch)
    simp
  have hadmitted := hrestarted.of_credits (State.admitAndFetch_credits _ ch comp item slot reel licence)
  exact hadmitted.of_credits (State.modChan_credits _ rfl)

end

/-! ### Steps -/

/-- Of the requests only CUE changes the credit of a channel. -/
theorem perform_creditLaw (r : Request) {s : State} (hs : CreditLaw s) : CreditLaw (perform r s).1 := by
  have hset {ch : ChannelId} {f : Channel → Channel} (h : (f (s.chan ch)).credit = (s.chan ch).credit) :
      CreditLaw (s.modChan ch f) := hs.of_credits (s.modChan_credits h)
  cases r with
  | identify | status | softReset | clearResetCause | loadComposition | dropComposition
  | readComposition | loadLicence | revokeLicence | deleteLicence | readLicence | counterOp | setTime
  | adjustTime | readTime | readLog | releaseLog | readNotices | clearNotices | maskNotices =>
    exact hs.of_credits (State.credits_of_chan (perform_chan_of_none s rfl))
  | channelReport n => exact onChannel_induction (P := CreditLaw) hs fun _ _ => hs
  | loadShow n items =>
    obtain h | ⟨ch, -, -, h⟩ := doLoadShow_cases n items s
    · exact hs.of_credits (congrArg State.credits h)
    · exact hs.of_credits ((congrArg State.credits h).trans (State.modChan_credits _ rfl))
  | clearShow n =>
    obtain h | ⟨ch, -, h⟩ := doClearShow_cases n s
    · exact hs.of_credits (congrArg State.credits h)
    · exact hs.of_credits ((congrArg State.credits h).trans (State.modChan_credits _ rfl))
  | setRoute n lanes =>
    unfold perform doSetRoute
    dsimp only
    split
    · exact hs
    · refine onChannel_induction (P := CreditLaw) hs fun ch _ => ?_
      split
      · exact hs
      · exact hset rfl
  | configureChannel =>
    refine onChannel_induction (P := CreditLaw) hs fun ch _ => ?_
    iterate 2 (split; · exact hs)
    exact hset rfl
  | setTracks | setStyle | setSubtitleOffset =>
    refine onChannel_induction (P := CreditLaw) hs fun ch _ => ?_
    split
    · exact hs
    · exact hset rfl
  | start | acknowledgeSuspension =>
    refine onChannel_induction (P := CreditLaw) hs fun ch _ => ?_
    split
    · exact hset rfl
    · exact hs
  | pause =>
    refine onChannel_induction (P := CreditLaw) hs fun ch _ => ?_
    split
    iterate 2 · exact hset rfl
    · exact hs
  | resume =>
    refine onChannel_induction (P := CreditLaw) hs fun ch _ => ?_
    dsimp only
    split
    · split <;> exact hset rfl
    · iterate 2 (split; · exact hs)
      exact hset rfl
    · exact hs
  | stop n =>
    refine onChannel_induction (P := CreditLaw) hs fun ch _ => ?_
    split
    · exact hs.of_credits (s.stop_credits ch)
    · exact hs
  | cue n item reel =>
    refine onChannel_induction (P := CreditLaw) hs fun ch _ => ?_
    dsimp only
    split
    iterate 2
      · iterate 2 (split; · exact hs)
        exact State.cue_creditLaw hs _ _ _ _ _
    · exact hs
  | jump n item reel =>
    refine onChannel_induction (P := CreditLaw) hs fun ch _ => ?_
    dsimp only
    iterate 5 (split; · exact hs)
    exact hs.of_credits (State.jump_credits ‹_›)

theorem creditLaw_stageInvariant : StageInvariant CreditLaw where
  of_stage hs h := hs.of_credits (State.credits_of_stage h)
  of_reset {s} h := by
    have hreset : s.credits = State.reset.credits := State.credits_of_stage h
    exact creditLaw_iff.mpr hreset
  perform r _ hs := perform_creditLaw r hs
  arrive ch g s hs := hs.of_credits (s.arrive_credits ch g)
  serve ch s hs := hs.of_credits (s.serve_credits ch)
  finishSegment {s} hs := hs.of_credits s.finishSegment_credits
  reachDeadline ch s hs := hs.of_credits (s.reachDeadline_credits ch)
  sampleEdge ch s hs := hs.of_credits (s.sampleEdge_credits ch)

/-- Settles O53: every operation keeps granted-unused credit plus held blocks, but for CUE and the resets, which
set it to the allotment. -/
theorem creditLawIsKept : Obligations.CreditLawIsKept := fun _ _ hs h =>
  creditLaw_stageInvariant.step hs h

end Sys2Proof.Machine

/-! ## What the ports send (R49, R162, R179, R184, R199) -/

namespace Sys2Proof.Machine

section
variable {s : State}

/-- The end of a BUSY reply or FRAME-FAULT report (R184). -/
theorem State.messageSent_of_report {m : LinkMessage} {rest : List LinkMessage}
    (h : s.link.outgoing = m :: rest) (hm : m.isReply = false) :
    s.messageSent = { s with link := { s.link with outgoing := rest, sent := some m.bytes } } := by
  rw [← State.popOutgoing_of_cons h]
  simp [State.messageSent, CommandLink.sending, h, hm]

/-- The return path takes its oldest message (R49). -/
theorem State.sendNextReturn_of_cons {m : ReturnMessage} {rest : List ReturnMessage}
    (h : s.returns = m :: rest) :
    s.sendNextReturn = { s with returns := rest, returnOut := some m.bytes } := by
  simp only [State.sendNextReturn, h]

/-- The subtitle port finishes its oldest event (R162). -/
theorem State.portSent_of_cons {e : PortEvent} {rest : List PortEvent} (h : s.subtitlePort = e :: rest) :
    s.portSent = { s with subtitlePort := rest } := by
  simp only [State.portSent, h, List.drop_succ_cons, List.drop_zero]

theorem exec_outgoingMessageSent (hp : s.powered = true) :
    exec .outgoingMessageSent s = .next s.messageSent := by
  simp only [exec, execOutgoingMessageSent, whenPowered, hp, if_true]

theorem exec_returnMessageSend (hp : s.powered = true) :
    exec .returnMessageSend s = .next s.sendNextReturn := by
  simp only [exec, execReturnMessageSend, whenPowered, hp, if_true]

theorem exec_subtitlePortSend (hp : s.powered = true) :
    exec .subtitlePortSend s = .next s.portSent := by
  simp only [exec, execSubtitlePortSend, whenPowered, hp, if_true]

end

/-- Settles O15: each port's row takes the front of its list, whose bytes are those of its message. -/
theorem portsSendTheOldestFirst : Obligations.PortsSendTheOldestFirst := by
  intro s hp
  refine ⟨fun m rest hout hm => ⟨_, rfl, ?_⟩, fun m rest hret => ⟨_, rfl, ?_⟩, fun e rest hport => ?_⟩
  · rw [exec_outgoingMessageSent hp, State.messageSent_of_report hout hm]
    rfl
  · rw [exec_returnMessageSend hp, State.sendNextReturn_of_cons hret]
    cases m <;> rfl
  · rw [exec_subtitlePortSend hp, State.portSent_of_cons hport]

end Sys2Proof.Machine

/-! ## SEGMENT_TAKE (R44, R52 to R54, R56, R58) -/

namespace Sys2Proof.Machine

section
variable {s : State} {ch : ChannelId}

/-- With no eligible channel the unpacker chooses none (R54). -/
theorem State.chosen_of_none (ha : s.eligible .a = false) (hb : s.eligible .b = false) :
    s.chosen = none := by simp [State.chosen, ha, hb]

/-- The unpacker chooses an eligible channel of smaller lead, and at equal leads the one not last served
(R54). -/
theorem State.chosen_eq (h : s.eligible ch = true)
    (hother : s.eligible ch.other = true →
      s.lead ch < s.lead ch.other ∨ s.lead ch = s.lead ch.other ∧ s.lastServed ≠ ch) :
    s.chosen = some ch := by
  have hlast (hne : s.lastServed ≠ ch) : s.lastServed.other = ch := by
    cases ch <;> cases hs : s.lastServed <;> simp_all [ChannelId.other]
  unfold State.chosen
  cases ho : s.eligible ch.other with
  | false => cases ch <;> simp_all [ChannelId.other]
  | true =>
    obtain hlt | ⟨heq, hne⟩ := hother ho
    · cases ch <;> simp_all [ChannelId.other, Nat.not_lt_of_lt]
    · have hlast := hlast hne
      cases ch <;> simp_all [ChannelId.other]

/-- The free unpacker serves the channel it chooses (R52). -/
theorem State.takeSegment_of_chosen (hw : s.work = none) (h : s.chosen = some ch) :
    s.takeSegment = s.serve ch := by simp only [State.takeSegment, hw, h]

/-- A head segment that passes the order check becomes the segment in work (R58). -/
theorem State.serve_of_passes {g : Segment} {rest : List Segment} (hq : (s.chan ch).queue = g :: rest)
    (h : s.orderPasses ch g = true) :
    s.serve ch = { s with lastServed := ch, work := some { channel := ch, key := s.chooseKey ch g } } := by
  simp only [State.serve, hq, h, if_true]

/-- A discarded head segment returns its blocks and adds to ORDER (R44, R56). -/
theorem State.discardOrder_of_cons {g : Segment} {rest : List Segment}
    (hq : (s.chan ch).queue = g :: rest) :
    s.discardOrder ch = State.setChan { s with returns := addCredit ch g.blocks s.returns } ch
      { s.chan ch with
        queue := rest, granted := (s.chan ch).granted + g.blocks
        assembly := { (s.chan ch).assembly with counts := { (s.chan ch).assembly.counts with
          order := bump16 (s.chan ch).assembly.counts.order 1 } } } := by
  have hq' : ((s.modChan ch (fun c =>
      c.modCounts (fun k => { k with order := bump16 k.order 1 }))).chan ch).queue = g :: rest := by
    rw [State.chan_modChan_same]
    exact hq
  unfold State.discardOrder State.finishHead
  rw [hq']
  cases ch <;> rfl

/-- A head segment that fails the order check is discarded at once (R56). -/
theorem State.serve_of_fails {g : Segment} {rest : List Segment} (hq : (s.chan ch).queue = g :: rest)
    (h : s.orderPasses ch g = false) : s.serve ch = { s with lastServed := ch }.discardOrder ch := by
  simp only [State.serve, hq, h, Bool.false_eq_true, if_false]

theorem exec_segmentTake (hp : s.powered = true) : exec .segmentTake s = .next s.takeSegment := by
  simp only [exec, execSegmentTake, whenPowered, hp, if_true]

end

/-- Settles O54: `State.chosen_eq` says which channel is served, the two lemmas on `State.serve` what becomes of
its head segment. -/
theorem theUnpackerServesTheSmallerLead : Obligations.TheUnpackerServesTheSmallerLead := by
  intro s hp hw
  rw [exec_segmentTake hp]
  refine ⟨fun ha hb => ?_, fun ch g rest h hq hother => ?_⟩
  · simp only [State.takeSegment, hw, State.chosen_of_none ha hb]
  · rw [State.takeSegment_of_chosen hw (State.chosen_eq h hother)]
    refine ⟨fun hpass => by rw [State.serve_of_passes hq hpass], fun hfail => ?_⟩
    have hq' : (State.chan { s with lastServed := ch } ch).queue = g :: rest := by
      cases ch <;> exact hq
    rw [State.serve_of_fails hq hfail, State.discardOrder_of_cons hq']
    cases ch <;> rfl

end Sys2Proof.Machine

/-! ## The forward path (R36, R38 to R42, R198)

The bytes of a header or payload but the last one are held; the last one has them judged. -/

namespace Sys2Proof.Machine

section
variable {s : State}

/-- Bytes before the last byte of a header are held (R38). -/
theorem State.takePathBytes_header {bytes : List Byte} (hrx : s.path.rx = .header)
    (hlen : (s.path.held ++ bytes).length < 32) :
    s.takePathBytes bytes = { s with path := { rx := .header, held := s.path.held ++ bytes } } := by
  induction bytes generalizing s with
  | nil => simp [State.takePathBytes, ← hrx]
  | cons b rest ih =>
    have hstep : s.takePathByte b = s.setPath { rx := .header, held := s.path.held ++ [b] } := by
      have hshort : (s.path.held ++ [b]).length < 32 := by
        simp only [List.length_append, List.length_cons, List.length_nil] at hlen ⊢
        omega
      simp only [State.takePathByte, hrx, if_pos hshort]
    have hrest := ih (s := s.takePathByte b) (by rw [hstep]; rfl)
      (by rw [hstep]; simpa [State.setPath] using hlen)
    simpa [State.takePathBytes, hstep, State.setPath] using hrest

/-- A field that stands in a front is read from it. -/
theorem fieldAt_append_left {front rest : List Byte} {offset width : Nat}
    (h : offset + width ≤ front.length) : fieldAt (front ++ rest) offset width = fieldAt front offset width := by
  have hdrop : (front ++ rest).drop offset = front.drop offset ++ rest :=
    List.drop_append_of_le_length (by omega)
  have htake : (front.drop offset ++ rest).take width = (front.drop offset).take width :=
    List.take_append_of_le_length (by simp only [List.length_drop]; omega)
  simp only [fieldAt, hdrop, htake]

/-- Bytes before the last byte of a payload are held (R38). -/
theorem State.takePathBytes_payload {bytes : List Byte} (hrx : s.path.rx = .payload)
    (hheld : 32 ≤ s.path.held.length)
    (hlen : (s.path.held ++ bytes).length < 32 + headerPayloadLength (s.path.held ++ bytes)) :
    s.takePathBytes bytes = { s with path := { rx := .payload, held := s.path.held ++ bytes } } := by
  induction bytes generalizing s with
  | nil => simp [State.takePathBytes, ← hrx]
  | cons b rest ih =>
    have hheader (more : List Byte) :
        headerPayloadLength (s.path.held ++ more) = headerPayloadLength s.path.held :=
      fieldAt_append_left (by omega)
    rw [hheader] at hlen
    have hstep : s.takePathByte b = s.setPath { rx := .payload, held := s.path.held ++ [b] } := by
      have hshort : (s.path.held ++ [b]).length < 32 + headerPayloadLength (s.path.held ++ [b]) := by
        rw [hheader]
        simp only [List.length_append, List.length_cons, List.length_nil] at hlen ⊢
        omega
      simp only [State.takePathByte, hrx, if_pos hshort]
    have hrest := ih (s := s.takePathByte b) (by rw [hstep]; rfl)
      (by rw [hstep]; simp only [State.setPath, List.length_append]; omega)
      (by rw [hstep]; simpa [State.setPath, hheader] using hlen)
    simpa [State.takePathBytes, hstep, State.setPath] using hrest

/-- The last of some bytes is taken after the others. -/
theorem State.takePathBytes_concat (bytes : List Byte) (b : Byte) :
    s.takePathBytes (bytes ++ [b]) = (s.takePathBytes bytes).takePathByte b := by
  simp [State.takePathBytes]

/-- The last byte of a header has it judged (R38). -/
theorem State.takePathBytes_judged {bytes : List Byte} (hrx : s.path.rx = .header) (hne : bytes ≠ [])
    (hlen : (s.path.held ++ bytes).length = 32) :
    s.takePathBytes bytes = match judgeHeader (s.path.held ++ bytes) with
      | some reason => (s.setPath (huntScan ((s.path.held ++ bytes).drop 1))).raise .ingestFault none
          (.ingestFault reason)
      | none =>
        if headerPayloadLength (s.path.held ++ bytes) = 0 then s.arriveHeld (s.path.held ++ bytes)
        else s.setPath { rx := .payload, held := s.path.held ++ bytes } := by
  obtain ⟨front, b, rfl⟩ := (List.eq_nil_or_concat bytes).resolve_left hne
  have hshort : (s.path.held ++ front).length < 32 := by
    simp only [List.concat_eq_append, List.length_append, List.length_singleton] at hlen ⊢
    omega
  have hlen' : ¬(s.path.held ++ front ++ [b]).length < 32 := by
    simp only [List.concat_eq_append, ← List.append_assoc] at hlen
    omega
  simp only [List.concat_eq_append, State.takePathBytes_concat, State.takePathBytes_header hrx hshort,
    ← List.append_assoc]
  simp only [State.takePathByte, if_neg hlen']
  rfl

/-- The last byte of a payload makes its segment arrive (R38, R39). -/
theorem State.takePathBytes_arrives {bytes : List Byte} (hrx : s.path.rx = .payload) (hne : bytes ≠ [])
    (hheld : 32 ≤ s.path.held.length)
    (hlen : (s.path.held ++ bytes).length = 32 + headerPayloadLength (s.path.held ++ bytes)) :
    s.takePathBytes bytes = s.arriveHeld (s.path.held ++ bytes) := by
  obtain ⟨front, b, rfl⟩ := (List.eq_nil_or_concat bytes).resolve_left hne
  have hheader (more : List Byte) :
      headerPayloadLength (s.path.held ++ more) = headerPayloadLength s.path.held :=
    fieldAt_append_left (by omega)
  have hshort : (s.path.held ++ front).length < 32 + headerPayloadLength (s.path.held ++ front) := by
    rw [hheader] at hlen ⊢
    simp only [List.concat_eq_append, List.length_append, List.length_singleton] at hlen ⊢
    omega
  simp only [List.concat_eq_append, ← List.append_assoc] at hlen ⊢
  simp only [State.takePathBytes_concat, State.takePathBytes_payload hrx hheld hshort,
    State.takePathByte, hlen, Nat.lt_irrefl, if_false]
  rfl

theorem exec_markerFound (hp : s.powered = true) (bytes : List Byte) :
    exec (.markerFound bytes) s = .next (s.takePathBytes bytes) := by
  simp only [exec, execMarkerFound, whenPowered, hp, if_true]

theorem exec_segmentHeader (hp : s.powered = true) (bytes : List Byte) :
    exec (.segmentHeader bytes) s = .next (s.takePathBytes bytes) := by
  simp only [exec, execSegmentHeader, whenPowered, hp, if_true]

theorem exec_segmentArrival (hp : s.powered = true) (bytes : List Byte) :
    exec (.segmentArrival bytes) s = .next (s.takePathBytes bytes) := by
  simp only [exec, execSegmentArrival, whenPowered, hp, if_true]

end

/-- The marker's own bytes, from an empty HUNT, open a header (R38). -/
theorem State.takePathBytes_marker {s : State} (h : s.path = { rx := .hunt, held := [] }) :
    s.takePathBytes segmentMarker = { s with path := { rx := .header, held := segmentMarker } } := by
  have hs : s = s.setPath { rx := .hunt, held := [] } := by rw [← h]; rfl
  rw [hs]
  rfl

/-! ### The checks of a header (R38) -/

theorem channelOf_isSome {n : Byte} (h : n.toNat ≤ 1) : (channelOf n).isSome = true := by
  obtain rfl | rfl : n = 0 ∨ n = 1 := by bv_omega
  · rfl
  · rfl

theorem segmentKindOf_isSome {n : Byte} (h1 : 1 ≤ n.toNat) (h4 : n.toNat ≤ 4) :
    (segmentKindOf n).isSome = true := by
  obtain rfl | rfl | rfl | rfl : n = 1 ∨ n = 2 ∨ n = 3 ∨ n = 4 := by bv_omega
  all_goals rfl

/-- A header that passes every check (R38). -/
theorem judgeHeader_eq_none {h : List Byte} (hmarker : h.take 4 = segmentMarker)
    (hcheck : fieldAt h 30 2 = (crc16 (h.take 30)).toNat) (hchannel : (byteAt h 4).toNat ≤ 1)
    (hkind : 1 ≤ (byteAt h 6).toNat ∧ (byteAt h 6).toNat ≤ 4) (hlen : headerPayloadLength h ≤ 65536) :
    judgeHeader h = none := by
  have hprefix : segmentMarker.isPrefixOf h = true := by
    rw [List.isPrefixOf_iff_prefix, ← hmarker]
    exact List.take_prefix 4 h
  have hc := channelOf_isSome hchannel
  have hk := segmentKindOf_isSome hkind.1 hkind.2
  simp [judgeHeader, hprefix, hcheck, Option.isSome_iff_ne_none.mp hc, Option.isSome_iff_ne_none.mp hk,
    Nat.not_lt.mpr hlen]

/-! ### The judgment of an arrival (R39, R41, R42) -/

section
variable {s : State} {ch : ChannelId} {g : Segment}

theorem State.arrive_within (he : g.epoch = (s.chan ch).epoch) (hb : g.blocks ≤ (s.chan ch).granted) :
    s.arrive ch g = s.setChan ch { s.chan ch with
      queue := (s.chan ch).queue ++ [g], granted := (s.chan ch).granted - g.blocks } := by
  simp only [State.arrive, he, ne_eq, not_true_eq_false, if_false, Nat.not_lt.mpr hb]
  rfl

theorem State.arrive_beyond (he : g.epoch = (s.chan ch).epoch) (hb : (s.chan ch).granted < g.blocks) :
    s.arrive ch g = s.raise .ingestOverrun (some ch) (.ingestOverrun g.blocks (s.chan ch).granted) := by
  simp only [State.arrive, he, ne_eq, not_true_eq_false, if_false, hb, if_true]

theorem State.arrive_stale (he : g.epoch ≠ (s.chan ch).epoch) :
    s.arrive ch g = State.setChan { s with
      returns :=
        if (g.epoch - (s.chan ch).restartEpoch).toNat <
            ((s.chan ch).epoch - (s.chan ch).restartEpoch).toNat then addCredit ch g.blocks s.returns
        else s.returns } ch { s.chan ch with stale := min 65535 ((s.chan ch).stale + 1) } := by
  simp only [State.arrive, he, ne_eq, not_false_eq_true, if_true, State.arriveStale, epochMet,
    decide_eq_true_eq]
  split <;> cases ch <;> rfl

end

/-- Settles O52: the bytes of a row but the last are held, and the last one has header or segment judged. -/
theorem forwardPathBytesMakeSegments : Obligations.ForwardPathBytesMakeSegments := by
  intro s hp
  refine ⟨fun hpath => ?_, fun bytes h hrx hne hh hlen => ?_,
    fun bytes whole ch g hrx hne hheld hwhole hlen hch hg => ?_⟩
  · rw [exec_markerFound hp]
    exact congrArg _ (State.takePathBytes_marker hpath)
  · subst hh
    rw [exec_segmentHeader hp, State.takePathBytes_judged hrx hne hlen]
    refine ⟨fun hmarker hcheck hchannel hk1 hk4 hpos hmax => ?_, fun reason hreason => ?_⟩
    · have hsome : headerPayloadLength (s.path.held ++ bytes) ≠ 0 := Nat.pos_iff_ne_zero.mp hpos
      rw [judgeHeader_eq_none hmarker hcheck hchannel ⟨hk1, hk4⟩ hmax]
      simp only [if_neg hsome]
      rfl
    · rw [hreason]
      rfl
  · subst hwhole hg
    have hchannel : headerChannel (s.path.held ++ bytes) = ch := by
      simp [headerChannel, hch]
    have hblocks : (segmentOf (s.path.held ++ bytes)).blocks =
        (32 + fieldAt (s.path.held ++ bytes) 20 4 + 4095) / 4096 := by
      simp only [Segment.blocks, blocksOf, segmentOf, List.length_drop, hlen]
      omega
    rw [exec_segmentArrival hp, State.takePathBytes_arrives hrx hne hheld hlen]
    simp only [State.arriveHeld, hchannel, ← hblocks]
    have hchan := s.setPath_chan { rx := .header, held := [] } ch
    refine ⟨fun he hb => ?_, fun he hb => ?_, fun he => ?_⟩
    · rw [State.arrive_within (hchan ▸ he) (hchan ▸ hb), hchan]
      rfl
    · rw [State.arrive_beyond (hchan ▸ he) (hchan ▸ hb), hchan]
      rfl
    · rw [State.arrive_stale (hchan ▸ he), hchan]
      rfl

end Sys2Proof.Machine

/-! ## Parts and fragments (R61, R62, R64) -/

namespace Sys2Proof.Machine

section
variable {p : Part} {index count limit : Nat} {exact : Option Nat} {cause : DamageCause}

theorem Part.hurt_of_some (h : p.damage = some cause) (c : DamageCause) : p.hurt c = p := by
  simp only [Part.hurt, h]

theorem Part.hurt_of_none (h : p.damage = none) (c : DamageCause) :
    p.hurt c = { p with damage := some c, bytes := [] } := by
  simp only [Part.hurt, h]

/-- The close of a damaged part keeps its cause and its bytes (R61). -/
theorem Part.closeAt_of_some (h : p.damage = some cause) (index : Nat) (exact : Option Nat) :
    (p.closeAt index exact).damage = some cause ∧ (p.closeAt index exact).bytes = p.bytes := by
  simp only [Part.closeAt, Part.hurt_of_some h]
  (repeat' split) <;> exact ⟨h, rfl⟩

/-- A damaged part takes no bytes: only its fragment count may become fixed (R61). -/
theorem Part.takeFragment_of_some (h : p.damage = some cause) (index count limit : Nat)
    (payload : Payload) : p.takeFragment index count limit payload =
      { p with fixedCount := some (p.fixedCount.getD count) } := by
  simp only [Part.takeFragment, h]

/-- An undamaged part that meets a fault of payload or fragment keeps that cause and loses its bytes (R61). -/
theorem Part.takeFragment_of_fault (h : p.damage = none) {payload : Payload}
    (hfault : payload = .bad cause ∨ ∃ plain, payload = .good plain ∧
      fragmentFault p index count limit plain.length = some cause) :
    p.takeFragment index count limit payload =
      { p with fixedCount := some (p.fixedCount.getD count), damage := some cause, bytes := [] } := by
  obtain rfl | ⟨plain, rfl, hf⟩ := hfault
  · simp only [Part.takeFragment, h]
    exact Part.hurt_of_none rfl cause
  · simp only [Part.takeFragment, h, hf]
    exact Part.hurt_of_none rfl cause

/-- A fragment without fault is appended (R61). -/
theorem Part.takeFragment_of_good (h : p.damage = none) {plain : List Byte}
    (hfault : fragmentFault p index count limit plain.length = none) :
    p.takeFragment index count limit (.good plain) =
      { p with
        fixedCount := some (p.fixedCount.getD count), lastIndex := index, bytes := p.bytes ++ plain } := by
  simp only [Part.takeFragment, h, hfault]

/-- The first cause of a part stays (R61). -/
theorem Part.take_of_damaged (h : p.damage = some cause) (payload : Payload) :
    (p.take index count limit exact payload).damage = some cause := by
  rw [Part.take, Part.takeFragment_of_some h]
  obtain ⟨hdamage, -⟩ := Part.closeAt_of_some
    (p := { p with fixedCount := some (p.fixedCount.getD count) }) h index exact
  exact hdamage

/-- A fault gives an undamaged part its cause, and the part is not presented (R61, R64). -/
theorem Part.take_of_fault (h : p.damage = none) {payload : Payload}
    (hfault : payload = .bad cause ∨ ∃ plain, payload = .good plain ∧
      fragmentFault p index count limit plain.length = some cause) :
    (p.take index count limit exact payload).damage = some cause ∧
      (p.take index count limit exact payload).bytes = [] := by
  rw [Part.take, Part.takeFragment_of_fault h hfault]
  exact Part.closeAt_of_some rfl index exact

/-- Indices and counts that do not follow damage the part with cause FRAGMENT (R61). -/
theorem fragmentFault_eq_fragment {length : Nat}
    (h : index < 1 ∨ 32 < index ∨ count < 1 ∨ 32 < count ∨ count < index ∨
      p.fixedCount.any (fun n => n ≠ count) = true ∨ index ≠ p.lastIndex + 1) :
    fragmentFault p index count limit length = some .fragment := by
  unfold fragmentFault
  split
  · rfl
  · split
    · rfl
    · have hnext : index ≠ p.lastIndex + 1 := by tauto
      rw [if_pos hnext]

/-- A fragment that follows is judged by its length alone (R61). -/
theorem fragmentFault_of_next {length : Nat} (hi : 1 ≤ index) (hic : index ≤ count) (hc : count ≤ 32)
    (hfixed : p.fixedCount.getD count = count) (hnext : index = p.lastIndex + 1) :
    fragmentFault p index count limit length =
      if limit < p.bytes.length + length then some .length else none := by
  have hrange : ¬(index < 1 ∨ 32 < index ∨ count < 1 ∨ 32 < count ∨ count < index) := by omega
  have hsame : ¬p.fixedCount.any (fun n => n ≠ count) = true := by
    cases hf : p.fixedCount with
    | none => simp
    | some n => simpa [hf] using hfixed
  rw [fragmentFault, if_neg hrange, if_neg hsame, if_neg (not_not.mpr hnext)]

/-- A fragment before the last is appended and leaves the part open (R61). -/
theorem Part.take_of_inner (h : p.damage = none) {plain : List Byte}
    (hfault : fragmentFault p index count limit plain.length = none)
    (hfixed : p.fixedCount.getD count = count) (hlt : index < count) :
    p.take index count limit exact (.good plain) =
      { p with fixedCount := some count, lastIndex := index, bytes := p.bytes ++ plain } := by
  have hopen : some count ≠ some index := by simpa using hlt.ne'
  rw [Part.take, Part.takeFragment_of_good h hfault, hfixed]
  simp only [Part.closeAt, if_neg hopen]

/-- The last fragment closes its part, whose bytes must then be of the length asked for (R61, R62). -/
theorem Part.take_of_last (h : p.damage = none) {plain : List Byte}
    (hfault : fragmentFault p index count limit plain.length = none)
    (hfixed : p.fixedCount.getD count = count) (hlast : index = count) :
    p.take index count limit exact (.good plain) =
      if exact = none ∨ exact = some (p.bytes.length + plain.length) then
        { p with
          fixedCount := some count, lastIndex := index, bytes := p.bytes ++ plain, closed := true }
      else
        { p with
          fixedCount := some count, lastIndex := index, bytes := [], damage := some .length
          closed := true } := by
  subst hlast
  rw [Part.take, Part.takeFragment_of_good h hfault, hfixed]
  simp only [Part.closeAt, if_true, List.length_append]
  cases exact with
  | none => simp
  | some b =>
    by_cases hb : p.bytes.length + plain.length = b
    · simp [hb]
    · have hb' : ¬b = p.bytes.length + plain.length := Ne.symm hb
      simp [hb, hb', Part.hurt, h]

end

end Sys2Proof.Machine

/-! ## The closure of what a segment skips (R57) -/

namespace Sys2Proof.Machine

/-- What R57 does to a channel: slots, take pointer, cursor and the MISSING count change. -/
def Channel.Closes (c d : Channel) : Prop :=
  d = { c with
    slots := d.slots, take := d.take
    assembly := { c.assembly with
      cursor := d.assembly.cursor
      counts := { c.assembly.counts with missing := d.assembly.counts.missing } } }

theorem Channel.Closes.refl (c : Channel) : c.Closes c := rfl

theorem Channel.Closes.trans {c d e : Channel} (h : c.Closes d) (h' : d.Closes e) : c.Closes e := by
  unfold Channel.Closes at *
  rw [h', h]

/-! ### Step 1: the FILLING frame -/

/-- Slots none of which would settle any more (R63). -/
def Channel.settled (c : Channel) : Prop := c.slots.map Slot.settle = c.slots

theorem Slot.settle_settle (x : Slot) : x.settle.settle = x.settle := by
  cases x with
  | filling f => by_cases hf : f.complete = true <;> simp [Slot.settle, hf]
  | free | ready | presenting => rfl

theorem Channel.modFilling_settled (c : Channel) (f : Frame → Frame) : (c.modFilling f).settled := by
  unfold Channel.settled
  simp only [Channel.modFilling, List.map_map]
  refine List.map_congr_left fun x _ => ?_
  cases x with
  | filling y => exact Slot.settle_settle _
  | free | ready | presenting => rfl

/-- Without a FILLING slot there is nothing to change. -/
theorem Channel.modFilling_of_none {c : Channel} (h : c.fillingFrame = none) (f : Frame → Frame) :
    c.modFilling f = c := by
  have hslots : (c.modFilling f).slots = c.slots := by
    refine (List.map_congr_left fun x hx => ?_).trans (List.map_id _)
    cases x with
    | filling y => exact absurd hx (Channel.filling_notMem_of_none h y)
    | free | ready | presenting => rfl
  exact congrArg (fun slots => { c with slots := slots }) hslots

theorem Channel.closeFilling_of_none {c : Channel} (h : c.fillingFrame = none) (comp : Composition)
    (g : Segment) : c.closeFilling comp g = c := by
  simp only [Channel.closeFilling, h]

theorem Channel.closeFilling_of_some {c : Channel} {f : Frame} (h : c.fillingFrame = some f)
    (comp : Composition) (g : Segment) : c.closeFilling comp g = { c with
      slots := (c.modFilling (fun x => x.closeSkipped g)).slots
      assembly := { c.assembly with
        cursor := if (f.closeSkipped g).complete then lastKey comp f.pos.reel f.pos.frame
          else c.assembly.cursor
        counts := { c.assembly.counts with
          missing := bump16 c.assembly.counts.missing (f.skippedGain g) } } } := by
  simp only [Channel.closeFilling, h]
  split <;> rfl

theorem Channel.closeFilling_slots (c : Channel) (comp : Composition) (g : Segment) :
    (c.closeFilling comp g).slots = (c.modFilling (fun x => x.closeSkipped g)).slots := by
  cases h : c.fillingFrame with
  | none => rw [Channel.closeFilling_of_none h, Channel.modFilling_of_none h]
  | some f => rw [Channel.closeFilling_of_some h]

theorem Channel.closeFilling_closes (c : Channel) (comp : Composition) (g : Segment) :
    c.Closes (c.closeFilling comp g) := by
  cases h : c.fillingFrame with
  | none => exact (Channel.closeFilling_of_none h comp g).symm ▸ .refl c
  | some f =>
    rw [Channel.closeFilling_of_some h]
    rfl

theorem Channel.closeFilling_settled (c : Channel) (comp : Composition) (g : Segment) :
    (c.closeFilling comp g).settled := by
  have hslots := c.modFilling_settled (fun x => x.closeSkipped g)
  unfold Channel.settled at hslots ⊢
  rw [Channel.closeFilling_slots, hslots]

/-! ### Step 2: the frames skipped -/

theorem Channel.closeWhole_closes (c : Channel) (comp : Composition) (item record : Nat) (p : Nat × Nat) :
    c.Closes (c.closeWhole comp item record p) := rfl

theorem Channel.closeWhole_slots_of_settled {c : Channel} (h : c.settled) (comp : Composition)
    (item record : Nat) (p : Nat × Nat) : (c.closeWhole comp item record p).slots =
      c.slots.set c.take (.ready (missingFrame comp item record p)) := by
  rw [Channel.closeWhole_slots, h]

theorem Channel.closeWhole_settled {c : Channel} (h : c.settled) (comp : Composition)
    (item record : Nat) (p : Nat × Nat) : (c.closeWhole comp item record p).settled := by
  unfold Channel.settled
  rw [Channel.closeWhole_slots_of_settled h, List.map_set, h]
  rfl

/-- The channels that step 2 of R57 passes through: `run j` is the one after `j` frames closed whole. -/
structure SkipRun (c : Channel) (comp : Composition) (item record : Nat) (key : Cursor) (n : Nat)
    (run : Nat → Channel) : Prop where
  start : run 0 = c
  next : ∀ j < n, ∃ p, nextSkipped comp (run j).assembly.cursor key = some p ∧
    0 < (run j).freeCount ∧ run (j + 1) = (run j).closeWhole comp item record p

theorem SkipRun.nil (c : Channel) (comp : Composition) (item record : Nat) (key : Cursor) :
    SkipRun c comp item record key 0 (fun _ => c) := ⟨rfl, nofun⟩

/-- A run with one more channel before its first. -/
def Channel.before (c : Channel) (run : Nat → Channel) : Nat → Channel
  | 0 => c
  | j + 1 => run j

/-- Step 2 closes frame after frame until none is left to close, no slot is FREE, or its fuel is spent. -/
theorem Channel.closeSkippedFrames_run (c : Channel) (comp : Composition) (item record : Nat)
    (key : Cursor) (fuel : Nat) : ∃ n run, SkipRun c comp item record key n run ∧
      (nextSkipped comp (run n).assembly.cursor key = none ∨ (run n).freeCount = 0 ∨ n = fuel) ∧
      c.closeSkippedFrames comp item record key fuel = run n := by
  induction fuel generalizing c with
  | zero => exact ⟨0, _, .nil c comp item record key, .inr (.inr rfl), rfl⟩
  | succ fuel ih =>
    cases hskip : nextSkipped comp c.assembly.cursor key with
    | none =>
      exact ⟨0, _, .nil c comp item record key, .inl hskip,
        by simp only [Channel.closeSkippedFrames, hskip]⟩
    | some p =>
      by_cases hfree : c.freeCount = 0
      · exact ⟨0, _, .nil c comp item record key, .inr (.inl hfree),
          by simp only [Channel.closeSkippedFrames, hskip, if_pos hfree]⟩
      · obtain ⟨n, run, ⟨hstart, hnext⟩, hend, heq⟩ := ih (c.closeWhole comp item record p)
        refine ⟨n + 1, c.before run, ⟨rfl, fun j hj => ?_⟩, ?_, ?_⟩
        · cases j with
          | zero => exact ⟨p, hskip, Nat.pos_of_ne_zero hfree, hstart⟩
          | succ j => exact hnext j (Nat.lt_of_succ_lt_succ hj)
        · exact hend.imp_right (Or.imp_right (congrArg (· + 1)))
        · simp only [Channel.closeSkippedFrames, hskip, if_neg hfree, heq, Channel.before]

section
variable {c : Channel} {comp : Composition} {item record n : Nat} {key : Cursor} {run : Nat → Channel}

/-- What holds first and is kept by every frame closed holds all along a run. -/
theorem SkipRun.all {P : Nat → Channel → Prop} (h : SkipRun c comp item record key n run) (h0 : P 0 c)
    (hstep : ∀ j d p, P j d → P (j + 1) (d.closeWhole comp item record p)) :
    ∀ j ≤ n, P j (run j) := by
  intro j
  induction j with
  | zero => exact fun _ => h.start ▸ h0
  | succ j ih =>
    intro hj
    obtain ⟨p, -, -, heq⟩ := h.next j hj
    exact heq ▸ hstep j _ p (ih (Nat.le_of_succ_le hj))

theorem SkipRun.closes (h : SkipRun c comp item record key n run) : ∀ j ≤ n, c.Closes (run j) :=
  h.all (P := fun _ d => c.Closes d) (.refl c)
    fun _ d p hd => hd.trans (d.closeWhole_closes comp item record p)

theorem SkipRun.settled (h : SkipRun c comp item record key n run) (hc : c.settled) :
    ∀ j ≤ n, (run j).settled :=
  h.all (P := fun _ d => d.settled) hc fun _ _ p hd => Channel.closeWhole_settled hd comp item record p

/-- The take pointer advances by one slot with each frame (R112). -/
theorem SkipRun.take (h : SkipRun c comp item record key n run) :
    ∀ j ≤ n, (run j).take = if j = 0 then c.take else (c.take + j) % 96 := by
  refine h.all (P := fun j d => d.take = if j = 0 then c.take else (c.take + j) % 96) rfl
    fun j d p hd => ?_
  have hnext : (d.closeWhole comp item record p).take = (d.take + 1) % 96 := rfl
  rw [hnext, hd, if_neg (Nat.succ_ne_zero j)]
  split
  · simp [*]
  · omega

/-- Each frame closed adds 1 to MISSING (R57, R64). -/
theorem SkipRun.missing (h : SkipRun c comp item record key n run) :
    ∀ j ≤ n, (run j).assembly.counts.missing =
      if j = 0 then c.assembly.counts.missing else min 65535 (c.assembly.counts.missing + j) := by
  refine h.all (P := fun j d => d.assembly.counts.missing =
    if j = 0 then c.assembly.counts.missing else min 65535 (c.assembly.counts.missing + j)) rfl
    fun j d p hd => ?_
  have hnext : (d.closeWhole comp item record p).assembly.counts.missing =
      min 65535 (d.assembly.counts.missing + 1) := rfl
  rw [hnext, hd, if_neg (Nat.succ_ne_zero j)]
  split
  · simp [*]
  · omega

end

/-! ### Both steps -/

theorem Channel.closeSkippedFrames_closes (c : Channel) (comp : Composition) (item record : Nat)
    (key : Cursor) (fuel : Nat) : c.Closes (c.closeSkippedFrames comp item record key fuel) := by
  obtain ⟨n, run, hrun, -, heq⟩ := c.closeSkippedFrames_run comp item record key fuel
  exact heq ▸ hrun.closes n le_rfl

theorem Channel.closeBefore_closes (c : Channel) (comp : Composition) (record : Nat) (g : Segment) :
    c.Closes (c.closeBefore comp record g) := by
  unfold Channel.closeBefore
  split
  · exact (c.closeFilling_closes comp g).trans (Channel.closeSkippedFrames_closes ..)
  · exact .refl c

/-- A segment whose key is not above the cursor skips nothing (R57). -/
theorem Channel.closeBefore_of_not_below {c : Channel} {g : Segment}
    (h : c.assembly.cursor.below g.key = false) (comp : Composition) (record : Nat) :
    c.closeBefore comp record g = c := by
  simp only [Channel.closeBefore, h, Bool.false_eq_true, if_false]

theorem Channel.closeBefore_of_below {c : Channel} {g : Segment}
    (h : c.assembly.cursor.below g.key = true) (comp : Composition) (record : Nat) :
    c.closeBefore comp record g =
      (c.closeFilling comp g).closeSkippedFrames comp g.item record g.key 97 := by
  simp only [Channel.closeBefore, h, if_true]
  rfl

end Sys2Proof.Machine

/-! ## The next-item occasion (R94, R98, R99)

`State.bench` is what of ports and unpacker no admission touches; `Channel.stock` what of a channel none does. -/

namespace Sys2Proof.Machine

/-- The forward path, the messages sent last, the segment in work and the subtitle port. -/
def State.bench (s : State) :
    ForwardPath × Option (List Byte) × Option Work × ChannelId × List PortEvent :=
  (s.path, s.returnOut, s.work, s.lastServed, s.subtitlePort)

/-- A channel's queue and credit, its state, its slots, its scheduler and its unpacker counts. -/
def Channel.stock (c : Channel) :
    List Segment × Nat × ChannelState × List Slot × Nat × Subtitles × UnpackCounts :=
  (c.queue, c.granted, c.state, c.slots, c.take, c.subs, c.assembly.counts)

/-- An entry of a kind and channel is pending. -/
def State.pends (s : State) (k : NoticeKind) (c : Option ChannelId) : Prop :=
  s.notices.any (fun n => n.isOf k c) = true

section
variable (s : State) (ch : ChannelId)

@[simp] theorem State.modChan_bench (f : Channel → Channel) : (s.modChan ch f).bench = s.bench := by
  simp [State.bench]

@[simp] theorem State.raise_bench (k : NoticeKind) (c : Option ChannelId) (d : NoticeDetail) :
    (s.raise k c d).bench = s.bench := rfl

/-- An admission touches none of the ports but the return path (R98). -/
theorem State.openAdmission_ports (c : Composition) (item slot reel : Nat) (licence : Option Nat) :
    (s.openAdmission ch c item slot reel licence).bench = s.bench ∧
      (s.openAdmission ch c item slot reel licence).returns = s.returns := by
  simp only [State.openAdmission]
  (repeat' split) <;> simp [State.bench, State.takeLog]

/-! ### Pending notices -/

/-- A raise removes no entry (R190). -/
theorem any_raised_of_any {notices : List Notice} {k : NoticeKind} {c : Option ChannelId}
    (h : notices.any (fun n => n.isOf k c) = true) (k' : NoticeKind) (c' : Option ChannelId)
    (d : NoticeDetail) : (raised notices k' c' d).any (fun n => n.isOf k c) = true := by
  unfold raised
  split
  · rw [List.any_map]
    obtain ⟨n, hn, hof⟩ := List.any_eq_true.mp h
    refine List.any_eq_true.mpr ⟨n, hn, ?_⟩
    simp only [Function.comp]
    split <;> exact hof
  · simp [h]

variable {s}

theorem State.pends_raise (k : NoticeKind) (c : Option ChannelId) (d : NoticeDetail) :
    (s.raise k c d).pends k c := any_raised s.notices k c d

theorem State.pends.raise {k : NoticeKind} {c : Option ChannelId} (h : s.pends k c) (k' : NoticeKind)
    (c' : Option ChannelId) (d : NoticeDetail) : (s.raise k' c' d).pends k c :=
  any_raised_of_any h k' c' d

theorem State.pends.of_notices {t : State} {k : NoticeKind} {c : Option ChannelId} (h : s.pends k c)
    (ht : t.notices = s.notices) : t.pends k c := by
  unfold State.pends
  rwa [ht]

/-- The condition LOG-LOW is no other entry (R107). -/
theorem State.pends.refreshLogLow {k : NoticeKind} {c : Option ChannelId} (h : s.pends k c)
    (hk : k ≠ .logLow) : s.refreshLogLow.pends k c :=
  (any_withCondition_of_ne s.notices _ c hk).trans h

theorem State.pends.admitAndFetch {k : NoticeKind} {p : Option ChannelId} (h : s.pends k p)
    (hk : k ≠ .logLow) (c : Composition) (item slot reel : Nat) (licence : Option Nat) :
    (s.admitAndFetch ch c item slot reel licence).pends k p := by
  have htaken (r : LogRecord) : (s.takeLog r).pends k p :=
    State.pends.refreshLogLow (s := { s with log := s.log ++ [r], nextSeq := s.nextSeq + 1 }) h hk
  have hlogged (b : Bool) (r : LogRecord) : (if b then s.takeLog r else s).pends k p := by
    cases b
    · exact h
    · exact htaken r
  refine State.pends.of_notices ?_ (State.fetchNewest_notices _ ch reel)
  refine State.pends.of_notices ?_ (State.modChan_notices _ ch _)
  cases licence with
  | none => exact hlogged _ _
  | some i => exact (hlogged _ _).of_notices (State.modLicence_notices ..)

/-! ### What an occasion can do -/

variable (s)

/-- All that a next-item occasion can do (R94, R99): nothing, the report that no item follows, a refusal, or
an admission with its FETCH. -/
theorem State.nextItemOccasion_cases : s.nextItemOccasion ch = s ∨
    s.nextItemOccasion ch = s.reportNoNext ch ∨
    (∃ item st, s.nextItemOccasion ch = s.refuseNext ch item st) ∨
    ∃ c item slot reel licence, s.nextItemOccasion ch = s.admitAndFetch ch c item slot reel licence := by
  simp only [State.nextItemOccasion]
  split
  · split
    · simp only [State.admitNext]
      iterate 3 (split; · exact .inr (.inl rfl))
      split
      · exact .inr (.inr (.inl ⟨_, _, rfl⟩))
      · exact .inr (.inr (.inr ⟨_, _, _, _, _, rfl⟩))
    · exact .inl rfl
  · exact .inl rfl

variable {s}

/-- An admitted item's FETCH is begun (R47, R98). -/
theorem State.fetchNewest_of_getLast {r : AdmissionRecord}
    (h : (s.chan ch).records.getLast? = some r) (reel : Nat) :
    s.fetchNewest ch reel = s.beginFetch ch r reel := by
  simp only [State.fetchNewest, h]

variable (s)

/-- The channel after an admission with its FETCH (R67, R93, R98). -/
theorem State.admitAndFetch_chan (c : Composition) (item slot reel : Nat) (licence : Option Nat) :
    (s.admitAndFetch ch c item slot reel licence).chan ch = { s.chan ch with
      records := (s.chan ch).records ++ [freshRecord s ch c item slot reel licence]
      nextIdent := (s.chan ch).nextIdent + 1
      assembly := { (s.chan ch).assembly with
        fetching := some (freshRecord s ch c item slot reel licence).ident
        cursor := .start reel, complete := false }
      noNext := false } := by
  rw [State.admitAndFetch, State.fetchNewest_of_getLast (r := freshRecord s ch c item slot reel licence) ch
    (by simp [State.openAdmission_chan])]
  simp [State.beginFetch, State.openAdmission_chan]

/-- The FETCH of an admission waits last (R47, R49). -/
theorem State.admitAndFetch_returns (c : Composition) (item slot reel : Nat) (licence : Option Nat) :
    (s.admitAndFetch ch c item slot reel licence).returns = s.returns ++
      [.fetch ch (s.chan ch).epoch item (((s.composition slot).map (·.id)).getD 0) reel] := by
  obtain ⟨-, hreturns⟩ := s.openAdmission_ports ch c item slot reel licence
  have hcompositions :=
    State.compositions_of_steady (s.openAdmission_steady ch c item slot reel licence)
  rw [State.admitAndFetch, State.fetchNewest_of_getLast (r := freshRecord s ch c item slot reel licence) ch
    (by simp [State.openAdmission_chan])]
  simp [State.beginFetch, State.sendFetch, State.sendReturn, State.composition, State.compositionSlot,
    State.openAdmission_chan, hreturns, hcompositions, freshRecord]

theorem State.admitAndFetch_bench (c : Composition) (item slot reel : Nat) (licence : Option Nat) :
    (s.admitAndFetch ch c item slot reel licence).bench = s.bench := by
  obtain ⟨hbench, -⟩ := s.openAdmission_ports ch c item slot reel licence
  refine Eq.trans ?_ hbench
  simp only [State.admitAndFetch, State.fetchNewest]
  split
  · exact State.modChan_bench _ ch _
  · rfl

/-- What an occasion leaves of its channel (R94). -/
theorem State.nextItemOccasion_stock :
    ((s.nextItemOccasion ch).chan ch).stock = (s.chan ch).stock := by
  obtain h | h | ⟨item, st, h⟩ | ⟨c, item, slot, reel, licence, h⟩ := s.nextItemOccasion_cases ch
  · rw [h]
  · simp [h, State.reportNoNext, Channel.stock]
  · simp [h, State.refuseNext, Channel.stock]
  · simp [h, State.admitAndFetch_chan, Channel.stock]

theorem State.nextItemOccasion_bench : (s.nextItemOccasion ch).bench = s.bench := by
  obtain h | h | ⟨item, st, h⟩ | ⟨c, item, slot, reel, licence, h⟩ := s.nextItemOccasion_cases ch
  · rw [h]
  · simp [h, State.reportNoNext]
  · simp [h, State.refuseNext]
  · simp [h, State.admitAndFetch_bench]

/-- An occasion adds to the waiting messages at their end (R49). -/
theorem State.nextItemOccasion_returns : ∃ later, (s.nextItemOccasion ch).returns = s.returns ++ later := by
  obtain h | h | ⟨item, st, h⟩ | ⟨c, item, slot, reel, licence, h⟩ := s.nextItemOccasion_cases ch
  · exact ⟨[], by simp [h]⟩
  · exact ⟨[], by simp [h, State.reportNoNext]⟩
  · exact ⟨[], by simp [h, State.refuseNext]⟩
  · exact ⟨_, by rw [h, State.admitAndFetch_returns]⟩

variable {s}

theorem State.pends.nextItemOccasion {k : NoticeKind} {p : Option ChannelId} (hp : s.pends k p)
    (hk : k ≠ .logLow) : (s.nextItemOccasion ch).pends k p := by
  obtain h | h | ⟨item, st, h⟩ | ⟨c, item, slot, reel, licence, h⟩ := s.nextItemOccasion_cases ch
  · rwa [h]
  · rw [h]
    exact hp.of_notices (State.modChan_notices s ch _)
  · rw [h]
    exact State.pends.raise (hp.of_notices (State.modChan_notices s ch _)) ..
  · rw [h]
    exact hp.admitAndFetch ch hk c item slot reel licence

/-! ### The single record whose fetch is complete -/

section
variable {a : AdmissionRecord} (hr : (s.chan ch).records = [a])

/-- An occasion admits for the channel's one record alone, and only when its fetch is complete (R94). -/
theorem State.nextItemOccasion_of_incomplete
    (h : ∀ r, (s.chan ch).records = [r] → (s.chan ch).assembly.complete = true →
      (s.chan ch).assembly.fetching ≠ some r.ident) : s.nextItemOccasion ch = s := by
  simp only [State.nextItemOccasion]
  split
  · rename_i r hr
    split
    · rename_i hcomplete
      simp only [Bool.and_eq_true, decide_eq_true_eq] at hcomplete
      exact absurd hcomplete.2 (h r hr hcomplete.1)
    · rfl
  · rfl

include hr

theorem State.nextItemOccasion_of_complete (hc : (s.chan ch).assembly.complete = true)
    (hf : (s.chan ch).assembly.fetching = some a.ident) :
    s.nextItemOccasion ch = s.admitNext ch a := by
  simp only [State.nextItemOccasion, hr, hc, hf, decide_true, Bool.and_self, if_true]

end

theorem Channel.items_getElem? (c : Channel) (n : Nat) : c.items[n]? = c.item n := by
  unfold Channel.items Channel.item
  cases c.showList <;> simp

section
variable {a : AdmissionRecord}

/-- After the last item, or after a refusal, no item follows (R94). -/
theorem State.admitNext_of_end
    (h : (s.chan ch).refusal = true ∨ (s.chan ch).item (a.item + 1) = none) :
    s.admitNext ch a = s.reportNoNext ch := by
  simp only [State.admitNext]
  obtain h | h := h
  · simp only [h, if_true]
  · simp only [h]
    split <;> rfl

variable {i : ShowItem} {c : Composition} (href : (s.chan ch).refusal = false)
  (hi : (s.chan ch).item (a.item + 1) = some i) (hc : s.composition i.slot.toNat = some c)
include href hi hc

/-- A refused admission of the next item (R99). -/
theorem State.admitNext_of_error {st : Status}
    (h : judgeAdmission s c i.entryReel.toNat = .error st) :
    s.admitNext ch a = s.refuseNext ch (a.item + 1) st := by
  simp only [State.admitNext, href, hi, hc, h, Bool.false_eq_true, if_false]

/-- An accepted admission of the next item (R98). -/
theorem State.admitNext_of_ok {licence : Option Nat}
    (h : judgeAdmission s c i.entryReel.toNat = .ok licence) :
    s.admitNext ch a = s.admitAndFetch ch c (a.item + 1) i.slot.toNat i.entryReel.toNat licence := by
  simp only [State.admitNext, href, hi, hc, h, Bool.false_eq_true, if_false]

end

end

/-- The judgment of an admission reads log, sequence number, keys, licences and clock alone (R96). -/
theorem judgeAdmission_congr {s t : State} (hlog : t.log = s.log) (hseq : t.nextSeq = s.nextSeq)
    (hkeys : t.keys = s.keys) (hlicences : t.licences = s.licences) (hclock : t.clock = s.clock)
    (c : Composition) (reel : Nat) : judgeAdmission t c reel = judgeAdmission s c reel := by
  have hfind : t.findKey = s.findKey := by
    funext id
    simp only [State.findKey, hkeys]
  have hlicence : t.licence = s.licence := by
    funext i
    simp only [State.licence, hlicences]
  simp only [judgeAdmission, keyedCheck, owners, licenceCheck, State.logFull, State.freeLog, hlog, hseq,
    hfind, hlicence, hclock]
  rfl

end Sys2Proof.Machine

/-! ## The placement of a segment (R57, step 3, R59 to R65, R68)

`Channel.Builds` is what closure and placement do to a channel: slots, cursor, counts and scheduler. -/

namespace Sys2Proof.Machine

/-- Only slots, take pointer, cursor, unpacker counts and scheduler differ. -/
def Channel.Builds (c d : Channel) : Prop :=
  d = { c with
    slots := d.slots, take := d.take, subs := d.subs
    assembly := { c.assembly with cursor := d.assembly.cursor, counts := d.assembly.counts } }

theorem Channel.Builds.trans {c d e : Channel} (h : c.Builds d) (h' : d.Builds e) : c.Builds e := by
  unfold Channel.Builds at *
  rw [h', h]

section
variable {c d : Channel} (h : c.Builds d)
include h

theorem Channel.Builds.queue : d.queue = c.queue := (congrArg Channel.queue h :)
theorem Channel.Builds.granted : d.granted = c.granted := (congrArg Channel.granted h :)
theorem Channel.Builds.state : d.state = c.state := (congrArg Channel.state h :)
theorem Channel.Builds.config : d.config = c.config := (congrArg Channel.config h :)
theorem Channel.Builds.records : d.records = c.records := (congrArg Channel.records h :)
theorem Channel.Builds.showList : d.showList = c.showList := (congrArg Channel.showList h :)
theorem Channel.Builds.refusal : d.refusal = c.refusal := (congrArg Channel.refusal h :)
theorem Channel.Builds.epoch : d.epoch = c.epoch := (congrArg Channel.epoch h :)
theorem Channel.Builds.fetching : d.assembly.fetching = c.assembly.fetching :=
  (congrArg (·.assembly.fetching) h :)
theorem Channel.Builds.complete : d.assembly.complete = c.assembly.complete :=
  (congrArg (·.assembly.complete) h :)

end

theorem Channel.Closes.builds {c d : Channel} (h : c.Closes d) : c.Builds d := by
  unfold Channel.Closes at h
  unfold Channel.Builds
  rw [h]

section
variable {c : Channel} {g : Segment} (comp : Composition) (record : Nat)

/-! ### Fragments (R61 to R63) -/

theorem Channel.openFrame_of_slot (h : c.hasSlot g = true) : c.openFrame comp record g = c := by
  simp only [Channel.openFrame, h, if_true]

/-- A fragment whose frame has no slot opens the one at the take pointer; its picture is closed MISSING when
the fragment is of its sound (R57, step 3, R63). -/
theorem Channel.openFrame_of_new (h : c.hasSlot g = false) : c.openFrame comp record g = { c with
    slots := c.slots.set c.take (.filling (openedFrame comp record g)), take := ringAdd c.take 1
    assembly := { c.assembly with counts := { c.assembly.counts with
      missing := if g.kind = .sound then bump16 c.assembly.counts.missing 1
        else c.assembly.counts.missing } } } := by
  simp only [Channel.openFrame, h, Bool.false_eq_true, if_false]
  split <;> rfl

theorem Channel.openFrame_closes (c : Channel) (g : Segment) : c.Closes (c.openFrame comp record g) := by
  cases h : c.hasSlot g with
  | true => exact (Channel.openFrame_of_slot comp record h).symm ▸ .refl c
  | false =>
    rw [Channel.openFrame_of_new comp record h]
    rfl

/-- What a fragment adds to ASSEMBLY where it is taken: in the frame in assembly (R61, R64). -/
def Channel.fragmentGain (c : Channel) (g : Segment) (blockLength : Nat) (p : Payload) : Nat :=
  match c.fillingFrame with
  | some f => f.assemblyGain (f.takeFragment g blockLength p) g
  | none => 0

theorem Channel.placeFragment_eq (c : Channel) (g : Segment) (p : Payload) :
    c.placeFragment comp record g p = { c with
      slots := ((c.openFrame comp record g).modFilling
        (fun f => f.takeFragment g (c.blockLength comp) p)).slots
      take := (c.openFrame comp record g).take
      assembly := { c.assembly with
        cursor := g.key
        counts := { c.assembly.counts with
          missing := (c.openFrame comp record g).assembly.counts.missing
          assembly := bump16 c.assembly.counts.assembly
            ((c.openFrame comp record g).fragmentGain g (c.blockLength comp) p) } } } := by
  have hopened := c.openFrame_closes comp record g
  unfold Channel.Closes at hopened
  unfold Channel.placeFragment
  rw [hopened]
  rfl

end

/-- FRAGMENT and LENGTH are the causes that ASSEMBLY counts (R64). -/
theorem assemblyGain_eq (p q : Part) : assemblyGain p q =
    if p.damage = none ∧ (q.damage = some .fragment ∨ q.damage = some .length) then 1 else 0 := by
  have hcause (c : DamageCause) : c.isAssembly = true ↔ c = .fragment ∨ c = .length := by
    cases c <;> simp [DamageCause.isAssembly]
  unfold assemblyGain
  cases q.damage <;> simp [hcause]

/-! ### Segments -/

section
variable (s : State) (ch : ChannelId) (comp : Composition) (record : Nat) (g : Segment) (p : Payload)

/-- A segment's payload is counted, and an unusable key reported (R64, R68). -/
def State.countPayload : State :=
  (s.modChan ch (fun c => c.modCounts (·.withPayload p))).raiseUnusable ch g p

theorem State.countPayload_chan :
    (s.countPayload ch g p).chan ch = (s.chan ch).modCounts (·.withPayload p) := by
  simp [State.countPayload]

theorem State.raiseUnusable_ports : (s.raiseUnusable ch g p).bench = s.bench ∧
    (s.raiseUnusable ch g p).returns = s.returns := by
  simp only [State.raiseUnusable]
  split
  · exact ⟨rfl, rfl⟩
  · exact ⟨rfl, rfl⟩

theorem State.countPayload_ports : (s.countPayload ch g p).bench = s.bench ∧
    (s.countPayload ch g p).returns = s.returns := by
  obtain ⟨hbench, hreturns⟩ :=
    (s.modChan ch (fun c => c.modCounts (·.withPayload p))).raiseUnusable_ports ch g p
  exact ⟨hbench.trans (s.modChan_bench ch _), hreturns.trans (s.modChan_returns ch _)⟩

variable {g p}

theorem State.countPayload_pends (h : p = .bad .keyUnusable) :
    (s.countPayload ch g p).pends .frameDamaged (some ch) := by
  subst h
  exact State.pends_raise ..

theorem State.placeSegment_of_fragment (hg : g.isFragment = true) :
    s.placeSegment ch comp record g p =
      (s.countPayload ch g p).modChan ch (fun c => c.placeFragment comp record g p) := by
  simp only [State.placeSegment, hg, if_true]
  rfl

theorem State.placeSegment_of_prologue (hg : g.isFragment = false) :
    s.placeSegment ch comp record g p = (s.countPayload ch g p).placePrologue ch comp g p := by
  simp only [State.placeSegment, hg, Bool.false_eq_true, if_false]
  rfl

/-- What the scheduler makes of a good prologue payload (R65). -/
def Subtitles.handed (x : Subtitles) (comp : Composition) (g : Segment) (plain : List Byte) : SubsResult :=
  if g.kind = .resource then x.takeResource comp g.item g.reel g.resourceOffset plain
  else x.takeCues comp g.item g.reel plain

/-- A good prologue payload is handed to the scheduler (R65). -/
theorem State.placePrologue_of_good (g : Segment) (plain : List Byte) :
    s.placePrologue ch comp g (.good plain) = (s.modChan ch (fun c => c.setCursor g.key)).putSubs ch
      ((s.chan ch).subs.handed comp g plain) := by
  simp only [State.placePrologue, State.handOff, Subtitles.handed, State.chan_modChan_same]
  split <;> rfl

theorem State.placePrologue_of_bad (g : Segment) (cause : DamageCause) :
    s.placePrologue ch comp g (.bad cause) = s.modChan ch (fun c => c.setCursor g.key) := rfl

theorem State.putSubs_bench (x : SubsResult) : (s.putSubs ch x).bench =
    { s with subtitlePort := s.subtitlePort ++ x.events }.bench := by
  simp [State.putSubs, State.bench]

theorem State.putSubs_returns (x : SubsResult) : (s.putSubs ch x).returns = s.returns := by
  simp [State.putSubs]

/-- A drop of the scheduler is reported (R165). -/
theorem State.putSubs_pends {x : SubsResult} (h : x.drops ≠ []) :
    (s.putSubs ch x).pends .cueDropped (some ch) := by
  have hmore (fs : List DropFault) (t : State) (ht : t.pends .cueDropped (some ch)) :
      (t.raiseDrops ch fs).pends .cueDropped (some ch) := by
    induction fs generalizing t with
    | nil => exact ht
    | cons f rest ih => exact ih _ (ht.raise ..)
  obtain ⟨f, rest, hdrops⟩ := List.exists_cons_of_ne_nil h
  simp only [State.putSubs, hdrops]
  exact hmore rest _ (State.pends_raise ..)

variable (g p)

theorem State.placeSegment_returns : (s.placeSegment ch comp record g p).returns = s.returns := by
  obtain ⟨-, hreturns⟩ := s.countPayload_ports ch g p
  cases hg : g.isFragment with
  | true => rw [State.placeSegment_of_fragment s ch comp record hg, State.modChan_returns, hreturns]
  | false =>
    rw [State.placeSegment_of_prologue s ch comp record hg]
    cases p with
    | good plain => rw [State.placePrologue_of_good, State.putSubs_returns, State.modChan_returns, hreturns]
    | bad cause => rw [State.placePrologue_of_bad, State.modChan_returns, hreturns]

theorem State.placeSegment_builds :
    (s.chan ch).Builds ((s.placeSegment ch comp record g p).chan ch) := by
  cases hg : g.isFragment with
  | true =>
    rw [State.placeSegment_of_fragment s ch comp record hg, State.chan_modChan_same,
      State.countPayload_chan, Channel.placeFragment_eq]
    rfl
  | false =>
    rw [State.placeSegment_of_prologue s ch comp record hg]
    cases p with
    | good plain =>
      rw [State.placePrologue_of_good, State.putSubs_chan_same, State.chan_modChan_same,
        State.countPayload_chan]
      rfl
    | bad cause =>
      rw [State.placePrologue_of_bad, State.chan_modChan_same, State.countPayload_chan]
      rfl

end

end Sys2Proof.Machine

/-! ## The finish of an operation (R44, R52, R66, R94, R118) -/

namespace Sys2Proof.Machine

section
variable (s : State) (ch : ChannelId)

theorem State.finishHead_of_cons {g : Segment} {rest : List Segment} (h : (s.chan ch).queue = g :: rest) :
    s.finishHead ch = (s.modChan ch (fun c =>
      { c with queue := rest, granted := c.granted + g.blocks })).sendCredit ch g.blocks := by
  simp only [State.finishHead, h]

/-- Whether the finish makes its channel PRIMED (R118). -/
def Channel.primes (c : Channel) (completed : Bool) : Bool :=
  c.state = .cueing && (c.config.priming ≤ c.readyCount ||
    completed && (c.presenting.map (·.ident)) = c.assembly.fetching)

theorem State.judgePriming_chan (completed : Bool) : (s.judgePriming ch completed).chan ch =
    { s.chan ch with
      state := if (s.chan ch).primes completed then .primed else (s.chan ch).state } := by
  simp only [State.judgePriming, Channel.primes]
  split <;> simp [*]

theorem State.judgePriming_ports (completed : Bool) : (s.judgePriming ch completed).bench = s.bench ∧
    (s.judgePriming ch completed).returns = s.returns := by
  simp only [State.judgePriming]
  split <;> simp

variable {s}

theorem State.judgePriming_pends_primed {completed : Bool} (h : (s.chan ch).primes completed = true) :
    (s.judgePriming ch completed).pends .channelPrimed (some ch) := by
  unfold Channel.primes at h
  simp only [State.judgePriming, h, if_true]
  exact State.pends_raise ..

theorem State.pends.judgePriming {k : NoticeKind} {c : Option ChannelId} (h : s.pends k c)
    (completed : Bool) : (s.judgePriming ch completed).pends k c := by
  simp only [State.judgePriming]
  split
  · exact State.pends.raise (h.of_notices (State.modChan_notices s ch _)) ..
  · exact h

variable (s)

/-- The head segment is finished, and a completed fetch reported (R44, R66). -/
def State.reported (completed : Bool) : State :=
  let returned := s.finishHead ch
  if completed then returned.reportComplete ch else returned

/-- A finish but for its next-item occasion (R44, R66, R118). -/
def State.settleHead (completed readied : Bool) : State :=
  if readied || completed then (s.reported ch completed).judgePriming ch completed
  else s.reported ch completed

/-- The head segment leaves the queue, its blocks are granted again, and the fetch may be complete (R44,
R66). -/
def Channel.returned (c : Channel) (g : Segment) (rest : List Segment) (completed : Bool) : Channel :=
  { c with
    queue := rest, granted := c.granted + g.blocks
    assembly := { c.assembly with complete := completed || c.assembly.complete } }

section
variable {s} {g : Segment} {rest : List Segment} (h : (s.chan ch).queue = g :: rest) (completed readied : Bool)
include h

theorem State.reported_chan :
    (s.reported ch completed).chan ch = (s.chan ch).returned g rest completed := by
  have hreturned := s.chan_finishHead ch g rest h
  cases completed with
  | false => exact hreturned
  | true =>
    simp only [State.reported, State.reportComplete, if_true, State.chan_modChan_same, hreturned]
    rfl

theorem State.reported_ports : (s.reported ch completed).bench = s.bench ∧
    (s.reported ch completed).returns = addCredit ch g.blocks s.returns ∧
    (s.reported ch completed).notices = s.notices := by
  simp only [State.reported, State.finishHead_of_cons s ch h]
  cases completed <;> cases ch <;> exact ⟨rfl, rfl, rfl⟩

theorem State.settleHead_chan : (s.settleHead ch completed readied).chan ch =
    { (s.chan ch).returned g rest completed with
      state := if (readied || completed) && ((s.chan ch).returned g rest completed).primes completed
        then .primed else (s.chan ch).state } := by
  have hchan := State.reported_chan ch h completed
  simp only [State.settleHead]
  split
  · rename_i hjudged
    rw [State.judgePriming_chan, hchan]
    simp only [hjudged, Bool.true_and]
    rfl
  · rename_i hjudged
    simp only [hchan, Bool.eq_false_iff.mpr hjudged, Bool.false_and, Bool.false_eq_true, if_false]
    rfl

theorem State.settleHead_ports : (s.settleHead ch completed readied).bench = s.bench ∧
    (s.settleHead ch completed readied).returns = addCredit ch g.blocks s.returns := by
  obtain ⟨hbench, hreturns, -⟩ := State.reported_ports ch h completed
  simp only [State.settleHead]
  split
  · obtain ⟨hb, hr⟩ := (s.reported ch completed).judgePriming_ports ch completed
    exact ⟨hb.trans hbench, hr.trans hreturns⟩
  · exact ⟨hbench, hreturns⟩

theorem State.pends.settleHead {k : NoticeKind} {c : Option ChannelId} (hk : s.pends k c) :
    (s.settleHead ch completed readied).pends k c := by
  obtain ⟨-, -, hnotices⟩ := State.reported_ports ch h completed
  have hreported := hk.of_notices hnotices
  simp only [State.settleHead]
  split
  · exact hreported.judgePriming ch completed
  · exact hreported

/-- A channel that the finish makes PRIMED has CHANNEL-PRIMED pending (R118). -/
theorem State.settleHead_pends_primed
    (hne : ((s.settleHead ch completed readied).chan ch).state ≠ (s.chan ch).state) :
    (s.settleHead ch completed readied).pends .channelPrimed (some ch) := by
  have hchan := State.reported_chan ch h completed
  rw [State.settleHead_chan ch h completed readied] at hne
  have hboth : ((readied || completed) && ((s.chan ch).returned g rest completed).primes completed) = true := by
    by_contra hnot
    simp [hnot] at hne
  obtain ⟨hjudged, hprimes⟩ := (Bool.and_eq_true _ _).mp hboth
  simp only [State.settleHead, hjudged, if_true]
  exact State.judgePriming_pends_primed ch (hchan ▸ hprimes)

end

end

end Sys2Proof.Machine

/-! ## SEGMENT_FINISH on a segment that passes the order check (R52, R57 to R66) -/

namespace Sys2Proof.Machine

theorem State.settleHead_tables (s : State) (ch : ChannelId) (completed readied : Bool) :
    (s.settleHead ch completed readied).log = s.log ∧
      (s.settleHead ch completed readied).licences = s.licences ∧
      (s.settleHead ch completed readied).nextSeq = s.nextSeq ∧
      (s.settleHead ch completed readied).keys = s.keys ∧
      (s.settleHead ch completed readied).steady = s.steady := by
  simp only [State.settleHead, State.reported]
  (repeat' split) <;> simp

/-- The part with the operation in work finished as far as closure and placement (R57, R59 to R65). -/
def State.placed (s : State) (w : Work) (a : AdmissionRecord) (comp : Composition) (g : Segment) : State :=
  (State.modChan { s with work := none } w.channel (fun c => c.closeBefore comp a.ident g)).placeSegment
    w.channel comp a.ident g (g.unpacked w.key)

/-- The operation in work is on the segment `g` at the head of its channel's queue, which passes the order
check against the fetching record `a` and its composition (R56). -/
structure Finishes (s : State) (w : Work) (g : Segment) (rest : List Segment) (a : AdmissionRecord)
    (comp : Composition) : Prop where
  work : s.work = some w
  head : (s.chan w.channel).queue = g :: rest
  passes : s.orderPasses w.channel g = true
  record : (s.chan w.channel).fetchingRecord = some a
  composition : s.composition a.slot = some comp

namespace Finishes

variable {s : State} {w : Work} {g : Segment} {rest : List Segment} {a : AdmissionRecord}
  {comp : Composition} (h : Finishes s w g rest a comp)

/-! ### The channel before the finish -/

section
include h

/-- The channel is fetching for the record `a`. -/
theorem fetching : (s.chan w.channel).assembly.fetching = some a.ident ∧
    a ∈ (s.chan w.channel).records := by
  obtain ⟨n, hn, hfind⟩ := Option.bind_eq_some_iff.mp h.record
  have hident : a.ident = n := by simpa using List.find?_some hfind
  exact ⟨hident ▸ hn, List.mem_of_find?_eq_some hfind⟩

theorem fetchingComposition : s.fetchingComposition w.channel = some comp := by
  simp [State.fetchingComposition, h.record, h.composition]

/-- Its fetch is not complete (R56). -/
theorem incomplete : (s.chan w.channel).assembly.complete = false := by
  have hfits := State.orderFits_of_orderPasses h.passes h.record h.fetchingComposition
  simp only [orderFits, Bool.and_eq_true, Bool.not_eq_true'] at hfits
  obtain ⟨⟨⟨-, hcomplete⟩, -⟩, -⟩ := hfits
  exact hcomplete

theorem finish_eq : s.finishSegment =
    State.unpack { s with work := none } w.channel comp a.ident w.key g := by
  simp only [State.finishSegment, h.work, h.head, h.passes, h.record, h.fetchingComposition,
    Bool.not_true, Bool.false_eq_true, if_false]

end

theorem freed_chan (s : State) (ch : ChannelId) : State.chan { s with work := none } ch = s.chan ch :=
  State.chan_of_stage rfl ch

theorem closed_chan (s : State) (w : Work) (a : AdmissionRecord) (comp : Composition) (g : Segment) :
    (State.modChan { s with work := none } w.channel (fun c => c.closeBefore comp a.ident g)).chan
      w.channel = (s.chan w.channel).closeBefore comp a.ident g := by
  rw [State.chan_modChan_same, freed_chan]

theorem placed_builds (s : State) (w : Work) (a : AdmissionRecord) (comp : Composition) (g : Segment) :
    (s.chan w.channel).Builds ((s.placed w a comp g).chan w.channel) := by
  have hclosed := closed_chan s w a comp g ▸ (Channel.closeBefore_closes _ comp a.ident g).builds
  exact hclosed.trans (State.placeSegment_builds ..)

theorem placed_returns (s : State) (w : Work) (a : AdmissionRecord) (comp : Composition) (g : Segment) :
    (s.placed w a comp g).returns = s.returns :=
  (State.placeSegment_returns ..).trans (State.modChan_returns ..)

theorem placed_tables (s : State) (w : Work) (a : AdmissionRecord) (comp : Composition) (g : Segment) :
    (s.placed w a comp g).log = s.log ∧ (s.placed w a comp g).licences = s.licences ∧
      (s.placed w a comp g).nextSeq = s.nextSeq ∧ (s.placed w a comp g).keys = s.keys ∧
      (s.placed w a comp g).steady = s.steady := by
  simp [State.placed]

/-- The segment in work has completed its item's fetch (R66). -/
def completed (s : State) (w : Work) (a : AdmissionRecord) (comp : Composition) (g : Segment) : Bool :=
  completesFetch ((s.placed w a comp g).chan w.channel) comp g

/-- READY slots were added (R118). -/
def readied (s : State) (w : Work) (a : AdmissionRecord) (comp : Composition) (g : Segment) : Bool :=
  (s.chan w.channel).readyCount < ((s.placed w a comp g).chan w.channel).readyCount

/-- The finish of a segment that leaves the queue, but for its next-item occasion. -/
def settled (s : State) (w : Work) (a : AdmissionRecord) (comp : Composition) (g : Segment) : State :=
  (s.placed w a comp g).settleHead w.channel (completed s w a comp g) (readied s w a comp g)

section
include h

theorem placed_head : ((s.placed w a comp g).chan w.channel).queue = g :: rest :=
  (placed_builds s w a comp g).queue.trans h.head

/-- The channel of a finish, but for its next-item occasion (R44, R66, R118). -/
theorem settled_chan : (settled s w a comp g).chan w.channel =
    { ((s.placed w a comp g).chan w.channel).returned g rest (completed s w a comp g) with
      state := if (readied s w a comp g || completed s w a comp g) &&
          (((s.placed w a comp g).chan w.channel).returned g rest (completed s w a comp g)).primes
            (completed s w a comp g) then .primed else (s.chan w.channel).state } := by
  rw [settled, State.settleHead_chan w.channel h.placed_head, (placed_builds s w a comp g).state]

/-- The unpacker is free, and of the ports only the subtitle port is written (R52). -/
theorem settled_ports : (settled s w a comp g).bench = (s.placed w a comp g).bench ∧
    (settled s w a comp g).returns = addCredit w.channel g.blocks s.returns := by
  obtain ⟨hbench, hreturns⟩ := State.settleHead_ports w.channel h.placed_head (completed s w a comp g)
    (readied s w a comp g)
  exact ⟨hbench, hreturns.trans (by rw [placed_returns])⟩

theorem settled_of_completed (hc : completed s w a comp g = true) (hr : (s.chan w.channel).records = [a]) :
     ((settled s w a comp g).chan w.channel).assembly.complete = true ∧
    ((settled s w a comp g).chan w.channel).assembly.fetching = some a.ident ∧
    ((settled s w a comp g).chan w.channel).records = [a] ∧
    ((settled s w a comp g).chan w.channel).refusal = (s.chan w.channel).refusal ∧
    ((settled s w a comp g).chan w.channel).epoch = (s.chan w.channel).epoch ∧
    ((settled s w a comp g).chan w.channel).item = (s.chan w.channel).item := by
  have hbuilds := placed_builds s w a comp g
  rw [h.settled_chan]
  refine ⟨?_, hbuilds.fetching.trans h.fetching.1, hbuilds.records.trans hr, hbuilds.refusal,
    hbuilds.epoch, ?_⟩
  · simp only [Channel.returned, hc, Bool.true_or]
  · funext n
    exact congrArg (fun l : Option (List ShowItem) => l.bind (·[n]?)) hbuilds.showList

end

theorem settled_tables (s : State) (w : Work) (a : AdmissionRecord) (comp : Composition) (g : Segment) :
    (settled s w a comp g).log = s.log ∧ (settled s w a comp g).licences = s.licences ∧
      (settled s w a comp g).nextSeq = s.nextSeq ∧ (settled s w a comp g).keys = s.keys ∧
      (settled s w a comp g).steady = s.steady := by
  obtain ⟨hlog, hlicences, hseq, hkeys, hsteady⟩ := placed_tables s w a comp g
  obtain ⟨hlog', hlicences', hseq', hkeys', hsteady'⟩ := (s.placed w a comp g).settleHead_tables w.channel
    (completed s w a comp g) (readied s w a comp g)
  exact ⟨hlog'.trans hlog, hlicences'.trans hlicences, hseq'.trans hseq, hkeys'.trans hkeys,
    hsteady'.trans hsteady⟩

theorem settled_judges (s : State) (w : Work) (a : AdmissionRecord) (comp : Composition) (g : Segment)
    (after : Composition) (reel : Nat) :
    judgeAdmission (settled s w a comp g) after reel = judgeAdmission s after reel := by
  obtain ⟨hlog, hlicences, hseq, hkeys, hsteady⟩ := settled_tables s w a comp g
  exact judgeAdmission_congr hlog hseq hkeys hlicences (State.clock_of_steady hsteady) after reel

theorem settled_composition (s : State) (w : Work) (a : AdmissionRecord) (comp : Composition)
    (g : Segment) : (settled s w a comp g).composition = s.composition := by
  obtain ⟨-, -, -, -, hsteady⟩ := settled_tables s w a comp g
  funext n
  simp only [State.composition, State.compositionSlot, State.compositions_of_steady hsteady]

/-! ### A segment that leaves the queue -/

section
variable (hl : staysAtHead ((s.chan w.channel).closeBefore comp a.ident g) comp g = false)
include h hl

theorem leaves_eq : s.finishSegment =
    if completed s w a comp g then (settled s w a comp g).nextItemOccasion w.channel
    else settled s w a comp g := by
  rw [h.finish_eq]
  simp only [State.unpack, closed_chan, freed_chan, hl, Bool.false_eq_true, if_false]
  rfl

/-- The next-item occasion leaves slots, counts, scheduler, queue and credit of the finish. -/
theorem leaves_stock : (s.finishSegment.chan w.channel).stock =
    ((settled s w a comp g).chan w.channel).stock := by
  rw [h.leaves_eq hl]
  split
  · exact State.nextItemOccasion_stock ..
  · rfl

theorem leaves_bench : s.finishSegment.bench = (s.placed w a comp g).bench := by
  refine Eq.trans ?_ h.settled_ports.1
  rw [h.leaves_eq hl]
  split
  · exact State.nextItemOccasion_bench ..
  · rfl

theorem leaves_returns : ∃ later,
    s.finishSegment.returns = addCredit w.channel g.blocks s.returns ++ later := by
  rw [h.leaves_eq hl, ← h.settled_ports.2]
  split
  · exact State.nextItemOccasion_returns ..
  · exact ⟨[], (List.append_nil _).symm⟩

theorem leaves_pends {k : NoticeKind} {p : Option ChannelId} (hk : k ≠ .logLow)
    (hp : (settled s w a comp g).pends k p) : s.finishSegment.pends k p := by
  rw [h.leaves_eq hl]
  split
  · exact hp.nextItemOccasion w.channel hk
  · exact hp

theorem leaves_slots : (s.finishSegment.chan w.channel).slots =
      ((s.placed w a comp g).chan w.channel).slots ∧
    (s.finishSegment.chan w.channel).take = ((s.placed w a comp g).chan w.channel).take ∧
    (s.finishSegment.chan w.channel).subs = ((s.placed w a comp g).chan w.channel).subs ∧
    (s.finishSegment.chan w.channel).assembly.counts =
      ((s.placed w a comp g).chan w.channel).assembly.counts := by
  have hstock := h.leaves_stock hl
  rw [h.settled_chan] at hstock
  simp only [Channel.stock, Channel.returned, Prod.mk.injEq] at hstock
  obtain ⟨-, -, -, hkept⟩ := hstock
  exact hkept

/-- The blocks of the segment are granted again (R44). -/
theorem leaves_credit : (s.finishSegment.chan w.channel).queue = rest ∧
    (s.finishSegment.chan w.channel).granted = (s.chan w.channel).granted + g.blocks := by
  have hstock := h.leaves_stock hl
  rw [h.settled_chan] at hstock
  simp only [Channel.stock, Channel.returned, Prod.mk.injEq, (placed_builds s w a comp g).granted] at hstock
  obtain ⟨hqueue, hgranted, -⟩ := hstock
  exact ⟨hqueue, hgranted⟩

theorem leaves_readyCount : (s.finishSegment.chan w.channel).readyCount =
    ((s.placed w a comp g).chan w.channel).readyCount := by
  rw [Channel.readyCount, (h.leaves_slots hl).1]
  rfl

theorem leaves_fillingFrame : (s.finishSegment.chan w.channel).fillingFrame =
    ((s.placed w a comp g).chan w.channel).fillingFrame := by
  rw [Channel.fillingFrame, (h.leaves_slots hl).1]
  rfl

/-- The priming of R118. -/
theorem leaves_state : (s.finishSegment.chan w.channel).state =
    if (s.chan w.channel).state = .cueing ∧
      (readied s w a comp g = true ∧ (s.chan w.channel).config.priming ≤
          (s.finishSegment.chan w.channel).readyCount ∨
        completed s w a comp g = true ∧ ((s.chan w.channel).config.priming ≤
            (s.finishSegment.chan w.channel).readyCount ∨
          (s.chan w.channel).records.head?.map (·.ident) = some a.ident)) then .primed
    else (s.chan w.channel).state := by
  have hbuilds := placed_builds s w a comp g
  have hfetching : ((s.placed w a comp g).chan w.channel).assembly.fetching = some a.ident :=
    hbuilds.fetching.trans h.fetching.1
  have hstate : (s.finishSegment.chan w.channel).state = ((settled s w a comp g).chan w.channel).state :=
    congrArg (·.2.2.1) (h.leaves_stock hl)
  rw [hstate, h.leaves_readyCount hl, h.settled_chan]
  refine ite_congr (propext ?_) (fun _ => rfl) (fun _ => rfl)
  simp only [Channel.primes, Channel.returned, Channel.presenting, Channel.readyCount, hbuilds.state,
    hbuilds.config, hbuilds.records, hfetching, Bool.and_eq_true, Bool.or_eq_true, decide_eq_true_eq]
  tauto

theorem leaves_primed (hne : (s.finishSegment.chan w.channel).state ≠ (s.chan w.channel).state) :
    s.finishSegment.pends .channelPrimed (some w.channel) := by
  have hstate : (s.finishSegment.chan w.channel).state = ((settled s w a comp g).chan w.channel).state :=
    congrArg (·.2.2.1) (h.leaves_stock hl)
  refine h.leaves_pends hl (by decide) (State.settleHead_pends_primed w.channel h.placed_head _ _ ?_)
  rw [(placed_builds s w a comp g).state]
  exact hstate ▸ hne

/-! ### The next item (R66, R94) -/

/-- A finish that completes no fetch, or not that of the channel's one record, admits nothing. -/
theorem leaves_eq_settled (hno : completed s w a comp g = false ∨ (s.chan w.channel).records ≠ [a]) :
    s.finishSegment = settled s w a comp g := by
  rw [h.leaves_eq hl]
  obtain hno | hno := hno
  · simp only [hno, Bool.false_eq_true, if_false]
  · split
    · refine State.nextItemOccasion_of_incomplete w.channel fun r hr hcomplete hfetching => hno ?_
      rw [h.settled_chan] at hr hfetching
      have hbuilds := placed_builds s w a comp g
      have hr : (s.chan w.channel).records = [r] := hbuilds.records.symm.trans hr
      have hmem := h.fetching.2
      rw [hr, List.mem_singleton] at hmem
      rw [hr, hmem]
    · rfl

/-- A segment that admits nothing leaves records, log, licences and messages but for its CREDIT. -/
theorem leaves_without_admission
    (hno : completed s w a comp g = false ∨ (s.chan w.channel).records ≠ [a]) :
    (s.finishSegment.chan w.channel).records = (s.chan w.channel).records ∧
      s.finishSegment.log = s.log ∧ s.finishSegment.licences = s.licences ∧
      s.finishSegment.returns = addCredit w.channel g.blocks s.returns ∧
      (s.finishSegment.chan w.channel).assembly.complete = completed s w a comp g ∧
      (s.finishSegment.chan w.channel).assembly.cursor =
        ((s.placed w a comp g).chan w.channel).assembly.cursor := by
  obtain ⟨hlog, hlicences, -⟩ := settled_tables s w a comp g
  have hbuilds := placed_builds s w a comp g
  rw [h.leaves_eq_settled hl hno, h.settled_chan]
  refine ⟨hbuilds.records, hlog, hlicences, h.settled_ports.2, ?_, rfl⟩
  simp only [Channel.returned, hbuilds.complete, h.incomplete, Bool.or_false]

section
variable (hc : completed s w a comp g = true) (hr : (s.chan w.channel).records = [a])
include hc hr

theorem leaves_eq_admitNext : s.finishSegment = (settled s w a comp g).admitNext w.channel a := by
  obtain ⟨hcomplete, hfetching, hrecords, -⟩ := h.settled_of_completed hc hr
  rw [h.leaves_eq hl, if_pos hc, State.nextItemOccasion_of_complete w.channel hrecords hcomplete hfetching]

/-- No item follows the last, or one after a refusal (R94). -/
theorem leaves_at_end
    (hend : (s.chan w.channel).refusal = true ∨ (s.chan w.channel).items[a.item + 1]? = none) :
    (s.finishSegment.chan w.channel).assembly.complete = true ∧
      (s.finishSegment.chan w.channel).noNext = true ∧
      (s.finishSegment.chan w.channel).records = [a] := by
  obtain ⟨hcomplete, -, hrecords, hrefusal, -, hitem⟩ := h.settled_of_completed hc hr
  rw [Channel.items_getElem?] at hend
  rw [h.leaves_eq_admitNext hl hc hr, State.admitNext_of_end w.channel (by rwa [hrefusal, hitem])]
  simp [State.reportNoNext, hcomplete, hrecords]

section
variable {i : ShowItem} {after : Composition} (href : (s.chan w.channel).refusal = false)
  (hi : (s.chan w.channel).items[a.item + 1]? = some i) (ha : s.composition i.slot.toNat = some after)

include href hi ha

/-- The admission of the next item is refused (R99). -/
theorem leaves_with_refusal {st : Status} (hj : judgeAdmission s after i.entryReel.toNat = .error st) :
    (s.finishSegment.chan w.channel).assembly.complete = true ∧
      (s.finishSegment.chan w.channel).noNext = true ∧
      (s.finishSegment.chan w.channel).refusal = true ∧
      (s.finishSegment.chan w.channel).records = [a] ∧
      s.finishSegment.pends .admissionRefused (some w.channel) := by
  obtain ⟨hcomplete, -, hrecords, hrefusal, -, hitem⟩ := h.settled_of_completed hc hr
  rw [Channel.items_getElem?] at hi
  rw [h.leaves_eq_admitNext hl hc hr, State.admitNext_of_error w.channel (hrefusal.trans href)
    (hitem ▸ hi) ((settled_composition s w a comp g).symm ▸ ha) ((settled_judges ..).trans hj)]
  refine ⟨?_, ?_, ?_, ?_, State.pends_raise ..⟩ <;>
    simp [State.refuseNext, hcomplete, hrecords]

/-- The next item is admitted with its FETCH (R98). -/
theorem leaves_with_next {lic : Option Nat}
    (hj : judgeAdmission s after i.entryReel.toNat = .ok lic) :
    ∃ b : AdmissionRecord, (s.finishSegment.chan w.channel).records = [a, b] ∧ b.item = a.item + 1 ∧
      b.slot = i.slot.toNat ∧ b.entryReel = i.entryReel.toNat ∧ b.licence = lic ∧
      b.presented = 0 ∧ b.charged = false ∧ b.chargeable = true ∧
      (s.finishSegment.chan w.channel).assembly.fetching = some b.ident ∧
      (s.finishSegment.chan w.channel).assembly.cursor = .start i.entryReel.toNat ∧
      (s.finishSegment.chan w.channel).assembly.complete = false ∧
      s.finishSegment.returns = addCredit w.channel g.blocks s.returns ++
        [.fetch w.channel (s.chan w.channel).epoch (a.item + 1) after.id i.entryReel.toNat] := by
  obtain ⟨hcomplete, -, hrecords, hrefusal, hepoch, hitem⟩ := h.settled_of_completed hc hr
  rw [Channel.items_getElem?] at hi
  rw [h.leaves_eq_admitNext hl hc hr, State.admitNext_of_ok w.channel (hrefusal.trans href)
    (hitem ▸ hi) ((settled_composition s w a comp g).symm ▸ ha) ((settled_judges ..).trans hj)]
  refine ⟨freshRecord (settled s w a comp g) w.channel after (a.item + 1) i.slot.toNat i.entryReel.toNat lic,
    ?_, rfl, rfl, rfl, rfl, rfl, rfl, rfl, ?_⟩
  · rw [State.admitAndFetch_chan, hrecords]
    rfl
  · rw [State.admitAndFetch_chan, State.admitAndFetch_returns, h.settled_ports.2, hepoch,
      settled_composition, ha]
    exact ⟨rfl, rfl, rfl, rfl⟩

end

end

end

end Finishes

end Sys2Proof.Machine

/-! ## What a placed segment leaves behind (R61 to R65, R68) -/

namespace Sys2Proof.Machine

section
variable (c : Channel) (comp : Composition) (record : Nat) (g : Segment) (p : Payload)

theorem UnpackCounts.withPayload_eq (k : UnpackCounts) : k.withPayload p =
    { k with
      keyUnusable := if p = .bad .keyUnusable then bump16 k.keyUnusable 1 else k.keyUnusable
      check := if p = .bad .check then bump16 k.check 1 else k.check } := by
  cases p with
  | good plain => simp [UnpackCounts.withPayload]
  | bad cause => cases cause <;> simp [UnpackCounts.withPayload]

/-- A channel with the payload of a fragment counted and the fragment placed (R61 to R64). -/
def Channel.taken : Channel := (c.modCounts (·.withPayload p)).placeFragment comp record g p

theorem Channel.openFrame_modCounts (k : UnpackCounts → UnpackCounts) :
    ((c.modCounts k).openFrame comp record g).slots = (c.openFrame comp record g).slots ∧
      ((c.modCounts k).openFrame comp record g).take = (c.openFrame comp record g).take := by
  cases h : c.hasSlot g with
  | true =>
    rw [Channel.openFrame_of_slot comp record h, Channel.openFrame_of_slot (c := c.modCounts k) comp record h]
    exact ⟨rfl, rfl⟩
  | false =>
    rw [Channel.openFrame_of_new comp record h, Channel.openFrame_of_new (c := c.modCounts k) comp record h]
    exact ⟨rfl, rfl⟩

theorem Channel.taken_slots : (c.taken comp record g p).slots =
    ((c.openFrame comp record g).modFilling (fun f => f.takeFragment g (c.blockLength comp) p)).slots := by
  rw [Channel.taken, Channel.placeFragment_eq]
  simp only [Channel.modFilling, (c.openFrame_modCounts comp record g _).1]
  rfl

theorem Channel.taken_take : (c.taken comp record g p).take = (c.openFrame comp record g).take := by
  rw [Channel.taken, Channel.placeFragment_eq]
  exact (c.openFrame_modCounts comp record g _).2

theorem Channel.taken_cursor : (c.taken comp record g p).assembly.cursor = g.key := rfl

theorem Channel.taken_subs : (c.taken comp record g p).subs = c.subs := by
  rw [Channel.taken, Channel.placeFragment_eq]
  rfl

/-- A fragment of a sound whose frame has no slot closes its picture MISSING (R63, R64). -/
theorem Channel.taken_missing : (c.taken comp record g p).assembly.counts.missing =
    if g.kind = .sound ∧ c.hasSlot g = false then bump16 c.assembly.counts.missing 1
    else c.assembly.counts.missing := by
  have hkept : (c.assembly.counts.withPayload p).missing = c.assembly.counts.missing := by
    rw [UnpackCounts.withPayload_eq]
  rw [Channel.taken, Channel.placeFragment_eq]
  cases h : c.hasSlot g with
  | true =>
    rw [Channel.openFrame_of_slot (c := c.modCounts _) comp record h]
    simp only [Bool.true_eq_false, and_false, if_false]
    exact hkept
  | false =>
    rw [Channel.openFrame_of_new (c := c.modCounts _) comp record h]
    simp only [Channel.modCounts, hkept, and_true]

theorem Channel.taken_payload :
    (c.taken comp record g p).assembly.counts.keyUnusable =
        (c.assembly.counts.withPayload p).keyUnusable ∧
      (c.taken comp record g p).assembly.counts.check = (c.assembly.counts.withPayload p).check := by
  rw [Channel.taken, Channel.placeFragment_eq]
  exact ⟨rfl, rfl⟩

theorem Channel.fillingFrame_of_unique {f : Frame} (hmem : Slot.filling f ∈ c.slots)
    (hone : ∀ f', Slot.filling f' ∈ c.slots → f' = f) : c.fillingFrame = some f := by
  cases h : c.fillingFrame with
  | none => exact absurd hmem (Channel.filling_notMem_of_none h f)
  | some f' => rw [hone f' (Channel.filling_mem_of_some h)]

/-- The frame in assembly takes a fragment: its part meets a new cause of R61 that R64 counts, or none. -/
theorem Channel.taken_assembly {f : Frame} (hmem : Slot.filling f ∈ (c.openFrame comp record g).slots)
    (hone : ∀ f', Slot.filling f' ∈ (c.openFrame comp record g).slots → f' = f) :
    (c.taken comp record g p).assembly.counts.assembly = bump16 c.assembly.counts.assembly
      (f.assemblyGain (f.takeFragment g (c.blockLength comp) p) g) := by
  have hkept : (c.assembly.counts.withPayload p).assembly = c.assembly.counts.assembly := by
    rw [UnpackCounts.withPayload_eq]
  have hslots := (c.openFrame_modCounts comp record g (·.withPayload p)).1
  have hfilling : ((c.modCounts (·.withPayload p)).openFrame comp record g).fillingFrame = some f :=
    Channel.fillingFrame_of_unique _ (hslots ▸ hmem) (hslots ▸ hone)
  rw [Channel.taken, Channel.placeFragment_eq]
  simp only [Channel.fragmentGain, hfilling]
  simp only [Channel.modCounts, hkept]
  rfl

theorem Frame.assemblyGain_of_parts {f : Frame} {part part' : Part} {b : Nat}
    (h : if g.kind = .sound then f.sound = some part ∧ (f.takeFragment g b p).sound = some part'
      else part = f.picture ∧ part' = (f.takeFragment g 0 p).picture) :
    f.assemblyGain (f.takeFragment g b p) g = Machine.assemblyGain part part' := by
  unfold Frame.assemblyGain
  by_cases hkind : g.kind = .sound
  · rw [if_pos hkind] at h ⊢
    rw [h.1, h.2]
  · rw [if_neg hkind] at h ⊢
    obtain ⟨rfl, rfl⟩ := h
    simp only [Frame.takeFragment, hkind, if_false]

end

namespace Finishes

/-! ### The placed segment -/

section
variable (s : State) (w : Work) (a : AdmissionRecord) (comp : Composition) (g : Segment)

/-- What R57 closes for a segment keeps the channel but for slots, cursor and MISSING. -/
theorem closed_kept : (s.chan w.channel).Closes ((s.chan w.channel).closeBefore comp a.ident g) :=
  Channel.closeBefore_closes ..

/-- The part closed before the segment, with the payload counted. -/
def counted : State :=
  (State.modChan { s with work := none } w.channel (fun c => c.closeBefore comp a.ident g)).countPayload
    w.channel g (g.unpacked w.key)

theorem counted_chan : (counted s w a comp g).chan w.channel =
    ((s.chan w.channel).closeBefore comp a.ident g).modCounts (·.withPayload (g.unpacked w.key)) := by
  rw [counted, State.countPayload_chan, closed_chan]

theorem counted_bench : (counted s w a comp g).bench = { s with work := none }.bench := by
  rw [counted, (State.countPayload_ports ..).1, State.modChan_bench]

theorem counted_subs : ((counted s w a comp g).chan w.channel).subs = (s.chan w.channel).subs := by
  rw [counted_chan]
  exact (congrArg Channel.subs (closed_kept s w a comp g) :)

section
variable {g}

theorem placed_of_fragment (hg : g.isFragment = true) :
    (s.placed w a comp g).chan w.channel = ((s.chan w.channel).closeBefore comp a.ident g).taken comp
        a.ident g (g.unpacked w.key) ∧
      (s.placed w a comp g).bench = { s with work := none }.bench := by
  rw [State.placed, State.placeSegment_of_fragment _ _ comp a.ident hg]
  refine ⟨?_, (State.modChan_bench ..).trans (counted_bench s w a comp g)⟩
  rw [State.chan_modChan_same, ← counted, counted_chan]
  rfl

/-- The notice of a fragment without a usable key (R68). -/
theorem placed_pends_unusable (hg : g.isFragment = true) (hp : g.unpacked w.key = .bad .keyUnusable) :
    (s.placed w a comp g).pends .frameDamaged (some w.channel) := by
  rw [State.placed, State.placeSegment_of_fragment _ _ comp a.ident hg]
  exact (State.countPayload_pends _ _ hp).of_notices (State.modChan_notices ..)

section
variable (hg : g.isFragment = false)
include hg

theorem placed_of_good {plain : List Byte} (hp : g.unpacked w.key = .good plain) :
    s.placed w a comp g = ((counted s w a comp g).modChan w.channel (fun c => c.setCursor g.key)).putSubs
      w.channel ((s.chan w.channel).subs.handed comp g plain) := by
  rw [State.placed, State.placeSegment_of_prologue _ _ comp a.ident hg, ← counted, hp,
    State.placePrologue_of_good, counted_subs]

theorem placed_of_bad {cause : DamageCause} (hp : g.unpacked w.key = .bad cause) :
    s.placed w a comp g = (counted s w a comp g).modChan w.channel (fun c => c.setCursor g.key) := by
  rw [State.placed, State.placeSegment_of_prologue _ _ comp a.ident hg, ← counted, hp,
    State.placePrologue_of_bad]

/-- The cursor moves to a prologue segment's key (R65). -/
theorem placed_cursor : ((s.placed w a comp g).chan w.channel).assembly.cursor = g.key := by
  cases hp : g.unpacked w.key with
  | good plain =>
    rw [placed_of_good s w a comp hg hp, State.putSubs_chan_same, State.chan_modChan_same]
    rfl
  | bad cause =>
    rw [placed_of_bad s w a comp hg hp, State.chan_modChan_same]
    rfl

/-- A bad prologue payload is not handed to the scheduler (R65). -/
theorem placed_subs_of_bad {cause : DamageCause} (hp : g.unpacked w.key = .bad cause) :
    ((s.placed w a comp g).chan w.channel).subs = (s.chan w.channel).subs ∧
      (s.placed w a comp g).bench = { s with work := none }.bench := by
  rw [placed_of_bad s w a comp hg hp]
  refine ⟨?_, (State.modChan_bench ..).trans (counted_bench s w a comp g)⟩
  rw [State.chan_modChan_same]
  exact counted_subs s w a comp g

/-- A good prologue payload is handed to the scheduler; its events go to the subtitle port (R65). -/
theorem placed_subs_of_good {plain : List Byte} (hp : g.unpacked w.key = .good plain) :
    ((s.placed w a comp g).chan w.channel).subs = ((s.chan w.channel).subs.handed comp g plain).subs ∧
      (s.placed w a comp g).bench = { s with
        work := none
        subtitlePort := s.subtitlePort ++ ((s.chan w.channel).subs.handed comp g plain).events }.bench ∧
      (((s.chan w.channel).subs.handed comp g plain).drops ≠ [] →
        (s.placed w a comp g).pends .cueDropped (some w.channel)) := by
  have hbench := (State.modChan_bench _ w.channel (fun c => c.setCursor g.key)).trans
    (counted_bench s w a comp g)
  simp only [State.bench, Prod.mk.injEq] at hbench
  obtain ⟨hpath, hout, hwork, hserved, hport⟩ := hbench
  rw [placed_of_good s w a comp hg hp]
  refine ⟨?_, ?_, fun h => State.putSubs_pends _ w.channel h⟩
  · rw [State.putSubs_chan_same]
  · rw [State.putSubs_bench]
    simp only [State.bench, hpath, hout, hwork, hserved, hport]

end

end

end

end Finishes

end Sys2Proof.Machine

/-! ## SEGMENT_FINISH, by what its head segment is -/

namespace Sys2Proof.Machine

section
variable {s : State}

theorem exec_segmentFinish (hp : s.powered = true) : exec .segmentFinish s = .next s.finishSegment := by
  simp only [exec, execSegmentFinish, whenPowered, hp, if_true]

theorem State.finishSegment_of_idle (h : s.work = none) : s.finishSegment = s := by
  simp only [State.finishSegment, h]

/-- What a finish can differ in: channels, messages, tables of showing and notices, and the subtitle port. -/
theorem State.eq_of_steady {t : State} (hsteady : t.steady = s.steady) (hkeys : t.keys = s.keys)
    (hpath : t.path = s.path) (hout : t.returnOut = s.returnOut) (hserved : t.lastServed = s.lastServed)
    (hwork : t.work = none) : t = { s with
      work := none, chanA := t.chanA, chanB := t.chanB, returns := t.returns
      licences := t.licences, log := t.log, nextSeq := t.nextSeq, notices := t.notices
      attn := t.attn, subtitlePort := t.subtitlePort } := by
  cases s
  cases t
  simp only [State.steady, Prod.mk.injEq] at hsteady
  obtain ⟨rfl, rfl, rfl, rfl, rfl, rfl, rfl⟩ := hsteady
  subst hkeys hpath hout hserved hwork
  rfl

end

namespace Finishes

variable {s : State} {w : Work} {g : Segment} {rest : List Segment} {a : AdmissionRecord}
  {comp : Composition} (h : Finishes s w g rest a comp)

theorem placed_bench (s : State) (w : Work) (a : AdmissionRecord) (comp : Composition) (g : Segment) :
    (s.placed w a comp g).path = s.path ∧ (s.placed w a comp g).returnOut = s.returnOut ∧
      (s.placed w a comp g).work = none ∧ (s.placed w a comp g).lastServed = s.lastServed := by
  have hof (port : List PortEvent)
      (h : (s.placed w a comp g).bench = { s with work := none, subtitlePort := port }.bench) :
      (s.placed w a comp g).path = s.path ∧ (s.placed w a comp g).returnOut = s.returnOut ∧
        (s.placed w a comp g).work = none ∧ (s.placed w a comp g).lastServed = s.lastServed := by
    simp only [State.bench, Prod.mk.injEq] at h
    obtain ⟨hpath, hout, hwork, hserved, -⟩ := h
    exact ⟨hpath, hout, hwork, hserved⟩
  cases hg : g.isFragment with
  | true => exact hof _ (placed_of_fragment s w a comp hg).2
  | false =>
    cases hp : g.unpacked w.key with
    | good plain => exact hof _ (placed_subs_of_good s w a comp hg hp).2.1
    | bad cause => exact hof _ (placed_subs_of_bad s w a comp hg hp).2

/-- The sound block length of R62 after the closure. -/
theorem closed_blockLength (s : State) (w : Work) (a : AdmissionRecord) (comp : Composition) (g : Segment) :
    ((s.chan w.channel).closeBefore comp a.ident g).blockLength comp =
      (s.chan w.channel).config.sampleRate / comp.frameRate.toNat * comp.sourceChannels.toNat * 3 := by
  have hconfig : ((s.chan w.channel).closeBefore comp a.ident g).config = (s.chan w.channel).config :=
    (congrArg Channel.config (closed_kept s w a comp g) :)
  rw [Channel.blockLength, hconfig]
  rfl

include h in
/-- The other channel is untouched. -/
theorem finish_other : s.finishSegment.chan w.channel.other = s.chan w.channel.other := by
  rw [h.finish_eq]
  exact (State.chan_other_of_beside (State.unpack_beside ..)).trans (freed_chan s _)

/-! ### The head segment leaves the queue -/

section
variable (hl : staysAtHead ((s.chan w.channel).closeBefore comp a.ident g) comp g = false)
include h hl

/-- Nothing else of the machine differs. -/
theorem leaves_rest : s.finishSegment.work = none ∧ s.finishSegment = { s with
    work := none, chanA := s.finishSegment.chanA, chanB := s.finishSegment.chanB
    returns := s.finishSegment.returns, licences := s.finishSegment.licences
    log := s.finishSegment.log, nextSeq := s.finishSegment.nextSeq
    notices := s.finishSegment.notices, attn := s.finishSegment.attn
    subtitlePort := s.finishSegment.subtitlePort } := by
  have hbench := h.leaves_bench hl
  obtain ⟨hpath, hout, hwork, hserved⟩ := placed_bench s w a comp g
  simp only [State.bench, Prod.mk.injEq, hpath, hout, hwork, hserved] at hbench
  obtain ⟨hpath, hout, hwork, hserved, -⟩ := hbench
  exact ⟨hwork, State.eq_of_steady s.finishSegment_steady s.finishSegment_keys hpath hout hserved hwork⟩

theorem leaves_port {port : List PortEvent}
    (hp : (s.placed w a comp g).bench = { s with work := none, subtitlePort := port }.bench) :
    s.finishSegment.subtitlePort = port :=
  congrArg (·.2.2.2.2) ((h.leaves_bench hl).trans hp)

theorem leaves_completed : completed s w a comp g = (g.isFragment && comp.isLastFrame g.reel g.frame &&
    !((s.finishSegment.chan w.channel).fillingFrame.any (fun f => f.pos = g.position))) := by
  rw [h.leaves_fillingFrame hl]
  rfl

theorem leaves_readied : readied s w a comp g =
    decide ((s.chan w.channel).readyCount < (s.finishSegment.chan w.channel).readyCount) := by
  rw [h.leaves_readyCount hl]
  rfl

/-! #### Fragments -/

section
variable (hg : g.isFragment = true)
include hg

theorem leaves_fragment_subs : (s.finishSegment.chan w.channel).subs = (s.chan w.channel).subs ∧
    s.finishSegment.subtitlePort = s.subtitlePort := by
  obtain ⟨hchan, hbench⟩ := placed_of_fragment s w a comp hg
  obtain ⟨-, -, hsubs, -⟩ := h.leaves_slots hl
  refine ⟨?_, h.leaves_port hl hbench⟩
  rw [hsubs, hchan, Channel.taken_subs]
  exact (congrArg Channel.subs (closed_kept s w a comp g) :)

/-- The counts of the finish are those of the placed fragment. -/
theorem leaves_fragment_counts : (s.finishSegment.chan w.channel).assembly.counts =
    (((s.chan w.channel).closeBefore comp a.ident g).taken comp a.ident g
      (g.unpacked w.key)).assembly.counts := by
  obtain ⟨-, -, -, hcounts⟩ := h.leaves_slots hl
  rw [hcounts, (placed_of_fragment s w a comp hg).1]

/-- A fragment is taken for its part of the frame in assembly (R63). -/
theorem leaves_fragment_slots : (s.finishSegment.chan w.channel).slots =
    ((((s.chan w.channel).closeBefore comp a.ident g).openFrame comp a.ident g).modFilling
      (fun f => f.takeFragment g ((s.chan w.channel).config.sampleRate / comp.frameRate.toNat *
        comp.sourceChannels.toNat * 3) (g.unpacked w.key))).slots := by
  obtain ⟨hslots, -, -, -⟩ := h.leaves_slots hl
  rw [hslots, (placed_of_fragment s w a comp hg).1, Channel.taken_slots, closed_blockLength]

theorem leaves_fragment_take : (s.finishSegment.chan w.channel).take =
    (((s.chan w.channel).closeBefore comp a.ident g).openFrame comp a.ident g).take := by
  obtain ⟨-, htake, -, -⟩ := h.leaves_slots hl
  rw [htake, (placed_of_fragment s w a comp hg).1, Channel.taken_take]

theorem leaves_fragment_missing : (s.finishSegment.chan w.channel).assembly.counts.missing =
    if g.kind = .sound ∧ ((s.chan w.channel).closeBefore comp a.ident g).hasSlot g = false then
      min 65535 (((s.chan w.channel).closeBefore comp a.ident g).assembly.counts.missing + 1)
    else ((s.chan w.channel).closeBefore comp a.ident g).assembly.counts.missing := by
  rw [h.leaves_fragment_counts hl hg, Channel.taken_missing]
  rfl

/-- The cursor moves to a fragment's key, unless the fetch is complete (R59). -/
theorem leaves_fragment_cursor (hlast : comp.isLastFrame g.reel g.frame = false) :
    (s.finishSegment.chan w.channel).assembly.cursor = g.key := by
  have hno : completed s w a comp g = false := by
    simp [completed, completesFetch, hlast]
  obtain ⟨-, -, -, -, -, hcursor⟩ := h.leaves_without_admission hl (.inl hno)
  rw [hcursor, (placed_of_fragment s w a comp hg).1, Channel.taken_cursor]

theorem leaves_unusable (hp : g.unpacked w.key = .bad .keyUnusable) :
    (s.finishSegment.chan w.channel).assembly.counts.keyUnusable =
        min 65535 ((s.chan w.channel).assembly.counts.keyUnusable + 1) ∧
      s.finishSegment.pends .frameDamaged (some w.channel) := by
  have hkept : ((s.chan w.channel).closeBefore comp a.ident g).assembly.counts.keyUnusable =
      (s.chan w.channel).assembly.counts.keyUnusable :=
    (congrArg (·.assembly.counts.keyUnusable) (closed_kept s w a comp g) :)
  refine ⟨?_, h.leaves_pends hl (by decide) ?_⟩
  · rw [h.leaves_fragment_counts hl hg, (Channel.taken_payload ..).1, hp, UnpackCounts.withPayload_eq,
      if_pos rfl, hkept]
    rfl
  · exact (placed_pends_unusable s w a comp hg hp).settleHead w.channel h.placed_head _ _

theorem leaves_check (hp : g.unpacked w.key = .bad .check) :
    (s.finishSegment.chan w.channel).assembly.counts.check =
      min 65535 ((s.chan w.channel).assembly.counts.check + 1) := by
  have hkept : ((s.chan w.channel).closeBefore comp a.ident g).assembly.counts.check =
      (s.chan w.channel).assembly.counts.check :=
    (congrArg (·.assembly.counts.check) (closed_kept s w a comp g) :)
  rw [h.leaves_fragment_counts hl hg, (Channel.taken_payload ..).2, hp, UnpackCounts.withPayload_eq]
  simp only [if_true, hkept]
  rfl

/-- The gain of a fragment to ASSEMBLY (R64). -/
theorem leaves_assembly {f : Frame} {p q : Part} 
    (hmem : Slot.filling f ∈ (((s.chan w.channel).closeBefore comp a.ident g).openFrame comp a.ident g).slots)
    (hone : ∀ f', Slot.filling f' ∈
      (((s.chan w.channel).closeBefore comp a.ident g).openFrame comp a.ident g).slots → f' = f)
    (hparts : if g.kind = .sound then
        f.sound = some p ∧ (f.takeFragment g ((s.chan w.channel).config.sampleRate /
          comp.frameRate.toNat * comp.sourceChannels.toNat * 3) (g.unpacked w.key)).sound = some q
      else p = f.picture ∧ q = (f.takeFragment g 0 (g.unpacked w.key)).picture) :
    (s.finishSegment.chan w.channel).assembly.counts.assembly =
      min 65535 ((s.chan w.channel).assembly.counts.assembly +
        if p.damage = none ∧ (q.damage = some .fragment ∨ q.damage = some .length) then 1 else 0) := by
  have hkept : ((s.chan w.channel).closeBefore comp a.ident g).assembly.counts.assembly =
      (s.chan w.channel).assembly.counts.assembly :=
    (congrArg (·.assembly.counts.assembly) (closed_kept s w a comp g) :)
  rw [← closed_blockLength s w a comp g] at hparts
  rw [h.leaves_fragment_counts hl hg, Channel.taken_assembly _ _ _ _ _ hmem hone,
    Frame.assemblyGain_of_parts _ _ hparts, assemblyGain_eq, hkept]
  rfl

end

/-! #### Prologue segments -/

section
variable (hg : g.isFragment = false)
include hg

/-- A prologue segment completes no fetch (R66). -/
theorem leaves_prologue : (s.finishSegment.chan w.channel).assembly.cursor = g.key ∧
    s.finishSegment.returns = addCredit w.channel g.blocks s.returns := by
  have hno : completed s w a comp g = false := by
    simp [completed, completesFetch, hg]
  obtain ⟨-, -, -, hreturns, -, hcursor⟩ := h.leaves_without_admission hl (.inl hno)
  exact ⟨hcursor.trans (placed_cursor s w a comp hg), hreturns⟩

theorem leaves_bad_prologue {cause : DamageCause} (hp : g.unpacked w.key = .bad cause) :
    (s.finishSegment.chan w.channel).subs = (s.chan w.channel).subs ∧
      s.finishSegment.subtitlePort = s.subtitlePort := by
  obtain ⟨hsubs, hbench⟩ := placed_subs_of_bad s w a comp hg hp
  obtain ⟨-, -, hkept, -⟩ := h.leaves_slots hl
  exact ⟨hkept.trans hsubs, h.leaves_port hl hbench⟩

theorem leaves_good_prologue {plain : List Byte} (hp : g.unpacked w.key = .good plain) :
    (s.finishSegment.chan w.channel).subs = ((s.chan w.channel).subs.handed comp g plain).subs ∧
      s.finishSegment.subtitlePort =
        s.subtitlePort ++ ((s.chan w.channel).subs.handed comp g plain).events ∧
      (((s.chan w.channel).subs.handed comp g plain).drops ≠ [] →
        s.finishSegment.pends .cueDropped (some w.channel)) := by
  obtain ⟨hsubs, hbench, hdrops⟩ := placed_subs_of_good s w a comp hg hp
  obtain ⟨-, -, hkept, -⟩ := h.leaves_slots hl
  exact ⟨hkept.trans hsubs, h.leaves_port hl hbench, fun hd =>
    h.leaves_pends hl (by decide) ((hdrops hd).settleHead w.channel h.placed_head _ _)⟩

end

end

/-! ### The head segment stays -/

section
variable (hl : staysAtHead ((s.chan w.channel).closeBefore comp a.ident g) comp g = true)
include h hl

theorem stays_eq : s.finishSegment =
    if (s.chan w.channel).readyCount < ((s.chan w.channel).closeBefore comp a.ident g).readyCount then
      (State.modChan { s with work := none } w.channel
        (fun c => c.closeBefore comp a.ident g)).judgePriming w.channel false
    else State.modChan { s with work := none } w.channel (fun c => c.closeBefore comp a.ident g) := by
  rw [h.finish_eq]
  simp only [State.unpack, closed_chan, freed_chan, hl, if_true]

theorem stays_chan {c : Channel} (hc : c = (s.chan w.channel).closeBefore comp a.ident g) :
    s.finishSegment.chan w.channel = { c with
      state := if c.state = .cueing ∧ (s.chan w.channel).readyCount < c.readyCount ∧
        c.config.priming ≤ c.readyCount then .primed else c.state } := by
  rw [h.stays_eq hl, ← hc]
  split
  · rename_i hready
    rw [State.judgePriming_chan, closed_chan, ← hc]
    simp [Channel.primes, hready]
  · rename_i hready
    rw [closed_chan, ← hc]
    simp [hready]

theorem stays_rest : s.finishSegment.work = none ∧ s.finishSegment.returns = s.returns ∧
    s.finishSegment.licences = s.licences ∧ s.finishSegment.log = s.log ∧
    s.finishSegment.subtitlePort = s.subtitlePort := by
  rw [h.stays_eq hl]
  split
  · obtain ⟨hbench, hreturns⟩ := (State.modChan { s with work := none } w.channel
      (fun c => c.closeBefore comp a.ident g)).judgePriming_ports w.channel false
    rw [State.modChan_bench] at hbench
    exact ⟨congrArg (·.2.2.1) hbench, hreturns.trans (State.modChan_returns ..), by simp, by simp,
      congrArg (·.2.2.2.2) hbench⟩
  · simp

end

end Finishes

end Sys2Proof.Machine

/-! ## The statement on SEGMENT_FINISH -/

namespace Sys2Proof.Machine

theorem Channel.closeFilling_take (c : Channel) (comp : Composition) (g : Segment) :
    (c.closeFilling comp g).take = c.take := by
  cases h : c.fillingFrame with
  | none => rw [Channel.closeFilling_of_none h]
  | some f => rw [Channel.closeFilling_of_some h]

theorem missingGain_eq (p : Part) : missingGain p = if p.closed = false ∧ p.damage = none then 1 else 0 := by
  simp [missingGain]

/-- What step 1 adds to MISSING for the sound part of a frame (R57, R64). -/
theorem Frame.skippedGain_of_sound {f : Frame} {p : Part} (h : f.sound = some p) (g : Segment) :
    f.skippedGain g = missingGain f.picture +
      if p.closed = false ∧ p.damage = none ∧ ¬(g.kind = .sound ∧ f.pos = g.position) then 1 else 0 := by
  simp only [Frame.skippedGain, h, missingGain_eq]
  by_cases hown : g.kind = .sound ∧ f.pos = g.position
  · simp [hown]
  · simp only [Bool.and_eq_true, decide_eq_true_eq, hown, not_false_eq_true, and_true, if_false]

theorem Frame.skippedGain_of_silent {f : Frame} (h : f.sound = none) (g : Segment) :
    f.skippedGain g = missingGain f.picture := by
  simp only [Frame.skippedGain, h, Nat.add_zero]

/-- A gain and then as many single raises of a count of R64. -/
theorem bump16_then_add (m gain n : Nat) :
    (if n = 0 then bump16 m gain else min 65535 (bump16 m gain + n)) = min 65535 (m + n + gain) := by
  unfold bump16
  split <;> omega

/-- Settles O55: `Finishes` gives what a finish does by what becomes of its head segment,
`Channel.closeSkippedFrames_run` the frames closed one by one, and the rules of `Part.take` the parts. -/
theorem finishedSegmentsReturnTheirCredit : Obligations.FinishedSegmentsReturnTheirCredit := by
  refine ⟨fun s hp => ?_, fun c comp record g closed hclosed => ⟨fun hbelow => ?_, fun hbelow => ?_⟩,
    fun p index count limit exact => ⟨fun cause payload h => ?_, fun h => ⟨fun cause => ?_,
      fun plain => ⟨fun hbad => ?_, fun hi hic hc hfixed hnext => ⟨fun hlong => ?_, fun hfits hlt => ?_,
        fun hfits hlast => ?_⟩⟩⟩⟩⟩
  · rw [exec_segmentFinish hp]
    refine ⟨fun hw => congrArg _ (State.finishSegment_of_idle hw),
      fun w g rest a comp hw hq hpass hr hcomp hl => ?_, fun w g rest a comp c hw hq hpass hr hcomp hc hl => ?_⟩
    · have h : Finishes s w g rest a comp := ⟨hw, hq, hpass, hr, hcomp⟩
      obtain ⟨hwork, hrest⟩ := h.leaves_rest hl
      obtain ⟨hqueue, hgranted⟩ := h.leaves_credit hl
      refine ⟨_, Finishes.readied s w a comp g, Finishes.completed s w a comp g, rfl, hwork,
        h.leaves_readied hl, h.leaves_completed hl, h.leaves_state hl, h.leaves_primed hl, fun hno => ?_,
        fun hc hone => ⟨h.leaves_at_end hl hc hone, fun i after href hi ha =>
          ⟨fun st hj => h.leaves_with_refusal hl hc hone href hi ha hj,
            fun lic hj => h.leaves_with_next hl hc hone href hi ha hj⟩⟩,
        hqueue, hgranted, h.leaves_returns hl, h.leaves_fragment_subs hl, fun hg => ?_, fun hg => ?_,
        h.finish_other, s.finishSegment_keys, hrest⟩
      · obtain ⟨hrecords, hlog, hlicences, hreturns, hcomplete, -⟩ := h.leaves_without_admission hl hno
        exact ⟨hrecords, hlog, hlicences, hreturns, hcomplete⟩
      · obtain ⟨hcursor, hreturns⟩ := h.leaves_prologue hl hg
        refine ⟨hcursor, hreturns, fun cause => h.leaves_bad_prologue hl hg, fun plain handed hgood hh => ?_⟩
        subst hh
        exact h.leaves_good_prologue hl hg hgood
      · refine ⟨_, _, (((s.chan w.channel).closeBefore comp a.ident g).openFrame comp a.ident g).slots,
          rfl, rfl, ?_, h.leaves_fragment_slots hl hg, h.leaves_fragment_cursor hl hg,
          h.leaves_unusable hl hg, h.leaves_check hl hg, h.leaves_fragment_missing hl hg,
          fun f p q => h.leaves_assembly hl hg⟩
        rw [h.leaves_fragment_take hl hg]
        split
        · rename_i hslot
          rw [Channel.openFrame_of_slot comp a.ident hslot]
          exact ⟨rfl, rfl⟩
        · rename_i hslot
          rw [Channel.openFrame_of_new comp a.ident (Bool.eq_false_iff.mpr hslot)]
          simp only [openedFrame, Composition.hasSound, decide_eq_true_eq, and_true]
          rfl
    · have h : Finishes s w g rest a comp := ⟨hw, hq, hpass, hr, hcomp⟩
      subst hc
      obtain ⟨hwork, hreturns, hlicences, hlog, hport⟩ := h.stays_rest hl
      exact ⟨_, rfl, hwork, hreturns, h.stays_chan hl rfl, hlicences, hlog, hport, h.finish_other⟩
  · exact Channel.closeBefore_of_not_below hbelow comp record
  · obtain rfl : closed = fun f => f.closeSkipped g := funext hclosed
    obtain ⟨n, run, hrun, hend, heq⟩ :=
      (c.closeFilling comp g).closeSkippedFrames_run comp g.item record g.key 97
    have hsettled := hrun.settled (c.closeFilling_settled comp g)
    refine ⟨n, fun j => (run j).slots, fun j => (run j).assembly.cursor,
      fun j => (nextSkipped comp (run j).assembly.cursor g.key).getD (0, 0), ?_, ?_, fun j hj => ?_, ?_, ?_⟩
    · simp only [hrun.start, Channel.closeFilling_slots]
      rfl
    · simp only [hrun.start]
      cases hf : c.fillingFrame with
      | none => rw [Channel.closeFilling_of_none hf]
      | some f => rw [Channel.closeFilling_of_some hf]
    · obtain ⟨p, hp, hfree, hnext⟩ := hrun.next j hj
      have hslots := Channel.closeWhole_slots_of_settled (hsettled j hj.le) comp g.item record p
      have htake := hrun.take j hj.le
      rw [Channel.closeFilling_take] at htake
      refine ⟨by simp [hp], hfree, ?_, ?_⟩
      · simp only [hnext, hslots, htake, hp, Option.getD_some, missingFrame, Composition.hasSound,
          decide_eq_true_eq]
      · simp only [hnext, hp, Option.getD_some]
        rfl
    · exact hend.imp_right (Or.imp_right fun h => by omega)
    · have hcloses := (c.closeFilling_closes comp g).trans (hrun.closes n le_rfl)
      rw [Channel.closeBefore_of_below hbelow, heq]
      refine Eq.trans hcloses ?_
      rw [hrun.take n le_rfl, hrun.missing n le_rfl, Channel.closeFilling_take]
      cases hf : c.fillingFrame with
      | none =>
        rw [Channel.closeFilling_of_none hf]
        simp
      | some f =>
        rw [Channel.closeFilling_of_some hf]
        cases hs : f.sound with
        | none =>
          simp only [Frame.skippedGain_of_silent hs, hs, bump16_then_add, missingGain_eq, reduceCtorEq,
            and_false, if_false, Nat.add_zero]
        | some p =>
          simp only [Frame.skippedGain_of_sound hs, hs, bump16_then_add, missingGain_eq, reduceCtorEq,
            and_false, if_false]
  · exact Part.take_of_damaged h payload
  · exact Part.take_of_fault h (.inl rfl)
  · exact Part.take_of_fault h (.inr ⟨plain, rfl, fragmentFault_eq_fragment hbad⟩)
  · refine (Part.take_of_fault h (.inr ⟨plain, rfl, ?_⟩)).1
    rw [fragmentFault_of_next hi hic hc hfixed hnext, if_pos hlong]
  · refine Part.take_of_inner h ?_ hfixed hlt
    rw [fragmentFault_of_next hi hic hc hfixed hnext, if_neg (Nat.not_lt.mpr hfits)]
  · refine Part.take_of_last h ?_ hfixed hlast
    rw [fragmentFault_of_next hi hic hc hfixed hnext, if_neg (Nat.not_lt.mpr hfits)]

end Sys2Proof.Machine

/-! ## The key choice and the content cipher (R58 to R60) -/

namespace Sys2Proof.Machine

theorem Licence.usable_iff (l : Licence) :
    l.usable = true ↔ l.state ∈ [.opened, .closing, .revoking] := by
  simp [Licence.usable, or_assoc]

/-- The middle row of R58's table: the only finding that gives a material. -/
theorem keyChoice_eq_material_iff {s : State} {licence : Option Nat} {id : Id64} {m : Material} :
    keyChoice s licence id = .material m ↔
      id ≠ 0 ∧ ∃ k l, s.findKey id = some k ∧ licence = some k.owner ∧ s.licence k.owner = some l ∧
        l.usable = true ∧ k.material = m := by
  unfold keyChoice
  by_cases hid : id = 0
  · simp [hid]
  · rw [if_neg hid, and_iff_right hid]
    cases hk : s.findKey id with
    | none => simp
    | some k =>
      cases hl : s.licence k.owner with
      | none => simp [hl]
      | some l => simp [hl, ite_eq_iff, and_assoc]

/-- The chain of R11 that R58 walks from the fetching record to the reel's key id. -/
theorem State.chooseKey_eq_material_iff {s : State} {ch : ChannelId} {g : Segment} {m : Material} :
    s.chooseKey ch g = .material m ↔
      ∃ a comp reel, (s.chan ch).fetchingRecord = some a ∧ s.composition a.slot = some comp ∧
        comp.reels[g.reel]? = some reel ∧ keyChoice s a.licence (reelKey reel g.kind) = .material m := by
  unfold State.chooseKey
  cases ha : (s.chan ch).fetchingRecord with
  | none => simp
  | some a =>
    cases hcomp : s.composition a.slot with
    | none => simp [hcomp]
    | some comp => cases hreel : comp.reels[g.reel]? <;> simp [hcomp, hreel]

theorem decrypt_length (m : Material) (payload : List Byte) :
    (decrypt m payload).length = payload.length := by
  simp [decrypt]

/-- `decrypt` at a length that is only provably the payload's. -/
theorem decrypt_of_length {m : Material} {payload : List Byte} {n : Nat} (h : payload.length = n) :
    decrypt m payload =
      List.ofFn ((Config.contentCipher m n).symm fun i => payload.get (i.cast h.symm)) := by
  subst h
  rfl

/-- R60: decryption inverts the content cipher at every length. -/
theorem decrypt_ofFn (m : Material) {n : Nat} (f : Fin n → Byte) :
    decrypt m (List.ofFn f) = List.ofFn ((Config.contentCipher m n).symm f) := by
  have hbytes : (fun i : Fin n => (List.ofFn f).get (i.cast List.length_ofFn.symm)) = f := by
    funext i
    simp
  rw [decrypt_of_length List.length_ofFn, hbytes]

/-- The CRC-32 check of R60, on the plaintext of either path. -/
theorem checked_eq_good_iff {bytes plain : List Byte} {crc : BitVec 32} :
    (if crc32 bytes = crc then Payload.good bytes else .bad .check) = .good plain ↔
      crc32 bytes = crc ∧ bytes = plain := by
  simp [ite_eq_iff]

/-- R60: a usable payload has passed the check, and neither the plain path nor decryption changes its
length. -/
theorem Segment.unpacked_good {g : Segment} {key : KeyChoice} {plain : List Byte}
    (h : g.unpacked key = .good plain) : crc32 plain = g.crc ∧ plain.length = g.payload.length := by
  cases key with
  | unusable => cases h
  | plain =>
    obtain ⟨hcrc, rfl⟩ := checked_eq_good_iff.mp h
    exact ⟨hcrc, rfl⟩
  | material m =>
    obtain ⟨hcrc, rfl⟩ := checked_eq_good_iff.mp h
    exact ⟨hcrc, decrypt_length m g.payload⟩

/-- Settles O56: the chain of R11 and the middle row of R58's table for the key, and the content cipher
as a permutation for the payload. -/
theorem keysServeOnlyTheirAdmittedLicence : Obligations.KeysServeOnlyTheirAdmittedLicence := by
  refine ⟨fun s ch g m h => ?_, fun g key plain => Segment.unpacked_good, fun m plain => ?_⟩
  · obtain ⟨a, comp, reel, ha, hcomp, hreel, hkey⟩ := State.chooseKey_eq_material_iff.mp h
    obtain ⟨-, k, l, hfind, howner, hl, husable, hm⟩ := keyChoice_eq_material_iff.mp hkey
    exact ⟨a, comp, reel, k.owner, l, k, ha, hcomp, hreel, howner, hl, l.usable_iff.mp husable, hfind,
      rfl, hm⟩
  · rw [decrypt_ofFn, Equiv.symm_apply_apply, List.ofFn_get]

end Sys2Proof.Machine

/-! ## What the licence laws read

`State.books` is what the laws of file 05 speak of. One lemma per operation that leaves it alone, in the order
of the model. -/

namespace Sys2Proof.Machine

/-- A channel's admission records and the name of its next one (R93). -/
def Channel.roll (c : Channel) : List AdmissionRecord × Nat := (c.records, c.nextIdent)

/-- Main power, the booth clock, the licence table and both channels' admission records. -/
def State.books (s : State) :
    Bool × BoothClock × List (Option Licence) × (List AdmissionRecord × Nat) ×
      (List AdmissionRecord × Nat) :=
  (s.powered, s.clock, s.licences, s.chanA.roll, s.chanB.roll)

theorem State.books_eq_iff {s t : State} : t.books = s.books ↔
    t.powered = s.powered ∧ t.clock = s.clock ∧ t.licences = s.licences ∧
      ∀ ch, (t.chan ch).roll = (s.chan ch).roll := by
  simp only [State.books, Prod.mk.injEq]
  refine and_congr_right fun _ => and_congr_right fun _ => and_congr_right fun _ =>
    ⟨fun ⟨ha, hb⟩ ch => ?_, fun h => ⟨h .a, h .b⟩⟩
  cases ch
  · exact ha
  · exact hb

theorem State.books_of_steady {s t : State} (h : t.steady = s.steady) (hl : t.licences = s.licences)
    (hch : ∀ ch, t.chan ch = s.chan ch) : t.books = s.books :=
  State.books_eq_iff.mpr ⟨State.powered_of_steady h, State.clock_of_steady h, hl,
    fun ch => congrArg Channel.roll (hch ch)⟩

theorem State.licence_of_licences {s t : State} (h : t.licences = s.licences) (i : Nat) :
    t.licence i = s.licence i := by
  simp only [State.licence, h]

theorem State.licence_of_books {s t : State} (h : t.books = s.books) (i : Nat) :
    t.licence i = s.licence i := by
  obtain ⟨-, -, hl, -⟩ := State.books_eq_iff.mp h
  exact State.licence_of_licences hl i

/-- A change of one channel that keeps its roll. -/
theorem State.modChan_books (s : State) {ch : ChannelId} {f : Channel → Channel}
    (h : (f (s.chan ch)).roll = (s.chan ch).roll) : (s.modChan ch f).books = s.books := by
  refine State.books_eq_iff.mpr ⟨by simp, by simp, by simp, fun c => ?_⟩
  rw [State.chan_modChan]
  split
  · subst c; exact h
  · rfl

section
variable (s : State) (ch : ChannelId)

@[simp] theorem State.raise_books (k : NoticeKind) (c : Option ChannelId) (d : NoticeDetail) :
    (s.raise k c d).books = s.books := rfl
@[simp] theorem State.refreshLogLow_books : s.refreshLogLow.books = s.books := rfl
@[simp] theorem State.refreshClockUnset_books : s.refreshClockUnset.books = s.books := rfl
@[simp] theorem State.sendReturn_books (m : ReturnMessage) : (s.sendReturn m).books = s.books := rfl
@[simp] theorem State.modLink_books (f : CommandLink → CommandLink) : (s.modLink f).books = s.books := rfl
@[simp] theorem State.setPath_books (p : ForwardPath) : (s.setPath p).books = s.books := rfl
@[simp] theorem State.modLog_books (q : Option Nat) (f : LogRecord → LogRecord) :
    (s.modLog q f).books = s.books := State.books_of_steady (by simp) (by simp) (by simp)
@[simp] theorem State.putSubs_books (x : SubsResult) : (s.putSubs ch x).books = s.books := by
  have hplaced : (s.modChan ch (fun c => { c with subs := x.subs })).books = s.books :=
    s.modChan_books rfl
  exact (State.books_of_steady (by simp) (by simp) (State.raiseDrops_chan _ ch x.drops)).trans hplaced

/-! ### Ingest port (file 03) -/

@[simp] theorem State.arrive_books (g : Segment) : (s.arrive ch g).books = s.books := by
  have hcounted : (s.modChan ch (fun c => { c with stale := min 65535 (c.stale + 1) })).books = s.books :=
    s.modChan_books rfl
  simp only [State.arrive, State.arriveStale]
  split
  · split
    · exact hcounted
    · exact hcounted
  · split
    · rfl
    · exact s.modChan_books rfl

@[simp] theorem State.finishHead_books : (s.finishHead ch).books = s.books := by
  unfold State.finishHead
  split
  · rfl
  · exact s.modChan_books rfl

@[simp] theorem State.abandonWork_books : (s.abandonWork ch).books = s.books :=
  State.books_of_steady (by simp) (by simp) (by simp)

@[simp] theorem State.raiseEpoch_books : (s.raiseEpoch ch).books = s.books := by
  have hemptied : ((s.abandonWork ch).modChan ch (fun c =>
      { c with epoch := c.epoch + 1, queue := [],
               granted := c.granted + blocksHeld (s.chan ch).queue })).books = s.books :=
    (State.modChan_books _ rfl).trans (s.abandonWork_books ch)
  simp only [State.raiseEpoch]
  split
  · exact hemptied
  · exact hemptied

@[simp] theorem State.restartIngest_books : (s.restartIngest ch).books = s.books :=
  (State.modChan_books _ rfl).trans (s.abandonWork_books ch)

/-! ### Admission (file 06) -/

@[simp] theorem State.beginFetch_books (r : AdmissionRecord) (reel : Nat) :
    (s.beginFetch ch r reel).books = s.books := State.modChan_books _ rfl

@[simp] theorem State.fetchNewest_books (reel : Nat) : (s.fetchNewest ch reel).books = s.books := by
  unfold State.fetchNewest
  split
  · exact s.beginFetch_books ch _ reel
  · rfl

@[simp] theorem State.reportNoNext_books : (s.reportNoNext ch).books = s.books := s.modChan_books rfl

@[simp] theorem State.refuseNext_books (item : Nat) (st : Status) :
    (s.refuseNext ch item st).books = s.books := s.modChan_books rfl

/-! ### Unpacker (file 04) -/

theorem Channel.closeFilling_roll (c : Channel) (comp : Composition) (g : Segment) :
    (c.closeFilling comp g).roll = c.roll := by
  unfold Channel.closeFilling
  split
  · rfl
  · dsimp only
    split <;> rfl

theorem Channel.closeSkippedFrames_roll (c : Channel) (comp : Composition) (item record : Nat)
    (key : Cursor) (n : Nat) : (c.closeSkippedFrames comp item record key n).roll = c.roll := by
  induction n generalizing c with
  | zero => rfl
  | succ n ih =>
    unfold Channel.closeSkippedFrames
    split
    · rfl
    · split
      · rfl
      · exact ih _

theorem Channel.closeBefore_roll (c : Channel) (comp : Composition) (record : Nat) (g : Segment) :
    (c.closeBefore comp record g).roll = c.roll := by
  unfold Channel.closeBefore
  split
  · exact (Channel.closeSkippedFrames_roll ..).trans (c.closeFilling_roll comp g)
  · rfl

theorem Channel.placeFragment_roll (c : Channel) (comp : Composition) (record : Nat) (g : Segment)
    (p : Payload) : (c.placeFragment comp record g p).roll = c.roll := by
  have hopened : (c.openFrame comp record g).roll = c.roll := by
    simp only [Channel.openFrame]
    (repeat' split) <;> rfl
  exact hopened

@[simp] theorem State.discardOrder_books : (s.discardOrder ch).books = s.books :=
  (State.finishHead_books _ ch).trans (s.modChan_books rfl)

@[simp] theorem State.serve_books : (s.serve ch).books = s.books := by
  simp only [State.serve]
  split
  · rfl
  · split
    · rfl
    · exact State.discardOrder_books _ ch

@[simp] theorem State.placePrologue_books (comp : Composition) (g : Segment) (p : Payload) :
    (s.placePrologue ch comp g p).books = s.books := by
  have hmoved : (s.modChan ch (fun c => c.setCursor g.key)).books = s.books := s.modChan_books rfl
  simp only [State.placePrologue, State.handOff]
  (repeat' split) <;> simp [hmoved]

@[simp] theorem State.raiseUnusable_books (g : Segment) (p : Payload) :
    (s.raiseUnusable ch g p).books = s.books := State.books_of_steady (by simp) (by simp) (by simp)

@[simp] theorem State.placeSegment_books (comp : Composition) (record : Nat) (g : Segment) (p : Payload) :
    (s.placeSegment ch comp record g p).books = s.books := by
  have hcounted : ((s.modChan ch (fun c => c.modCounts (·.withPayload p))).raiseUnusable ch g p).books =
      s.books := (State.raiseUnusable_books ..).trans (s.modChan_books rfl)
  simp only [State.placeSegment]
  split
  · exact (State.modChan_books _ (Channel.placeFragment_roll ..)).trans hcounted
  · exact (State.placePrologue_books ..).trans hcounted

@[simp] theorem State.judgePriming_books (completed : Bool) :
    (s.judgePriming ch completed).books = s.books := by
  simp only [State.judgePriming]
  split
  · exact s.modChan_books rfl
  · rfl

@[simp] theorem State.reportComplete_books : (s.reportComplete ch).books = s.books := s.modChan_books rfl

/-! ### Deadlines, edges and jumps (files 02, 07 to 09) -/

@[simp] theorem State.keepPeriod_books : (s.keepPeriod ch).books = s.books := s.modChan_books rfl

@[simp] theorem State.pausedDeadline_books : (s.pausedDeadline ch).books = s.books :=
  (State.modChan_books _ rfl).trans (s.keepPeriod_books ch)

@[simp] theorem State.suspendedDeadline_books : (s.suspendedDeadline ch).books = s.books :=
  (State.modChan_books _ rfl).trans (s.keepPeriod_books ch)

@[simp] theorem State.suspend_books : (s.suspend ch).books = s.books := by
  simp only [State.suspend, State.raise_books, State.putSubs_books]
  exact (State.modChan_books _ rfl).trans (s.keepPeriod_books ch)

@[simp] theorem State.endShow_books : (s.endShow ch).books = s.books := by
  simp only [State.endShow, State.raise_books, State.putSubs_books]
  exact s.modChan_books rfl

@[simp] theorem State.raiseDamage_books (f : Frame) : (s.raiseDamage ch f).books = s.books :=
  State.books_of_steady (by simp) (by simp) (by simp)

theorem Channel.showPicture_roll (c : Channel) (f : Frame) : (c.showPicture f).roll = c.roll := by
  unfold Channel.showPicture
  (repeat' split) <;> rfl

theorem Channel.giveSound_roll (c : Channel) (f : Frame) (channels : Nat) (target knownEnd : Bool) :
    (c.giveSound f channels target knownEnd).roll = c.roll := by
  unfold Channel.giveSound
  (repeat' split) <;> rfl

@[simp] theorem State.jumpFlush_books (n : Nat) : (s.jumpFlush ch n).books = s.books :=
  (State.raiseEpoch_books _ ch).trans (s.modChan_books rfl)

end

end Sys2Proof.Machine

/-! ## The licence table under the operations (R73 to R75, R91)

What each operation makes of one licence, said once. -/

namespace Sys2Proof.Machine

section
variable (s : State)

theorem State.licence_eq_some_iff {s : State} {i : Nat} {l : Licence} :
    s.licence i = some l ↔ s.licences[i]? = some (some l) := by
  simp [State.licence, Option.join_eq_some_iff]

theorem State.lt_of_licence {s : State} {i : Nat} {l : Licence} (h : s.licence i = some l) :
    i < s.licences.length :=
  (List.getElem?_eq_some_iff.mp (State.licence_eq_some_iff.mp h)).1

/-- A licence after a table entry is set (R69). -/
theorem State.licence_set {t : State} {i : Nat} {x : Option Licence} (hi : i < s.licences.length)
    (ht : t.licences = s.licences.set i x) (j : Nat) :
    t.licence j = if j = i then x else s.licence j := by
  simp only [State.licence, ht, List.getElem?_set, eq_comm (a := i)]
  split <;> simp

/-- A licence changed in place is the entry of its slot. -/
theorem State.modLicence_eq_set {s : State} {i : Nat} {l : Licence} (h : s.licence i = some l)
    (f : Licence → Licence) :
    s.modLicence i f = { s with licences := s.licences.set i (some (f l)) } := by
  simp only [State.modLicence, h]

/-! ### Pins (R74, R75) -/

/-- Erasure on the entry into REVOKED (R75). -/
def Licence.revokedNow (l : Licence) : Licence := { l with state := .revoked, keys := [] }

theorem State.revokeNow_eq_set {s : State} {i : Nat} {l : Licence} (h : s.licence i = some l) :
    s.revokeNow i = { s with
      licences := s.licences.set i (some l.revokedNow), keys := eraseKeySlots s.keys l.keys } := by
  simp only [State.revokeNow, h, Licence.revokedNow]

theorem State.licence_revokeNow (i j : Nat) : (s.revokeNow i).licence j =
    if j = i then (s.licence i).map Licence.revokedNow else s.licence j := by
  cases h : s.licence i with
  | none =>
    simp only [State.revokeNow, h, Option.map_none]
    split
    · subst j; exact h
    · rfl
  | some l =>
    rw [State.revokeNow_eq_set h]
    exact s.licence_set (State.lt_of_licence h) rfl j

/-- What the last unpin makes of a licence (R75). -/
def Licence.lastUnpinned (l : Licence) : Licence :=
  match l.state with
  | .closing => { l with state := .closed }
  | .revoking => l.revokedNow
  | _ => l

theorem State.licence_lastUnpin (i j : Nat) : (s.lastUnpin i).licence j =
    if j = i then (s.licence i).map Licence.lastUnpinned else s.licence j := by
  have hsame : s.licence j = if j = i then s.licence i else s.licence j := by
    split
    · subst j; rfl
    · rfl
  cases h : s.licence i with
  | none => simpa [State.lastUnpin, h] using hsame
  | some l =>
    cases hst : l.state with
    | closing => simp [State.lastUnpin, h, hst, State.licence_modLicence, Licence.lastUnpinned]
    | revoking => simp [State.lastUnpin, h, hst, State.licence_revokeNow, Licence.lastUnpinned]
    | loaded | opened | closed | revoked =>
      simpa [State.lastUnpin, h, hst, Licence.lastUnpinned] using hsame

/-- A licence with one pin less (R74, R75). -/
def Licence.unpinned (l : Licence) : Licence :=
  if l.pins - 1 = 0 then { l with pins := l.pins - 1 }.lastUnpinned else { l with pins := l.pins - 1 }

theorem State.licence_unpin (i j : Nat) : (s.unpin i).licence j =
    if j = i then (s.licence i).map Licence.unpinned else s.licence j := by
  have hfewer := s.licence_modLicence i j (fun l => { l with pins := l.pins - 1 })
  cases h : s.licence i with
  | none => simp [State.unpin, State.licence_modLicence, h]
  | some l =>
    simp only [State.unpin, State.licence_modLicence, h, if_true, Option.map_some, Licence.unpinned]
    split
    · simp only [State.licence_lastUnpin, State.licence_modLicence, h, if_true, Option.map_some]
      split
      · rfl
      · rfl
    · simpa [h] using hfewer

/-! ### Records (R93, R100, R103, R105) -/

/-- A licence after a record that names it has left: its reservation is released when the record held one,
and it has one pin less (R74). -/
def Licence.left (l : Licence) (held : Bool) : Licence :=
  if held then l.release.unpinned else l.unpinned

theorem State.licence_releaseReservation (r : AdmissionRecord) (j : Nat) :
    (s.releaseReservation r).licence j =
      if r.licence = some j ∧ r.holdsReservation = true then (s.licence j).map Licence.release
      else s.licence j := by
  unfold State.releaseReservation
  split
  · rename_i i hi
    split
    · rename_i hheld
      simp only [State.licence_modLicence, hi, hheld, Option.some.injEq, and_true, eq_comm (a := i)]
      split
      · subst j; rfl
      · rfl
    · simp [*]
  · simp [*]

/-- A record that leaves its list touches its own licence alone. -/
theorem State.licence_dropRecord (ch : ChannelId) (r : AdmissionRecord) (j : Nat) :
    (s.dropRecord ch r).licence j =
      if r.licence = some j then (s.licence j).map (fun l => l.left r.holdsReservation)
      else s.licence j := by
  simp only [State.dropRecord, State.licence_of_licences (State.modChan_licences _ ch _)]
  cases hi : r.licence with
  | none => simp [State.licence_releaseReservation, hi]
  | some i =>
    simp only [State.licence_unpin, State.licence_releaseReservation, hi, Option.some.injEq, true_and,
      eq_comm (a := i)]
    by_cases hj : j = i
    · subst hj
      cases hheld : r.holdsReservation <;> cases s.licence j <;> simp [Licence.left]
    · simp [hj]

/-! ### Windows (R73) -/

theorem foldl_raise_licences (l : List (Nat × Id64)) (t : State) :
    (l.foldl (fun st x => st.raise .licenceClosing none (.licenceClosing x.1 x.2)) t).licences =
      t.licences :=
  State.foldl_field (·.licences) _ (fun _ _ => by simp) l t

/-- Every licence is judged on its own, while the clock is SET. -/
theorem State.licence_evaluateWindows (i : Nat) : s.evaluateWindows.licence i =
    if s.clock.set then (s.licence i).map (fun l => l.evaluated s.clock.time) else s.licence i := by
  unfold State.evaluateWindows
  split
  · rw [State.licence_of_licences (foldl_raise_licences _ _)]
    simp only [State.licence, List.getElem?_map]
    cases s.licences[i]? <;> rfl
  · rfl

end

end Sys2Proof.Machine

/-! ## What commands do to the books of licences and records (R72 to R75, R91 to R105)

`BookInvariant` gathers the few ways by which a command changes `State.books`: a turn of the licence table by a
request or the clock, a record enrolled, counted, charged, made unchargeable or dropped. A law that these keep is
kept by every command on a part with main power. -/

namespace Sys2Proof.Machine

/-- What the laws read of an admission record (R74, R93). -/
def AdmissionRecord.claim (r : AdmissionRecord) : Nat × Option Nat × Bool × Bool :=
  (r.ident, r.licence, r.charged, r.chargeable)

/-- A record of a channel stands as `r` does. -/
def State.Claims (s : State) (ch : ChannelId) (r : AdmissionRecord) : Prop :=
  ∃ x ∈ (s.chan ch).records, x.claim = r.claim

/-- What a request or the clock may make of a licence (R72, R73, R80, R84, R85). -/
structure Licence.Turns (l l' : Licence) : Prop where
  id_eq : l'.id = l.id
  charged_eq : l'.charged = l.charged
  reserved_eq : l'.reserved = l.reserved
  pins_eq : l'.pins = l.pins
  cap : l.charged + l.reserved ≤ l.cap → l'.charged + l'.reserved ≤ l'.cap
  final : l.state.final = true → l'.state.final = true
  revoked : (l.state = .revoked → l.keys = []) → l'.state = .revoked → l'.keys = []
  unpinned : l'.state.unpinned = true → l.state.unpinned = true ∨ l.pins = 0

/-- What requests on licences and the clock may make of the books: the records stay, licences turn, and only
licences in a state without pins are deleted (R82). -/
structure State.Turns (s t : State) : Prop where
  powered : t.powered = s.powered
  roll : ∀ ch, (t.chan ch).roll = (s.chan ch).roll
  account : s.clock.used ≤ 300 → t.clock.used ≤ 300
  licence : ∀ i l', t.licence i = some l' → ∃ l, s.licence i = some l ∧ l.Turns l'
  deleted : ∀ i l, s.licence i = some l → t.licence i = none → l.state.unpinned = true

/-- A licence that an admission may name: OPEN, with a showing left within its cap (R96). -/
def State.Admits (s : State) (licence : Option Nat) : Prop :=
  ∀ i, licence = some i → ∃ l, s.licence i = some l ∧ l.state = .opened ∧ l.charged + l.reserved < l.cap

/-- A record enters its channel's list, with a reservation and a pin on the licence it names (R98). -/
def State.enrol (s : State) (ch : ChannelId) (r : AdmissionRecord) : State :=
  (match r.licence with
    | some i => s.modLicence i Licence.reserveAndPin
    | none => s).modChan ch (fun k =>
      { k with records := k.records ++ [r], nextIdent := k.nextIdent + 1 })

/-- A record's showing is charged to a licence (R102). -/
def State.chargeTo (s : State) (i : Nat) (ch : ChannelId) (r : AdmissionRecord) : State :=
  (s.modLicence i Licence.charge).modRecord ch r.ident (fun x => { x with charged := true })

/-- A law of the books that every way of changing them keeps. `strict` says whether the law includes that of
the records' names, without which the record at hand need not be in its list. -/
structure BookInvariant (strict : Prop) (P : State → Prop) : Prop where
  of_books : ∀ {s t : State}, P s → t.books = s.books → P t
  names : strict → ∀ {s : State}, P s → ∀ ch, (s.chan ch).namesLaw
  turn : ∀ {s t : State}, P s → s.Turns t → P t
  enrol : ∀ {s : State} (ch : ChannelId) (r : AdmissionRecord), P s → s.Admits r.licence →
    r.ident = (s.chan ch).nextIdent → r.chargeable = true → r.charged = false → P (s.enrol ch r)
  drop : ∀ {s : State} (ch : ChannelId) (r : AdmissionRecord), P s → (strict → s.Claims ch r) →
    P (s.dropRecord ch r)
  uncharge : ∀ {s : State} (ch : ChannelId) (r : AdmissionRecord), P s → (strict → s.Claims ch r) →
    P (s.uncharge ch r)
  count : ∀ {s : State} (ch : ChannelId) (n : Nat) (f : AdmissionRecord → AdmissionRecord), P s →
    (∀ r, (f r).claim = r.claim) → P (s.modRecord ch n f)
  charge : ∀ {s : State} (ch : ChannelId) (r : AdmissionRecord) (i : Nat), P s →
    (strict → s.Claims ch r) → r.licence = some i → r.chargeable = true → r.charged = false →
    P (s.chargeTo i ch r)

/-! ### Claims and admissions -/

theorem State.Claims.of_mem {s : State} {ch : ChannelId} {r : AdmissionRecord}
    (h : r ∈ (s.chan ch).records) : s.Claims ch r := ⟨r, h, rfl⟩

theorem State.Claims.of_records {s t : State} {ch : ChannelId} {r : AdmissionRecord} (h : s.Claims ch r)
    (ht : (t.chan ch).records = (s.chan ch).records) : t.Claims ch r := by
  unfold State.Claims
  rwa [ht]

theorem State.records_of_books {s t : State} (h : t.books = s.books) (ch : ChannelId) :
    (t.chan ch).records = (s.chan ch).records := by
  obtain ⟨-, -, -, hroll⟩ := State.books_eq_iff.mp h
  exact congrArg Prod.fst (hroll ch)

theorem State.Claims.of_books {s t : State} {ch : ChannelId} {r : AdmissionRecord} (h : s.Claims ch r)
    (ht : t.books = s.books) : t.Claims ch r := h.of_records (State.records_of_books ht ch)

/-- A change of records that keeps what the laws read keeps every claim. -/
theorem State.Claims.modRecord {s : State} {ch : ChannelId} {r : AdmissionRecord} (h : s.Claims ch r)
    (n : Nat) {f : AdmissionRecord → AdmissionRecord} (hf : ∀ r, (f r).claim = r.claim) :
    (s.modRecord ch n f).Claims ch r := by
  obtain ⟨x, hx, hclaim⟩ := h
  refine ⟨if x.ident = n then f x else x, ?_, ?_⟩
  · simpa [State.modRecord] using ⟨x, hx, rfl⟩
  · split
    · exact (hf x).trans hclaim
    · exact hclaim

/-- A record of another name keeps its claim when one is dropped. -/
theorem State.Claims.removeRecord {s t : State} {ch : ChannelId} {r q : AdmissionRecord}
    (h : s.Claims ch r) (hq : r.ident ≠ q.ident)
    (ht : t.chan ch = (s.chan ch).removeRecord q.ident) : t.Claims ch r := by
  obtain ⟨x, hx, hclaim⟩ := h
  have hident : x.ident = r.ident := congrArg Prod.fst hclaim
  exact ⟨x, by simpa [ht, Channel.removeRecord, hident] using ⟨hx, hq⟩, hclaim⟩

theorem Channel.record_eq_some {c : Channel} {n : Nat} {r : AdmissionRecord} (h : c.record n = some r) :
    r ∈ c.records ∧ r.ident = n :=
  ⟨List.mem_of_find?_eq_some h, by simpa using List.find?_some h⟩

theorem State.Admits.of_licence {s t : State} {licence : Option Nat} (h : s.Admits licence)
    (ht : ∀ i, t.licence i = s.licence i) : t.Admits licence := by
  intro i hi
  obtain ⟨l, hl, hgood⟩ := h i hi
  exact ⟨l, (ht i).trans hl, hgood⟩

theorem licenceCheck_eq_none {s : State} {l : Licence} (h : licenceCheck s l = none) :
    l.state = .opened ∧ l.charged + l.reserved < l.cap := by
  unfold licenceCheck at h
  split at h
  · cases h
  · rename_i hopen
    split at h
    · cases h
    · simp only [Bool.or_eq_true, decide_eq_true_eq, not_or, not_not] at hopen
      exact ⟨hopen.1, by omega⟩

theorem admits_of_keyedCheck {s : State} {c : Composition} {reel : Nat} {licence : Option Nat}
    (h : keyedCheck s c reel = .ok licence) : s.Admits licence := by
  rintro i rfl
  unfold keyedCheck at h
  dsimp only at h
  iterate 2 (split at h; · cases h)
  split at h
  · cases h
  · split at h
    · cases h
    · rename_i l hl
      split at h
      · cases h
      · split at h
        · cases h
        · cases h
          exact ⟨l, hl, licenceCheck_eq_none ‹_›⟩

/-- A judgment that names a licence found it OPEN and with a showing left (R96, checks 5 and 6). -/
theorem admits_of_judgeAdmission {s : State} {c : Composition} {reel : Nat} {licence : Option Nat}
    (h : judgeAdmission s c reel = .ok licence) : s.Admits licence := by
  unfold judgeAdmission at h
  split at h
  · cases h
  · split at h
    · exact admits_of_keyedCheck h
    · cases h
      nofun

/-- The end of a record leaves an OPEN licence OPEN, with no less of its cap left (R74, R75). -/
theorem State.Admits.dropRecord {s : State} {licence : Option Nat} (h : s.Admits licence)
    (ch : ChannelId) (r : AdmissionRecord) : (s.dropRecord ch r).Admits licence := by
  intro i hi
  obtain ⟨l, hl, hopen, hcap⟩ := h i hi
  rw [State.licence_dropRecord, hl]
  split
  · refine ⟨l.left r.holdsReservation, rfl, ?_⟩
    simp only [Licence.left, Licence.unpinned, Licence.lastUnpinned, Licence.release, hopen]
    grind
  · exact ⟨l, rfl, hopen, hcap⟩

end Sys2Proof.Machine

/-! ### The showing counter and the log (file 06)

`hP.X` says that operation `X` keeps the law. -/

namespace Sys2Proof.Machine

theorem State.modLicence_books_congr {s t : State} (h : t.books = s.books) (i : Nat)
    (f : Licence → Licence) : (t.modLicence i f).books = (s.modLicence i f).books := by
  have hlicence := State.licence_of_books h i
  obtain ⟨hpowered, hclock, hlicences, hroll⟩ := State.books_eq_iff.mp h
  refine State.books_eq_iff.mpr ⟨by simpa, by simpa, ?_, by simpa⟩
  unfold State.modLicence
  rw [hlicence]
  split
  · simp [hlicences]
  · exact hlicences

theorem State.modChan_books_congr {s t : State} (h : t.books = s.books) (ch : ChannelId)
    {f : Channel → Channel} (hf : ∀ c d, c.roll = d.roll → (f c).roll = (f d).roll) :
    (t.modChan ch f).books = (s.modChan ch f).books := by
  obtain ⟨hpowered, hclock, hlicences, hroll⟩ := State.books_eq_iff.mp h
  refine State.books_eq_iff.mpr ⟨by simpa, by simpa, by simpa, fun c => ?_⟩
  rw [State.chan_modChan, State.chan_modChan]
  split
  · exact hf _ _ (hroll ch)
  · exact hroll c

/-- Of an admission the books get the record alone (R98). -/
theorem State.openAdmission_books (s : State) (ch : ChannelId) (c : Composition) (item slot reel : Nat)
    (licence : Option Nat) : (s.openAdmission ch c item slot reel licence).books =
      (s.enrol ch (freshRecord s ch c item slot reel licence)).books := by
  have hlogged : (if needsLog c reel then s.takeLog (freshLogRecord s ch c reel licence) else s).books =
      s.books := by split <;> rfl
  refine State.modChan_books_congr ?_ ch ?_
  · cases licence with
    | none => exact hlogged
    | some i => exact State.modLicence_books_congr hlogged i _
  · intro c d h
    simp only [Channel.roll, Prod.mk.injEq] at h ⊢
    exact ⟨by rw [h.1], by rw [h.2]⟩

/-- The counts of a record are not in the books (R101). -/
theorem State.writeCounts_books (s : State) (ch : ChannelId) (r : AdmissionRecord) (a b c : Nat) :
    ∃ f : AdmissionRecord → AdmissionRecord, (∀ x, (f x).claim = x.claim) ∧
      (s.writeCounts ch r a b c).books = (s.modRecord ch r.ident f).books :=
  ⟨fun x => { x with presented := a, held := b, damaged := c }, fun _ => rfl, State.modLog_books ..⟩

namespace BookInvariant

variable {strict : Prop} {P : State → Prop} (hP : BookInvariant strict P) {s : State} {ch : ChannelId}
include hP

theorem closeRecord {r : AdmissionRecord} (hs : P s) (hr : strict → s.Claims ch r) (o : LogOutcome) :
    P (s.closeRecord ch r o) :=
  hP.drop ch r (hP.of_books hs (s.modLog_books ..)) fun h => (hr h).of_books (s.modLog_books ..)

theorem discardRecord {r : AdmissionRecord} (hs : P s) (hr : strict → s.Claims ch r) :
    P (s.discardRecord ch r) := by
  unfold State.discardRecord
  split
  · refine hP.drop ch r (hP.of_books hs rfl) fun h => (hr h).of_books rfl
  · exact hP.drop ch r hs hr

theorem endRecord {r : AdmissionRecord} (hs : P s) (hr : strict → s.Claims ch r) (o : LogOutcome) :
    P (s.endRecord ch o r) := by
  unfold State.endRecord
  split
  · exact hP.discardRecord hs hr
  · exact hP.closeRecord hs hr o

omit hP in
/-- Records of distinct names ended one after another. -/
theorem foldl_end {op : State → AdmissionRecord → State}
    (hop : ∀ {s r}, P s → (strict → s.Claims ch r) → P (op s r))
    (hchan : ∀ s r, (op s r).chan ch = (s.chan ch).removeRecord r.ident) (l : List AdmissionRecord)
    (hs : P s) (hl : strict → (l.map (·.ident)).Nodup ∧ ∀ r ∈ l, s.Claims ch r) :
    P (l.foldl op s) := by
  induction l generalizing s with
  | nil => exact hs
  | cons r rest ih =>
    refine ih (hop hs fun h => (hl h).2 r (by simp)) fun h => ?_
    obtain ⟨hnodup, hclaims⟩ := hl h
    rw [List.map_cons, List.nodup_cons] at hnodup
    obtain ⟨hfresh, hnodup⟩ := hnodup
    refine ⟨hnodup, fun q hq => (hclaims q (by simp [hq])).removeRecord (fun he => hfresh ?_) (hchan s r)⟩
    exact he ▸ List.mem_map_of_mem hq

theorem admitAndFetch {licence : Option Nat} (hs : P s) (hl : s.Admits licence) (c : Composition)
    (item slot reel : Nat) : P (s.admitAndFetch ch c item slot reel licence) :=
  hP.of_books (hP.enrol ch (freshRecord s ch c item slot reel licence) hs hl rfl rfl rfl)
    ((State.fetchNewest_books ..).trans (s.openAdmission_books ..))

theorem nextItemOccasion (hs : P s) : P (s.nextItemOccasion ch) := by
  have hquiet : P (s.reportNoNext ch) := hP.of_books hs (s.reportNoNext_books ch)
  simp only [State.nextItemOccasion]
  split
  · split
    · simp only [State.admitNext]
      iterate 3 (split; · exact hquiet)
      split
      · exact hP.of_books hs (s.refuseNext_books ..)
      · exact hP.admitAndFetch hs (admits_of_judgeAdmission ‹_›) ..
    · exact hs
  · exact hs

theorem writeCounts (hs : P s) (r : AdmissionRecord) (a b c : Nat) : P (s.writeCounts ch r a b c) := by
  obtain ⟨f, hf, hbooks⟩ := s.writeCounts_books ch r a b c
  exact hP.of_books (hP.count ch r.ident f hs hf) hbooks

theorem reachCountPoint {r : AdmissionRecord} (hs : P s) (hr : strict → s.Claims ch r)
    (hc : r.chargeable = true) : P (s.reachCountPoint ch r) := by
  have hlogged {t : State} (ht : P t) : P ((t.modLog r.logSeq (fun g =>
      { g with counted := some s.clock.time })).raise .showCounted (some ch)
      (.showCounted r.item (r.logSeq.getD 0) r.licence)) :=
    hP.of_books ht (t.modLog_books ..)
  simp only [State.reachCountPoint]
  refine hlogged ?_
  split
  · split
    · exact hs
    · exact hP.charge ch r _ hs hr ‹_› hc (Bool.eq_false_iff.mpr ‹_›)
  · exact hs

theorem countPresentation (hs : P s) (n : Nat) (damaged : Bool) :
    P (s.countPresentation ch n damaged) := by
  simp only [State.countPresentation]
  split
  · exact hs
  · rename_i r hr
    obtain ⟨hmem, -⟩ := Channel.record_eq_some hr
    have hcounts := hP.writeCounts (ch := ch) hs r (bump32 r.presented) r.held
      (if damaged then bump32 r.damaged else r.damaged)
    have hclaims : (s.writeCounts ch r (bump32 r.presented) r.held
        (if damaged then bump32 r.damaged else r.damaged)).Claims ch r := by
      obtain ⟨f, hf, hbooks⟩ := s.writeCounts_books ch r (bump32 r.presented) r.held
        (if damaged then bump32 r.damaged else r.damaged)
      exact ((State.Claims.of_mem hmem).modRecord r.ident hf).of_books hbooks
    split
    · rename_i hreached
      refine hP.reachCountPoint ?_ (fun _ => ?_) (by simp_all)
      · split
        · exact hP.of_books hcounts (State.modLog_books ..)
        · exact hcounts
      · split
        · exact hclaims.of_books (State.modLog_books ..)
        · exact hclaims
    · split
      · exact hP.of_books hcounts (State.modLog_books ..)
      · exact hcounts

theorem countHeld (hs : P s) : P (s.countHeld ch) := by
  unfold State.countHeld
  split
  · exact hs
  · exact hP.writeCounts hs ..

/-! ### Unpacker, deadlines and edges (files 02, 04, 07, 09) -/

theorem afterPlacement (hs : P s) (completed readied : Bool) :
    P (s.afterPlacement ch completed readied) := by
  have hreturned : P (s.finishHead ch) := hP.of_books hs (s.finishHead_books ch)
  simp only [State.afterPlacement]
  split
  · refine hP.nextItemOccasion (hP.of_books hreturned ?_)
    split <;> simp
  · refine hP.of_books hreturned ?_
    split <;> simp [*]

theorem unpack (hs : P s) (comp : Composition) (record : Nat) (key : KeyChoice) (g : Segment) :
    P (s.unpack ch comp record key g) := by
  have hclosed : P (s.modChan ch (fun c => c.closeBefore comp record g)) :=
    hP.of_books hs (s.modChan_books (Channel.closeBefore_roll ..))
  simp only [State.unpack]
  split
  · split
    · exact hP.of_books hclosed (State.judgePriming_books ..)
    · exact hclosed
  · exact hP.afterPlacement (hP.of_books hclosed (State.placeSegment_books ..)) ..

theorem finishSegment (hs : P s) : P s.finishSegment := by
  have hfreed : P { s with work := none } := hP.of_books hs rfl
  have hdiscard (c : ChannelId) : P (State.discardOrder { s with work := none } c) :=
    hP.of_books hfreed (State.discardOrder_books ..)
  simp only [State.finishSegment]
  split
  · exact hs
  · split
    · exact hfreed
    · split
      · exact hdiscard _
      · split
        · exact hP.unpack hfreed ..
        · exact hdiscard _

theorem closeAtFrame (hs : P s) (f : Frame) (lastFrame committed knownEnd : Bool) :
    P (s.closeAtFrame ch f lastFrame committed knownEnd) := by
  simp only [State.closeAtFrame]
  split
  · exact hs
  · rename_i r hr
    have hclaims : strict → s.Claims ch r := fun _ => .of_mem (Channel.record_eq_some hr).1
    split
    · exact hP.nextItemOccasion (hP.closeRecord hs hclaims _)
    · split
      · exact hP.nextItemOccasion (hP.closeRecord hs hclaims _)
      · exact hs

theorem present (hs : P s) (f : Frame) (target committed knownEnd : Bool) :
    P (s.present ch f target committed knownEnd) := by
  simp only [State.present]
  split
  · exact hs
  · rename_i comp _
    have houtputs : P (s.modChan ch (fun c =>
        ((c.presentSlot f).showPicture f).giveSound f comp.sourceChannels.toNat target knownEnd)) :=
      hP.of_books hs (s.modChan_books ((Channel.giveSound_roll ..).trans (Channel.showPicture_roll ..)))
    refine hP.closeAtFrame (hP.countPresentation (hP.of_books houtputs ?_) _ _) f _ _ _
    rw [State.raiseDamage_books]
    exact (State.modChan_books _ rfl).trans (State.putSubs_books ..)

theorem presentNext (hs : P s) (f : Frame) : P (s.presentNext ch f) :=
  hP.present (hP.of_books hs (s.modChan_books rfl)) f _ _ _

theorem heldDeadline (hs : P s) : P (s.heldDeadline ch) :=
  hP.countHeld (hP.of_books hs (s.pausedDeadline_books ch))

theorem underrun (hs : P s) : P (s.underrun ch) := by
  have hstalled : P ((s.raise .underrun (some ch) (.underrun (s.chan ch).reportedPosition
      (s.awaited ch))).modChan ch (fun c => { c with stallCount := 1, state := .holding })) :=
    hP.of_books hs (State.modChan_books _ rfl)
  simp only [State.underrun]
  split
  · exact hP.of_books hstalled (State.suspend_books ..)
  · exact hP.heldDeadline hstalled

theorem holdOn (hs : P s) : P (s.holdOn ch) := by
  have hstalled : P (s.modChan ch (fun c => { c with stallCount := min 250 (c.stallCount + 1) })) :=
    hP.of_books hs (s.modChan_books rfl)
  simp only [State.holdOn]
  split
  · exact hP.of_books hstalled (State.suspend_books ..)
  · exact hP.heldDeadline hstalled

theorem playingDeadline (hs : P s) (presented : Bool) : P (s.playingDeadline ch presented) := by
  have hpaused : P (s.modChan ch (fun c => { c with state := .paused })) :=
    hP.of_books hs (s.modChan_books rfl)
  simp only [State.playingDeadline]
  split
  · exact hP.of_books hpaused (State.pausedDeadline_books ..)
  · split
    · exact hP.of_books hs (s.endShow_books ch)
    · split
      · exact hP.presentNext hs _
      · exact hP.underrun hs

theorem holdingDeadline (hs : P s) : P (s.holdingDeadline ch) := by
  simp only [State.holdingDeadline]
  split
  · split
    · exact hP.presentNext (hP.of_books hs (s.modChan_books rfl)) _
    · exact hP.holdOn hs
  · exact hP.holdOn hs

theorem deadlineEdge (hs : P s) : P (s.deadlineEdge ch) := by
  have hfreed : P (s.freePresenting ch) := hP.of_books hs (s.modChan_books rfl)
  refine hP.of_books (s := s.deadline ch) ?_ (State.modChan_books _ rfl)
  simp only [State.deadline]
  split
  · exact hP.playingDeadline hfreed _
  · exact hP.of_books hfreed (State.pausedDeadline_books ..)
  · exact hP.holdingDeadline hfreed
  · exact hP.of_books hfreed (State.suspendedDeadline_books ..)
  all_goals exact hs

theorem reachDeadline (hs : P s) : P (s.reachDeadline ch) := by
  unfold State.reachDeadline
  split
  · exact hs
  · exact hP.deadlineEdge hs
  · exact hP.deadlineEdge (hP.of_books hs (s.modChan_books rfl))

theorem sampleEdge (hs : P s) : P (s.sampleEdge ch) := by
  have hplain {f : Channel → Channel} (h : (f (s.chan ch)).roll = (s.chan ch).roll) : P (s.modChan ch f) :=
    hP.of_books hs (s.modChan_books h)
  simp only [State.sampleEdge]
  split
  · exact hplain rfl
  · exact hP.deadlineEdge hs
  · split
    · exact hP.deadlineEdge hs
    · exact hplain rfl

/-! ### CUE, STOP and JUMP (R117, R129, R134 to R138) -/

theorem cue {licence : Option Nat} (hs : P s) (hl : s.Admits licence) (comp : Composition)
    (item slot reel : Nat) : P (s.cue ch comp item slot reel licence) := by
  have hbooks : ((s.modChan ch (fun c => c.fullFlush)).restartIngest ch).books = s.books :=
    (State.restartIngest_books ..).trans (s.modChan_books rfl)
  exact hP.of_books (hP.admitAndFetch (hP.of_books hs hbooks)
    (hl.of_licence (State.licence_of_books hbooks)) comp item slot reel) (State.modChan_books _ rfl)

theorem stop (hs : P s) : P (s.stop ch) := by
  have hended : P ((s.chan ch).records.foldl
      (fun st r => st.endRecord ch (s.chan ch).state.stopOutcome r) s) := by
    refine foldl_end (fun ht hr => hP.endRecord ht hr _) (fun t r => t.endRecord_chan ch _ r) _ hs ?_
    exact fun h => ⟨(hP.names h hs ch).1, fun r hr => .of_mem hr⟩
  refine hP.of_books hended ?_
  simp only [State.stop, State.raise_books, State.putSubs_books]
  refine (State.modChan_books _ rfl).trans ?_
  simp

/-- The fetching record goes, the presenting record keeps its claim (R137, R138). -/
theorem discardFetching (hs : P s) : P (s.discardFetching ch) ∧
    (strict → ∀ r, (s.chan ch).presenting = some r → (s.discardFetching ch).Claims ch r) := by
  have hnodup (h : strict) := (hP.names h hs ch).1
  constructor
  · refine foldl_end (fun ht hr => hP.discardRecord ht hr) (fun t r => t.discardRecord_chan ch r) _ hs
      fun h => ⟨?_, fun r hr => .of_mem (List.mem_of_mem_tail hr)⟩
    rw [List.map_tail]
    exact (hnodup h).tail
  · intro h r hr
    obtain ⟨-, hrecords⟩ := foldl_removeRecord (fun t q => t.discardRecord_chan ch q)
      (s.chan ch).records.tail s
    refine ⟨r, ?_, rfl⟩
    unfold State.discardFetching
    rw [hrecords]
    obtain ⟨rest, hrest⟩ : ∃ rest, (s.chan ch).records = r :: rest := by
      simpa [Channel.presenting, List.head?_eq_some_iff] using hr
    have hfresh := hnodup h
    rw [hrest, List.map_cons, List.nodup_cons] at hfresh
    simp only [hrest, List.tail_cons, List.mem_filter, List.mem_cons, true_or, true_and,
      List.all_eq_true, decide_eq_true_eq]
    exact fun q hq he => hfresh.1 (he ▸ List.mem_map_of_mem hq)

theorem jumpReleases (hs : P s) (n : Nat) : P (s.jumpReleases ch n) := by
  obtain ⟨hdiscarded, hclaims⟩ := hP.discardFetching (ch := ch) hs
  simp only [State.jumpReleases]
  split
  · exact hdiscarded
  · rename_i r hr
    have hfreed := hP.uncharge ch r hdiscarded fun h => hclaims h r hr
    split
    · refine hP.discardRecord hfreed fun h => ?_
      obtain ⟨x, hx, hclaim⟩ := hclaims h r hr
      simp only [AdmissionRecord.claim, Prod.mk.injEq] at hclaim
      obtain ⟨hident, hlicence, hcharged, -⟩ := hclaim
      refine ⟨{ x with chargeable := false }, ?_, by simp [AdmissionRecord.claim, *]⟩
      simpa [State.uncharge, State.modRecord] using ⟨x, hx, by simp [hident]⟩
    · exact hfreed

theorem closeLeft (hs : P s) (n : Nat) : P (s.closeLeft ch n) := by
  unfold State.closeLeft
  split
  · split
    · exact hP.closeRecord hs (fun _ => .of_mem (List.mem_of_mem_head? ‹_›)) _
    · exact hs
  · exact hs


end BookInvariant

end Sys2Proof.Machine

/-! ### Requests on licences and on the clock (R80 to R88) -/

namespace Sys2Proof.Machine

theorem Licence.Turns.refl (l : Licence) : l.Turns l := ⟨rfl, rfl, rfl, rfl, fun h => h, fun h => h, fun h => h, .inl⟩

theorem Licence.Turns.revokedNow {l : Licence} (h : l.state.unpinned = true ∨ l.pins = 0) :
    l.Turns l.revokedNow := ⟨rfl, rfl, rfl, rfl, fun h => h, fun _ => rfl, fun _ _ => rfl, fun _ => h⟩

theorem Licence.Turns.revoking {l : Licence} (h : l.state.final = false) :
    l.Turns { l with state := .revoking } :=
  ⟨rfl, rfl, rfl, rfl, fun h => h, fun hf => by simp [h] at hf, nofun, nofun⟩

theorem Licence.evaluated_turns (l : Licence) (now : Nat) : l.Turns (l.evaluated now) := by
  unfold Licence.evaluated
  split
  · rename_i hst
    have hloaded (st : LicenceState) (hst' : st ≠ .revoked) : l.Turns { l with state := st } :=
      ⟨rfl, rfl, rfl, rfl, fun h => h, by simp [hst, LicenceState.final], fun _ h => absurd h hst',
        fun _ => .inl (by simp [hst, LicenceState.unpinned])⟩
    split
    · exact hloaded _ nofun
    · split
      · exact hloaded _ nofun
      · exact .refl l
  · rename_i hst
    have hopened (st : LicenceState) (hst' : st ≠ .revoked) (h : st.unpinned = true → l.pins = 0) :
        l.Turns { l with state := st } :=
      ⟨rfl, rfl, rfl, rfl, fun h => h, by simp [hst, LicenceState.final], fun _ h => absurd h hst', .inr ∘ h⟩
    split
    · split
      · exact hopened _ nofun fun _ => ‹_›
      · exact hopened _ nofun nofun
    · exact .refl l
  · exact .refl l

namespace State.Turns

variable {s t : State}

theorem of_clock {c : BoothClock} (h : s.clock.used ≤ 300 → c.used ≤ 300) :
    s.Turns { s with clock := c } where
  powered := rfl
  roll ch := by cases ch <;> rfl
  account := h
  licence _ l hl := ⟨l, hl, .refl l⟩
  deleted _ l hl hn := by cases hl.symm.trans hn

theorem evaluateWindows (s : State) : s.Turns s.evaluateWindows where
  powered := State.powered_of_steady s.evaluateWindows_steady
  roll ch := congrArg Channel.roll (s.evaluateWindows_chan ch)
  account h := State.clock_of_steady s.evaluateWindows_steady ▸ h
  licence i l' h := by
    rw [State.licence_evaluateWindows] at h
    split at h
    · obtain ⟨l, hl, rfl⟩ := Option.map_eq_some_iff.mp h
      exact ⟨l, hl, l.evaluated_turns _⟩
    · exact ⟨l', h, .refl l'⟩
  deleted i l hl hn := by
    rw [State.licence_evaluateWindows, hl] at hn
    split at hn <;> cases hn

/-- One licence of the table turns, or one without pins is deleted. -/
theorem of_set {i : Nat} {l : Licence} {x : Option Licence} (hl : s.licence i = some l)
    (hx : ∀ l', x = some l' → l.Turns l') (hnone : x = none → l.state.unpinned = true)
    (ht : t.books = { s with licences := s.licences.set i x }.books) : s.Turns t := by
  obtain ⟨hpowered, hclock, hlicences, hroll⟩ := State.books_eq_iff.mp ht
  have hlicence := s.licence_set (State.lt_of_licence hl) hlicences
  refine ⟨hpowered, fun ch => (hroll ch).trans (by cases ch <;> rfl), fun h => hclock ▸ h,
    fun j l' hj => ?_, fun j l' hj hn => ?_⟩
  · rw [hlicence] at hj
    split at hj
    · subst j
      exact ⟨l, hl, hx l' hj⟩
    · exact ⟨l', hj, .refl l'⟩
  · rw [hlicence] at hn
    split at hn
    · subst j
      obtain rfl : l = l' := by simpa [hl] using hj
      exact hnone hn
    · cases hj.symm.trans hn

theorem modLicence {i : Nat} {l : Licence} {f : Licence → Licence} (hl : s.licence i = some l)
    (h : l.Turns (f l)) : s.Turns (s.modLicence i f) :=
  of_set (x := some (f l)) hl (by rintro l' ⟨⟩; exact h) nofun (by rw [State.modLicence_eq_set hl])

theorem revokeNow {i : Nat} {l : Licence} (hl : s.licence i = some l)
    (h : l.state.unpinned = true ∨ l.pins = 0) : s.Turns (s.revokeNow i) :=
  of_set (x := some l.revokedNow) hl (by rintro l' ⟨⟩; exact .revokedNow h) nofun
    (by rw [State.revokeNow_eq_set hl]; rfl)

end State.Turns

/-- A named licence is in the table, at an index below 64. -/
theorem namedLicence_eq_ok {s : State} {index : Byte} {l : Licence} (h : namedLicence s index = .ok l) :
    index.toNat < 64 ∧ s.licence index.toNat = some l := by
  unfold namedLicence at h
  split at h
  · cases h
  · split at h
    · cases h
    · cases h
      exact ⟨by omega, ‹_›⟩

/-- LOWER-CAP leaves no less than charged plus reserved, and the other operations no less than before (R85). -/
theorem capAfter_keeps_allowance {l : Licence} (h : l.charged + l.reserved ≤ l.cap) (op : Byte)
    (value : Nat) : l.charged + l.reserved ≤ capAfter l op value := by
  unfold capAfter
  dsimp only
  (repeat' split) <;> omega

namespace BookInvariant

variable {strict : Prop} {P : State → Prop} (hP : BookInvariant strict P) {s : State} {ch : ChannelId}
include hP

theorem doRevokeLicence (hs : P s) (index : Byte) : P (doRevokeLicence index s).1 := by
  unfold Machine.doRevokeLicence
  split
  · exact hs
  · rename_i l hnamed
    obtain ⟨-, hl⟩ := namedLicence_eq_ok hnamed
    have hrevoking (h : l.state.final = false) :
        P (s.modLicence index.toNat (fun l => { l with state := .revoking })) :=
      hP.turn hs (.modLicence hl (.revoking h))
    have hrevoked (h : l.state.unpinned = true ∨ l.pins = 0) : P (s.revokeNow index.toNat) :=
      hP.turn hs (.revokeNow hl h)
    dsimp only
    split
    · exact hrevoked (.inl (by simp [*, LicenceState.unpinned]))
    · exact hrevoked (.inl (by simp [*, LicenceState.unpinned]))
    · split
      · exact hrevoked (.inr ‹_›)
      · exact hrevoking (by simp [*, LicenceState.final])
    · exact hrevoking (by simp [*, LicenceState.final])
    · exact hs
    · exact hs

theorem doDeleteLicence (hs : P s) (index : Byte) : P (doDeleteLicence index s).1 := by
  unfold Machine.doDeleteLicence
  split
  · exact hs
  · rename_i l hnamed
    obtain ⟨-, hl⟩ := namedLicence_eq_ok hnamed
    split
    iterate 3 · exact hs
    all_goals exact hP.turn hs (.of_set (x := none) hl nofun (by simp [*, LicenceState.unpinned]) rfl)

theorem doCounterOp (hs : P s) (index op : Byte) (value : Half) : P (doCounterOp index op value s).1 := by
  unfold Machine.doCounterOp
  split
  · exact hs
  · split
    · exact hs
    · rename_i l hl
      have hcap : P (s.modLicence index.toNat (fun k => { k with cap := capAfter l op value.toNat })) :=
        hP.turn hs (.modLicence hl ⟨rfl, rfl, rfl, rfl, (capAfter_keeps_allowance · op _), fun h => h, fun h => h,
          .inl⟩)
      split
      iterate 3 · exact hcap
      all_goals exact hs

theorem evaluateWindows (hs : P s) : P s.evaluateWindows := hP.turn hs (.evaluateWindows s)

theorem clockTick (hs : P s) : P s.clockTick := by
  have hclock : P { s with clock := { s.clock with time := s.clock.time + 1, phase := 0 } } :=
    hP.turn hs (.of_clock id)
  simp only [State.clockTick]
  split
  · split
    · exact hP.evaluateWindows hclock
    · exact hclock
  · exact hs

theorem doSetTime (hs : P s) (t : Word) : P (doSetTime t s).1 := by
  have hclock : P { s with clock := { s.clock with set := true, time := t.toNat, phase := 0 } } :=
    hP.turn hs (.of_clock id)
  unfold Machine.doSetTime
  split
  · exact hs
  · exact hP.of_books (hP.evaluateWindows hclock) rfl

theorem doAdjustTime (hs : P s) (amount : Half) : P (doAdjustTime amount s).1 := by
  unfold Machine.doAdjustTime
  dsimp only
  generalize (if s.clock.startsPeriod then 0 else s.clock.used) = used
  generalize (if s.clock.startsPeriod then s.clock.time else _) = start
  iterate 2 (split; · exact hs)
  split
  · exact hs
  · rename_i hroom
    split
    · exact hs
    · exact hP.evaluateWindows (hP.turn hs (.of_clock fun _ => Nat.le_of_not_lt hroom))

/-! ### All requests -/

theorem jumpAway {t : State} {comp : Composition} {item slot reel n : Nat} (hs : P s)
    (h : s.jumpAway ch comp item slot reel n = .ok t) : P t := by
  have hreleased := hP.jumpReleases (ch := ch) hs n
  simp only [State.jumpAway] at h
  split at h
  · cases h
  · rename_i licence hjudged
    cases h
    have hleft : ((s.jumpReleases ch n).closeLeft ch n).Admits licence := by
      have hadmits := admits_of_judgeAdmission hjudged
      unfold State.closeLeft
      split
      · split
        · exact (hadmits.of_licence (State.licence_of_books (State.modLog_books ..))).dropRecord ch _
        · exact hadmits
      · exact hadmits
    have hflushed := State.jumpFlush_books ((s.jumpReleases ch n).closeLeft ch n) ch n
    exact hP.admitAndFetch (hP.of_books (hP.closeLeft hreleased n) hflushed)
      (hleft.of_licence (State.licence_of_books hflushed)) ..

theorem jump {t : State} {comp : Composition} {slot item reel : Nat} (hs : P s)
    (h : s.jump ch comp slot item reel = .ok t) : P t := by
  have hfinish {u : State} (hu : P u) (n : Nat) : P (u.modChan ch (fun k => k.jumped item reel n)) :=
    hP.of_books hu (u.modChan_books rfl)
  have haway (n : Nat) (hn : (s.jumpAway ch comp item slot reel n).map
      (fun st => st.modChan ch (fun k => k.jumped item reel n)) = .ok t) : P t := by
    cases hj : s.jumpAway ch comp item slot reel n with
    | error st => simp [hj, Except.map] at hn
    | ok u =>
      simp only [hj, Except.map, Except.ok.injEq] at hn
      exact hn ▸ hfinish (hP.jumpAway hs hj) n
  simp only [State.jump] at h
  split at h
  · split at h
    · cases h
      refine hfinish (hP.of_books (hP.discardFetching (ch := ch) hs).1 ?_) _
      exact (State.beginFetch_books ..).trans (State.jumpFlush_books ..)
    · exact haway _ h
  · exact haway _ h

/-- Every request keeps the law. -/
theorem perform (r : Request) (hs : P s) : P (perform r s).1 := by
  cases r with
  | identify | status | softReset | readTime | readLog | readNotices => exact hs
  | readComposition slot => exact hP.of_books hs (congrArg State.books (doReadComposition_fst slot s))
  | loadLicence l => exact hP.of_books hs (congrArg State.books (doLoadLicence_fst l s))
  | readLicence i => exact hP.of_books hs (congrArg State.books (doReadLicence_fst i s))
  | revokeLicence i => exact hP.doRevokeLicence hs i
  | deleteLicence i => exact hP.doDeleteLicence hs i
  | counterOp i op v => exact hP.doCounterOp hs i op v
  | setTime t => exact hP.doSetTime hs t
  | adjustTime d => exact hP.doAdjustTime hs d
  | clearResetCause mask =>
    refine hP.of_books hs ?_
    unfold Machine.perform doClearResetCause
    dsimp only
    split <;> rfl
  | releaseLog n oldest =>
    refine hP.of_books hs ?_
    simp only [Machine.perform, doReleaseLog]
    (repeat' split) <;> rfl
  | clearNotices mode pairs =>
    refine hP.of_books hs ?_
    simp only [Machine.perform, doClearNotices]
    (repeat' split) <;> rfl
  | maskNotices value change =>
    refine hP.of_books hs ?_
    simp only [Machine.perform, doMaskNotices]
    split <;> rfl
  | loadComposition c =>
    obtain h | ⟨i, -, h⟩ := doLoadComposition_cases c s
    · exact hP.of_books hs (congrArg State.books h)
    · exact hP.of_books hs ((congrArg State.books h).trans rfl)
  | dropComposition slot =>
    obtain h | ⟨o, -, -, h⟩ := doDropComposition_cases slot s
    · exact hP.of_books hs (congrArg State.books h)
    · exact hP.of_books hs ((congrArg State.books h).trans rfl)
  | loadShow n items =>
    obtain h | ⟨ch, -, -, h⟩ := doLoadShow_cases n items s
    · exact hP.of_books hs (congrArg State.books h)
    · exact hP.of_books hs ((congrArg State.books h).trans (State.modChan_books _ rfl))
  | clearShow n =>
    obtain h | ⟨ch, -, h⟩ := doClearShow_cases n s
    · exact hP.of_books hs (congrArg State.books h)
    · exact hP.of_books hs ((congrArg State.books h).trans (State.modChan_books _ rfl))
  | channelReport n => exact onChannel_induction (P := P) hs fun _ _ => hs
  | setRoute n lanes =>
    unfold Machine.perform doSetRoute
    dsimp only
    split
    · exact hs
    · refine onChannel_induction (P := P) hs fun ch _ => ?_
      split
      · exact hs
      · exact hP.of_books hs (s.modChan_books rfl)
  | configureChannel =>
    refine onChannel_induction (P := P) hs fun ch _ => ?_
    iterate 2 (split; · exact hs)
    exact hP.of_books hs (s.modChan_books rfl)
  | setTracks | setStyle | setSubtitleOffset =>
    refine onChannel_induction (P := P) hs fun ch _ => ?_
    split
    · exact hs
    · exact hP.of_books hs (s.modChan_books rfl)
  | start | acknowledgeSuspension =>
    refine onChannel_induction (P := P) hs fun ch _ => ?_
    split
    · exact hP.of_books hs (s.modChan_books rfl)
    · exact hs
  | pause =>
    refine onChannel_induction (P := P) hs fun ch _ => ?_
    split
    iterate 2 · exact hP.of_books hs (s.modChan_books rfl)
    · exact hs
  | resume =>
    refine onChannel_induction (P := P) hs fun ch _ => ?_
    dsimp only
    split
    · split <;> exact hP.of_books hs (s.modChan_books rfl)
    · iterate 2 (split; · exact hs)
      exact hP.of_books hs (s.modChan_books rfl)
    · exact hs
  | stop n =>
    refine onChannel_induction (P := P) hs fun ch _ => ?_
    split
    · exact hP.stop hs
    · exact hs
  | cue n item reel =>
    refine onChannel_induction (P := P) hs fun ch _ => ?_
    dsimp only
    split
    iterate 2
      · iterate 2 (split; · exact hs)
        exact hP.cue hs (admits_of_judgeAdmission ‹_›) ..
    · exact hs
  | jump n item reel =>
    refine onChannel_induction (P := P) hs fun ch _ => ?_
    dsimp only
    iterate 5 (split; · exact hs)
    exact hP.jump hs ‹_›

/-! ### Link, ports and steps -/

theorem answer (hs : P s) (tag kind : Byte) (a : Answer) : P (s.answer tag kind a) := by
  cases a <;> exact hP.of_books hs rfl

theorem enterRequest (hs : P s) (tag : Byte) (r : Request) : P (enterRequest tag r s) := by
  simp only [Machine.enterRequest]
  split
  · exact hP.answer hs ..
  · exact hP.answer (hP.perform r hs) ..

theorem executeFrame (hs : P s) (f : CommandFrame) : P (executeFrame f s) := by
  unfold Machine.executeFrame
  split
  · exact hP.of_books hs rfl
  · split
    · exact hP.answer hs ..
    · split
      · exact hP.answer hs ..
      · exact hP.enterRequest hs ..

theorem linkFault (hs : P s) (reason : LinkFaultReason) : P (s.linkFault reason) := by
  refine hP.of_books hs ?_
  simp only [State.linkFault, State.sendMessage]
  split <;> rfl

theorem holdFrame (hs : P s) (f : CommandFrame) : P (holdFrame f s) := by
  refine hP.of_books hs ?_
  simp only [Machine.holdFrame, State.sendMessage]
  (repeat' split) <;> rfl

theorem submit (hs : P s) (tag : Byte) (r : Request) : P (submit tag r s) := by
  unfold Machine.submit
  split
  · exact hP.enterRequest hs tag r
  · exact hP.holdFrame hs _

theorem takeLinkByte (hs : P s) (b : Byte) : P (s.takeLinkByte b) := by
  have hset (rx : LinkState) (held : List Byte) (stray : StrayRun) : P (s.setReceiver rx held stray) :=
    hP.of_books hs rfl
  unfold State.takeLinkByte
  split
  · simp only [State.huntByte]
    split
    · split
      · exact hP.linkFault (hset ..) _
      · exact hset ..
    · exact hset ..
  · simp only [State.lengthByte]
    split
    · exact hset ..
    · split
      · refine hP.of_books (hP.linkFault hs .length) ?_
        simp only [State.searchLength]
        (repeat' split) <;> rfl
      · exact hset ..
  · simp only [State.frameByte, Machine.placeFrame]
    split
    · exact hset ..
    · split
      · split
        · exact hP.executeFrame (hset ..) _
        · exact hP.holdFrame (hset ..) _
      · exact hP.linkFault (hset ..) _

theorem takeLinkBytes (hs : P s) (bytes : List Byte) : P (s.takeLinkBytes bytes) := by
  induction bytes generalizing s with
  | nil => exact hs
  | cons b rest ih => exact ih (hP.takeLinkByte hs b)

theorem linkSilence (hs : P s) : P s.linkSilence := by
  have hset : P (s.setReceiver .hunt [] .none) := hP.of_books hs rfl
  simp only [State.linkSilence]
  split
  iterate 2 · exact hP.linkFault hset _
  · split
    · exact hP.linkFault hset _
    · exact hset
    all_goals exact hs

theorem replySent (hs : P s) (hup : ∀ kind, P (s.startUp kind)) : P s.replySent := by
  have hsent : P s.popOutgoing := hP.of_books hs rfl
  unfold State.replySent
  split
  · split
    · split
      · simp only [State.emptyPlace]
        split
        · exact hP.executeFrame (hP.of_books hsent (State.modLink_books ..)) _
        · exact hP.of_books hsent (State.modLink_books ..)
      · exact hup _
      · exact hs
    · exact hs
  · exact hs

theorem takePathBytes (hs : P s) (bytes : List Byte) : P (s.takePathBytes bytes) := by
  induction bytes generalizing s with
  | nil => exact hs
  | cons b rest ih =>
    refine ih (hP.of_books hs ?_)
    simp only [State.takePathByte, State.arriveHeld]
    (repeat' split) <;> simp

theorem takeSegment (hs : P s) : P s.takeSegment := by
  unfold State.takeSegment
  split
  · exact hs
  · split
    · exact hs
    · exact hP.of_books hs (s.serve_books _)

/-- Every command keeps the law, given what the end of an unwrap, start-up, power-down and tick make of the
state at hand. -/
theorem exec {c : Instr} {t : State} (hs : P s)
    (hunwrap : ∀ passes, c = .licenceUnwrapComplete passes → P (s.unwrapComplete passes))
    (hup : ∀ kind, P (s.startUp kind)) (hdown : c = .mainPowerDown → P s.powerDown)
    (h : exec c s = .next t) : P t := by
  cases hc : requestOf c with
  | some p => exact of_whenPowered ((exec_of_requestOf s hc).symm.trans h) hs (hP.submit hs p.1 p.2)
  | none =>
    cases c with
    | commandFrameCompleted bytes | frameFault bytes | syncFound bytes =>
      exact of_whenPowered h hs (hP.takeLinkBytes hs bytes)
    | segmentHeader bytes | segmentArrival bytes | markerFound bytes =>
      exact of_whenPowered h hs (hP.takePathBytes hs bytes)
    | replySent => exact of_whenPowered h hs (hP.replySent hs hup)
    | partialFrameTimeout => exact of_whenPowered h hs (hP.linkSilence hs)
    | retainedLoss => cases h; exact hup .retainedLoss
    | mainPowerUp => cases h; exact hup .mainPowerUp
    | pin => exact of_whenPowered h hs (hup .pin)
    | mainPowerDown => cases h; exact hdown rfl
    | returnMessageSend =>
      refine of_whenPowered h hs (hP.of_books hs ?_)
      unfold State.sendNextReturn
      split <;> rfl
    | segmentTake => exact of_whenPowered h hs (hP.takeSegment hs)
    | segmentFinish => exact of_whenPowered h hs (hP.finishSegment hs)
    | deadline ch => exact of_whenPowered h hs (hP.reachDeadline hs)
    | boothClockTick => cases h; exact hP.clockTick hs
    | licenceUnwrapComplete passes => exact of_whenPowered h hs (hunwrap passes rfl)
    | sampleClockEdge ch => exact of_whenPowered h hs (hP.sampleEdge hs)
    | outgoingMessageSent =>
      refine of_whenPowered h hs (hP.of_books hs ?_)
      unfold State.messageSent
      (repeat' split) <;> rfl
    | subtitlePortSend => exact of_whenPowered h hs (hP.of_books hs rfl)
    | _ => simp [requestOf] at hc

end BookInvariant

end Sys2Proof.Machine

/-! ## Resets and main power (R91, R92, R110, R187, R194) -/

namespace Sys2Proof.Machine

section
variable (s : State)

/-- The notices of start-up, raised on an empty set without masks (R194). -/
theorem State.startupNotices_eq {s : State} (kind : ResetKind) (hn : s.notices = []) (hm : s.masks = 0) :
    s.startupNotices kind = { s with notices := startNotices s kind, attn := true } := by
  have hattn : attnOf s.masks (startNotices s kind) = true := by
    simp [hm, attnOf, startNotices, maskedBy]
  have hnotices : (s.startupNotices kind).notices = startNotices s kind := by
    simp only [State.startupNotices, State.refreshLogLow, State.refreshClockUnset, State.setNotices,
      State.raise, raised, hn, startNotices, withCondition, State.freeLog]
    cases s.clock.set <;> by_cases hlow : 128 - s.log.length ≤ 16 <;> simp [hlow, Notice.isOf]
  calc s.startupNotices kind
      = { s with notices := (s.startupNotices kind).notices
                 attn := attnOf s.masks (s.startupNotices kind).notices } := rfl
    _ = { s with notices := startNotices s kind, attn := true } := by rw [hnotices, hattn]

/-- The windows of licences without pins are judged without a notice (R73). -/
theorem State.evaluateWindows_of_unpinned {s : State} (h : ∀ l, some l ∈ s.licences → l.pins = 0) :
    s.evaluateWindows = { s with
      licences := if s.clock.set then s.licences.map (Option.map (·.evaluated s.clock.time))
        else s.licences } := by
  unfold State.evaluateWindows
  split
  · have hquiet : closingLicences s.licences s.clock.time = [] := by
      refine List.filterMap_eq_nil_iff.mpr fun x hx => ?_
      obtain ⟨i, hi, rfl⟩ := List.mem_mapIdx.mp hx
      cases ho : s.licences[i] with
      | none => rfl
      | some l => simp [Licence.raisesClosing, h l (List.mem_of_getElem ho)]
    rw [hquiet]
    rfl
  · rfl

/-- The tables and the log as start-up settles them (R91, R110). -/
theorem State.settle_eq : s.settle = { s with
    licences := if s.clock.set then
        (s.licences.map (Option.map Licence.settled)).map (Option.map (·.evaluated s.clock.time))
      else s.licences.map (Option.map Licence.settled)
    keys := eraseKeySlots s.keys (erasedAtStartup s.licences)
    log := s.log.filterMap (startedLog s.clock.time) } := by
  have hpins : ∀ l, some l ∈ s.licences.map (Option.map Licence.settled) → l.pins = 0 := by
    intro l hl
    obtain ⟨o, -, ho⟩ := List.mem_map.mp hl
    obtain ⟨k, rfl, rfl⟩ := Option.map_eq_some_iff.mp ho
    unfold Licence.settled
    split <;> rfl
  have hjudged := State.evaluateWindows_of_unpinned (s := { s with
    licences := s.licences.map (Option.map Licence.settled)
    keys := eraseKeySlots s.keys (erasedAtStartup s.licences) }) hpins
  unfold State.settle
  dsimp only
  rw [show (fun o : Option Licence => o.map Licence.settled) = Option.map Licence.settled from rfl, hjudged]
  rfl

/-- A licence settled and judged at start-up (R73, R91). -/
theorem Licence.settled_evaluated (l : Licence) (clock : BoothClock) :
    (if clock.set then l.settled.evaluated clock.time else l.settled) =
      { l with
        reserved := 0, pins := 0, state := startedState clock l
        keys := if l.state = .revoking then [] else l.keys } := by
  cases hst : l.state with
  | loaded | opened =>
    simp only [Licence.settled, Licence.evaluated, startedState, hst]
    grind
  | closing | revoking | closed | revoked =>
    simp [Licence.settled, Licence.evaluated, startedState, hst]

/-- The licence table after a start-up that keeps it (R91). -/
theorem State.licence_settle (i : Nat) : s.settle.licence i = (s.licence i).map (fun l => { l with
    reserved := 0, pins := 0, state := startedState s.clock l
    keys := if l.state = .revoking then [] else l.keys }) := by
  simp only [← Licence.settled_evaluated]
  rw [State.settle_eq]
  simp only [State.licence]
  cases s.clock.set with
  | true =>
    simp only [if_true, List.map_map, List.getElem?_map]
    rcases s.licences[i]? with _ | _ | l <;> rfl
  | false =>
    simp only [Bool.false_eq_true, if_false, List.getElem?_map]
    rcases s.licences[i]? with _ | _ | l <;> rfl

/-- Key records erased by their slots (R71, R75). -/
theorem State.key_eraseKeySlots {s t : State} {indices : List Nat}
    (h : t.keys = eraseKeySlots s.keys indices) (k : Nat) :
    t.key k = if k ∈ indices then none else s.key k := by
  simp only [State.key, h, getElem?_eraseKeySlots]
  by_cases hmem : k ∈ indices
  · by_cases hlt : k < s.keys.length
    · simp [hmem, hlt]
    · simp [hmem, hlt]
  · simp [hmem]

/-- Start-up erases the keys of the REVOKING licences (R75, R91). -/
theorem mem_erasedAtStartup {s : State} {k : Nat} : k ∈ erasedAtStartup s.licences ↔
    ∃ i l, s.licence i = some l ∧ l.state = .revoking ∧ k ∈ l.keys := by
  simp only [erasedAtStartup, List.mem_flatten, List.mem_map, exists_exists_and_eq_and,
    State.licence_eq_some_iff]
  constructor
  · rintro ⟨o, ho, hk⟩
    cases o with
    | none => simp at hk
    | some l =>
      obtain ⟨i, hi⟩ := List.mem_iff_getElem?.mp ho
      by_cases hst : l.state = .revoking
      · exact ⟨i, l, hi, hst, by simpa [hst] using hk⟩
      · simp [hst] at hk
  · rintro ⟨i, l, hi, hst, hk⟩
    exact ⟨some l, List.mem_of_getElem? hi, by simpa [hst] using hk⟩

end

/-- A start-up that keeps the retained domain settles it, and gives everything else its value after a
reset. -/
theorem State.startUp_settled (s : State) {kind : ResetKind} (hk : kind ≠ .retainedLoss) :
    SettledStart s (s.startUp kind) (s.cause.after kind) kind := by
  have hstart : s.startUp kind = State.startupNotices
      { State.settle { s.clearVolatile with powered := true } with
        cause := s.cause.after kind, returns := startupReturns, subtitlePort := startupClears } kind := by
    cases kind with
    | retainedLoss => exact absurd rfl hk
    | mainPowerUp | pin | softReset =>
      simp only [State.startUp, State.settle_eq]
      rfl
  have hlicence (i : Nat) : (s.startUp kind).licence i =
      (State.settle { s.clearVolatile with powered := true }).licence i := by rw [hstart]; rfl
  have hkeys : (s.startUp kind).keys = eraseKeySlots s.keys (erasedAtStartup s.licences) := by
    rw [hstart, State.settle_eq]; rfl
  refine ⟨?_, fun i hi => ?_, fun i l hl => ?_, fun k => ⟨fun h => ?_, fun h => ?_⟩⟩
  · rw [hstart, State.settle_eq, State.startupNotices_eq kind rfl rfl]
    rfl
  · exact (hlicence i).trans ((State.licence_settle _ i).trans (congrArg (Option.map _) hi))
  · exact (hlicence i).trans ((State.licence_settle _ i).trans (congrArg (Option.map _) hl))
  · rw [State.key_eraseKeySlots hkeys, if_pos (mem_erasedAtStartup.mpr h)]
  · rw [State.key_eraseKeySlots hkeys, if_neg fun hmem => ?_]
    obtain ⟨i, l, hl, hst, hk⟩ := mem_erasedAtStartup.mp hmem
    exact h i l hl hst hk

/-- RETAINED LOSS leaves nothing but the queue (R92). -/
theorem State.startUp_retainedLoss (s : State) :
    s.startUp .retainedLoss = { State.reset with pending := s.pending } := by
  simp only [State.startUp]
  rw [State.startupNotices_eq .retainedLoss rfl rfl]
  rfl

/-- Settles O8: start-up without the retained domain computes to State.reset. -/
theorem retainedLossGivesTheResetState : Obligations.RetainedLossGivesTheResetState :=
  fun s => congrArg Host.Outcome.next s.startUp_retainedLoss

/-- Settles O9: `State.startUp_settled` for both kinds. -/
theorem startUpSettlesTheRetainedDomain : Obligations.StartUpSettlesTheRetainedDomain := by
  refine fun s => ⟨⟨_, rfl, s.startUp_settled nofun⟩, fun hp => ⟨s.startUp .pin, ?_, s.startUp_settled nofun⟩⟩
  simp only [exec, execPin, whenPowered, hp, if_true]

/-- Without main power a command other than the power rows and the tick stands still. -/
theorem exec_of_unpowered {s : State} {c : Instr} (hp : s.powered = false) (hlost : c ≠ .retainedLoss)
    (hup : c ≠ .mainPowerUp) (hdown : c ≠ .mainPowerDown) (htick : c ≠ .boothClockTick) :
    exec c s = .next s := by
  have hstill (after : State) : whenPowered s after = .next s := by simp [whenPowered, hp]
  cases hc : requestOf c with
  | some p => exact (exec_of_requestOf s hc).trans (hstill _)
  | none =>
    cases c with
    | retainedLoss => exact absurd rfl hlost
    | mainPowerUp => exact absurd rfl hup
    | mainPowerDown => exact absurd rfl hdown
    | boothClockTick => exact absurd rfl htick
    | commandFrameCompleted | replySent | frameFault | partialFrameTimeout | pin | segmentHeader
    | segmentArrival | returnMessageSend | segmentTake | segmentFinish | deadline
    | licenceUnwrapComplete | sampleClockEdge | syncFound | markerFound | outgoingMessageSent
    | subtitlePortSend => exact hstill _
    | _ => simp [requestOf] at hc

/-- Settles O10: power-down clears the volatile state alone, and every other row needs main power. -/
theorem powerDownKeepsOnlyTheRetainedDomain : Obligations.PowerDownKeepsOnlyTheRetainedDomain :=
  fun _ => ⟨rfl, fun _ => exec_of_unpowered⟩

end Sys2Proof.Machine

/-! ## Licences age in one direction (R72, R74, R75, R88) -/

namespace Sys2Proof.Machine

/-- Charged and reserved showings within the cap, and no keys once REVOKED (R74, R75). -/
def Licence.sound (l : Licence) : Prop :=
  l.charged + l.reserved ≤ l.cap ∧ (l.state = .revoked → l.keys = [])

/-- What may become of a licence that stays in its slot (R72). -/
structure Licence.Ages (l l' : Licence) : Prop where
  id_eq : l'.id = l.id
  charged : l.charged ≤ l'.charged
  final : l.state.final = true → l'.state.final = true
  sound : l.sound → l'.sound

/-- The adjustment account stays within 300 seconds, and every licence of `t` has aged from the one that its
slot held. -/
def State.Ages (s t : State) : Prop :=
  (s.clock.used ≤ 300 → t.clock.used ≤ 300) ∧
    ∀ i l', t.licence i = some l' → ∃ l, s.licence i = some l ∧ l.Ages l'

theorem Licence.Ages.refl (l : Licence) : l.Ages l := ⟨rfl, le_rfl, fun h => h, fun h => h⟩

theorem Licence.Ages.trans {l l' l'' : Licence} (h : l.Ages l') (h' : l'.Ages l'') : l.Ages l'' :=
  ⟨h'.id_eq.trans h.id_eq, h.charged.trans h'.charged, h'.final ∘ h.final, h'.sound ∘ h.sound⟩

theorem State.Ages.refl (s : State) : s.Ages s := ⟨fun h => h, fun _ l h => ⟨l, h, .refl l⟩⟩

theorem State.Ages.trans {s t u : State} (h : s.Ages t) (h' : t.Ages u) : s.Ages u := by
  refine ⟨h'.1 ∘ h.1, fun i l'' hl'' => ?_⟩
  obtain ⟨l', hl', hages'⟩ := h'.2 i l'' hl''
  obtain ⟨l, hl, hages⟩ := h.2 i l' hl'
  exact ⟨l, hl, hages.trans hages'⟩

theorem Licence.Turns.ages {l l' : Licence} (h : l.Turns l') : l.Ages l' :=
  ⟨h.id_eq, h.charged_eq.ge, h.final, fun ⟨hcap, hkeys⟩ => ⟨h.cap hcap, h.revoked hkeys⟩⟩

theorem Licence.reserveAndPin_ages {l : Licence}
    (hcap : l.charged + l.reserved < l.cap) : l.Ages l.reserveAndPin :=
  ⟨rfl, le_rfl, fun h => h, fun ⟨_, hkeys⟩ => ⟨by simp only [Licence.reserveAndPin]; omega, hkeys⟩⟩

theorem Licence.release_ages (l : Licence) : l.Ages l.release :=
  ⟨rfl, le_rfl, fun h => h, fun ⟨hcap, hkeys⟩ => ⟨by simp only [Licence.release]; omega, hkeys⟩⟩

theorem Licence.charge_ages (l : Licence) : l.Ages l.charge := by
  unfold Licence.charge
  split
  · exact .refl l
  · exact ⟨rfl, Nat.le_succ _, fun h => h, fun ⟨hcap, hkeys⟩ => ⟨by dsimp only; omega, hkeys⟩⟩

theorem Licence.lastUnpinned_ages (l : Licence) : l.Ages l.lastUnpinned := by
  unfold Licence.lastUnpinned
  split
  · exact ⟨rfl, le_rfl, fun _ => rfl, fun ⟨hcap, _⟩ => ⟨hcap, nofun⟩⟩
  · exact ⟨rfl, le_rfl, fun _ => rfl, fun ⟨hcap, _⟩ => ⟨hcap, fun _ => rfl⟩⟩
  · exact .refl l

theorem Licence.unpinned_ages (l : Licence) : l.Ages l.unpinned := by
  have hfewer : l.Ages { l with pins := l.pins - 1 } := ⟨rfl, le_rfl, fun h => h, fun h => h⟩
  unfold Licence.unpinned
  split
  · exact hfewer.trans (Licence.lastUnpinned_ages _)
  · exact hfewer

theorem Licence.left_ages (l : Licence) (held : Bool) : l.Ages (l.left held) := by
  unfold Licence.left
  split
  · exact l.release_ages.trans (Licence.unpinned_ages _)
  · exact l.unpinned_ages

/-- Start-up empties the counts and never reopens a licence (R91). -/
theorem Licence.started_ages (l : Licence) (clock : BoothClock) : l.Ages { l with
    reserved := 0, pins := 0, state := startedState clock l
    keys := if l.state = .revoking then [] else l.keys } := by
  refine ⟨rfl, le_rfl, fun h => ?_, fun ⟨hcap, hkeys⟩ => ⟨by dsimp only; omega, fun h => ?_⟩⟩
  · cases hst : l.state <;> simp_all [LicenceState.final, startedState]
  · cases hst : l.state <;> simp_all [startedState] <;> grind

theorem State.Ages.of_turns {s t : State} (h : s.Turns t) : s.Ages t := by
  refine ⟨h.account, fun i l' hl' => ?_⟩
  obtain ⟨l, hl, hturns⟩ := h.licence i l' hl'
  exact ⟨l, hl, hturns.ages⟩

/-- Some licences age, the others stay. -/
theorem State.Ages.of_map {s t : State} {p : Nat → Prop} [DecidablePred p] {f : Licence → Licence}
    (hclock : t.clock = s.clock)
    (ht : ∀ j, t.licence j = if p j then (s.licence j).map f else s.licence j)
    (hf : ∀ j l, p j → s.licence j = some l → l.Ages (f l)) : s.Ages t := by
  refine ⟨fun h => hclock ▸ h, fun j l' hl' => ?_⟩
  rw [ht] at hl'
  split at hl'
  · rename_i hj
    obtain ⟨l, hl, rfl⟩ := Option.map_eq_some_iff.mp hl'
    exact ⟨l, hl, hf j l hj hl⟩
  · exact ⟨l', hl', .refl l'⟩

/-- The licence table after a record has been enrolled (R98). -/
theorem State.licence_enrol (s : State) (ch : ChannelId) (r : AdmissionRecord) (j : Nat) :
    (s.enrol ch r).licence j =
      if r.licence = some j then (s.licence j).map Licence.reserveAndPin else s.licence j := by
  unfold State.enrol
  rw [State.licence_of_licences (State.modChan_licences ..)]
  split
  · rename_i i hi
    simp only [State.licence_modLicence, hi, Option.some.injEq, eq_comm (a := i)]
    split
    · subst j; rfl
    · rfl
  · simp [*]

theorem State.licence_chargeTo (s : State) (i : Nat) (ch : ChannelId) (r : AdmissionRecord) (j : Nat) :
    (s.chargeTo i ch r).licence j = if j = i then (s.licence j).map Licence.charge else s.licence j := by
  rw [State.chargeTo, State.licence_of_licences (State.modRecord_licences ..), State.licence_modLicence]
  split
  · subst j; rfl
  · rfl

theorem State.licence_uncharge (s : State) (ch : ChannelId) (r : AdmissionRecord) (j : Nat) :
    (s.uncharge ch r).licence j =
      if r.licence = some j ∧ r.holdsReservation = true then (s.licence j).map Licence.release
      else s.licence j := by
  rw [State.uncharge, State.licence_of_licences (State.modRecord_licences ..),
    State.licence_releaseReservation]

theorem State.enrol_steady (s : State) (ch : ChannelId) (r : AdmissionRecord) :
    (s.enrol ch r).steady = s.steady := by
  unfold State.enrol
  rw [State.modChan_steady]
  split <;> simp

theorem State.chargeTo_steady (s : State) (i : Nat) (ch : ChannelId) (r : AdmissionRecord) :
    (s.chargeTo i ch r).steady = s.steady := by simp [State.chargeTo]

/-- Whatever changes the books, every licence ages. -/
theorem ages_bookInvariant (s : State) : BookInvariant False s.Ages where
  of_books {t u} h hu := by
    obtain ⟨-, hclock, hlicences, -⟩ := State.books_eq_iff.mp hu
    exact h.trans ⟨fun h => hclock ▸ h, fun i l' hl' =>
      ⟨l', State.licence_of_licences hlicences i ▸ hl', .refl l'⟩⟩
  names := nofun
  turn h hu := h.trans (.of_turns hu)
  enrol {t} ch r h hadmits _ _ _ := by
    refine h.trans (.of_map (State.clock_of_steady (t.enrol_steady ch r)) (t.licence_enrol ch r) ?_)
    intro j l hj hl
    obtain ⟨k, hk, -, hcap⟩ := hadmits j hj
    obtain rfl : k = l := by simpa [hk] using hl
    exact Licence.reserveAndPin_ages hcap
  drop {t} ch r h _ := h.trans (.of_map (State.clock_of_steady (t.dropRecord_steady ch r))
    (t.licence_dropRecord ch r) fun _ l _ _ => l.left_ages _)
  uncharge {t} ch r h _ := h.trans (.of_map (State.clock_of_steady (t.uncharge_steady ch r))
    (t.licence_uncharge ch r) fun _ l _ _ => l.release_ages)
  count {t} ch n f h _ := h.trans ⟨fun hused => by
    rwa [State.clock_of_steady (t.modRecord_steady ch n f)], fun i l' hl' =>
    ⟨l', State.licence_of_licences (t.modRecord_licences ch n f) i ▸ hl', .refl l'⟩⟩
  charge {t} ch r i h _ _ _ _ := h.trans (.of_map (State.clock_of_steady (t.chargeTo_steady i ch r))
    (t.licence_chargeTo i ch r) fun _ l _ _ => l.charge_ages)

theorem State.startUp_ages (s : State) (kind : ResetKind) : s.Ages (s.startUp kind) := by
  by_cases hk : kind = .retainedLoss
  · subst hk
    rw [s.startUp_retainedLoss]
    refine ⟨fun _ => Nat.zero_le _, fun i l' hl' => ?_⟩
    have hnone : State.licence { State.reset with pending := s.pending } i = none := State.reset_licence i
    cases hnone.symm.trans hl'
  · obtain ⟨heq, hnone, hsome, -⟩ := s.startUp_settled hk
    refine ⟨fun h => ?_, fun i l' hl' => ?_⟩
    · rw [heq]; exact h
    · cases hl : s.licence i with
      | none => cases (hnone i hl).symm.trans hl'
      | some l =>
        cases (hsome i l hl).symm.trans hl'
        exact ⟨l, rfl, l.started_ages s.clock⟩

/-! ### The end of an unwrap (R78, R79) -/

/-- A licence as it enters the table (R79). -/
structure Licence.Fresh (l : Licence) : Prop where
  charged : l.charged = 0
  reserved : l.reserved = 0
  pins : l.pins = 0
  state : l.state = .loaded ∨ l.state = .opened

theorem entryState_cases (clock : BoothClock) (start : Nat) :
    entryState clock start = .loaded ∨ entryState clock start = .opened := by
  unfold entryState
  split
  · exact .inr rfl
  · exact .inl rfl

/-- The end of an unwrap leaves the books alone, or stores a fresh licence in an EMPTY slot. -/
theorem State.unwrapComplete_books (s : State) (passes : List Bool) :
    (s.unwrapComplete passes).books = s.books ∨ ∃ i l, s.licences[i]? = some none ∧ l.Fresh ∧
      (s.unwrapComplete passes).books = { s with licences := s.licences.set i (some l) }.books := by
  unfold State.unwrapComplete
  split
  · split
    · simp only [completeLicence]
      split
      · exact .inl rfl
      · split
        · exact .inl rfl
        · split
          · exact .inl rfl
          · rename_i i hi
            refine .inr ⟨i, _, ((lowestEmpty_eq_some _ i).mp hi).1, ?_, rfl⟩
            exact ⟨rfl, rfl, rfl, entryState_cases ..⟩
    · exact .inl rfl
    · exact .inl rfl
  · exact .inl rfl

/-- What the end of an unwrap makes of each slot. -/
theorem State.licence_unwrapComplete (s : State) (passes : List Bool) (j : Nat) :
    (s.unwrapComplete passes).licence j = s.licence j ∨
      s.licence j = none ∧ ∃ l, (s.unwrapComplete passes).licence j = some l ∧ l.Fresh := by
  obtain h | ⟨i, l, hi, hfresh, h⟩ := s.unwrapComplete_books passes
  · exact .inl (State.licence_of_books h j)
  · obtain ⟨-, -, hlicences, -⟩ := State.books_eq_iff.mp h
    rw [s.licence_set (List.getElem?_eq_some_iff.mp hi).1 hlicences]
    split
    · subst j
      exact .inr ⟨by simp [State.licence, hi], l, rfl, hfresh⟩
    · exact .inl rfl

theorem Licence.Fresh.sound {l : Licence} (h : l.Fresh) : l.sound := by
  refine ⟨by simp [h.charged, h.reserved], fun hst => ?_⟩
  obtain hst' | hst' := h.state <;> simp [hst'] at hst

/-! ### Steps -/

/-- Every licence ages at a command other than the end of an unwrap. -/
theorem exec_ages {c : Instr} {s t : State} (hc : ∀ passes, c ≠ .licenceUnwrapComplete passes)
    (h : exec c s = .next t) : s.Ages t :=
  (ages_bookInvariant s).exec (.refl s) (fun passes hp => absurd hp (hc passes)) s.startUp_ages
    (fun _ => ⟨fun h => h, fun _ l hl => ⟨l, hl, .refl l⟩⟩) h

/-- A step ages the licences, or ends an unwrap. -/
theorem step_cases_of_licences {s t : State} (h : step s = .next t) :
    s.Ages t ∨ ∃ u passes, s.Ages u ∧ u.Ages s ∧ t = State.unwrapComplete u passes := by
  unfold step at h
  split at h
  · cases h
    exact .inl (.refl s)
  · rename_i c rest _
    have hto : s.Ages { s with pending := rest } := .refl s
    have hfrom : State.Ages { s with pending := rest } s := .refl s
    by_cases hc : ∃ passes, c = .licenceUnwrapComplete passes
    · obtain ⟨passes, rfl⟩ := hc
      exact of_whenPowered (P := fun t => s.Ages t ∨ ∃ u passes, s.Ages u ∧ u.Ages s ∧
        t = State.unwrapComplete u passes) h (.inl hto) (.inr ⟨_, passes, hto, hfrom, rfl⟩)
    · exact .inl (hto.trans (exec_ages (fun passes hp => hc ⟨passes, hp⟩) h))

/-- Cap law and law of REVOKED licences, licence by licence. -/
theorem capLaw_and_revokedLaw_iff {s : State} :
    CapLaw s ∧ RevokedLaw s ↔ ∀ i l, s.licence i = some l → l.sound :=
  ⟨fun ⟨hcap, hrevoked⟩ i l hl => ⟨hcap i l hl, hrevoked i l hl⟩,
    fun h => ⟨fun i l hl => (h i l hl).1, fun i l hl => (h i l hl).2⟩⟩

/-- The laws of file 05 on licences and account. -/
def LicenceLaws (s : State) : Prop := (∀ i l, s.licence i = some l → l.sound) ∧ s.clock.used ≤ 300

theorem LicenceLaws.of_ages {s t : State} (hs : LicenceLaws s) (h : s.Ages t) : LicenceLaws t := by
  refine ⟨fun i l' hl' => ?_, h.1 hs.2⟩
  obtain ⟨l, hl, hages⟩ := h.2 i l' hl'
  exact hages.sound (hs.1 i l hl)

theorem LicenceLaws.unwrapComplete {s : State} (hs : LicenceLaws s) (passes : List Bool) :
    LicenceLaws (s.unwrapComplete passes) := by
  refine ⟨fun i l hl => ?_, ?_⟩
  · obtain hold | ⟨-, k, hk, hfresh⟩ := s.licence_unwrapComplete passes i
    · exact hs.1 i l (hold ▸ hl)
    · obtain rfl : k = l := by simpa [hk] using hl
      exact hfresh.sound
  · obtain h | ⟨i, l, -, -, h⟩ := s.unwrapComplete_books passes
    · exact (State.books_eq_iff.mp h).2.1 ▸ hs.2
    · exact (State.books_eq_iff.mp h).2.1 ▸ hs.2

/-- Settles O31: the laws hold of every licence on its own, which ages soundly, or enters fresh. -/
theorem licenceLawsAreKept : Obligations.LicenceLawsAreKept := by
  intro s t hs h
  have hlaws {u : State} : CapLaw u ∧ RevokedLaw u ∧ AccountLaw u ↔ LicenceLaws u := by
    rw [← and_assoc, capLaw_and_revokedLaw_iff]
    rfl
  rw [hlaws] at hs ⊢
  obtain hages | ⟨u, passes, hto, -, rfl⟩ := step_cases_of_licences h
  · exact hs.of_ages hages
  · exact (hs.of_ages hto).unwrapComplete passes

/-- Settles O32: a licence that stays in its slot ages, and only an EMPTY slot takes a fresh one. -/
theorem licencesNeverReturn : Obligations.LicencesNeverReturn := by
  intro s t i l h hl
  cases hl' : t.licence i with
  | none => exact .inl rfl
  | some l' =>
    have hfrom {u : State} (hages : s.Ages u) (hu : u.licence i = some l') :
        l'.id = l.id ∧ l.charged ≤ l'.charged ∧ (l.state.final = true → l'.state.final = true) := by
      obtain ⟨k, hk, hkl⟩ := hages.2 i l' hu
      obtain rfl : k = l := by simpa [hk] using hl
      exact ⟨hkl.id_eq, hkl.charged, hkl.final⟩
    refine .inr ⟨l', rfl, ?_⟩
    obtain hages | ⟨u, passes, hto, hback, rfl⟩ := step_cases_of_licences h
    · exact hfrom hages hl'
    · obtain hold | ⟨hnone, -⟩ := u.licence_unwrapComplete passes i
      · exact hfrom hto (hold.symm.trans hl')
      · obtain ⟨k, hk, -⟩ := hback.2 i l hl
        cases hnone.symm.trans hk

end Sys2Proof.Machine

/-! ## Pins and reservations count the records (R74, R82, R91, R93, R100) -/

namespace Sys2Proof.Machine

/-! ### Records of distinct names -/

/-- A record of a list whose names are distinct stands between records of other names. -/
theorem exists_split_of_nodup {l : List AdmissionRecord} {x : AdmissionRecord}
    (hl : (l.map (·.ident)).Nodup) (hx : x ∈ l) :
    ∃ a b, l = a ++ x :: b ∧ ∀ y ∈ a ++ b, y.ident ≠ x.ident := by
  obtain ⟨a, b, rfl⟩ := List.append_of_mem hx
  refine ⟨a, b, rfl, fun y hy he => ?_⟩
  rw [List.map_append, List.map_cons, List.nodup_middle, List.nodup_cons] at hl
  exact hl.1 (by rw [← he, ← List.map_append]; exact List.mem_map_of_mem hy)

/-- One record removed by its name (R103). -/
theorem countP_filter_ident {l : List AdmissionRecord} {x : AdmissionRecord}
    (hl : (l.map (·.ident)).Nodup) (hx : x ∈ l) (p : AdmissionRecord → Bool) :
    (l.filter (fun r => r.ident ≠ x.ident)).countP p + (if p x then 1 else 0) = l.countP p := by
  obtain ⟨a, b, rfl, hne⟩ := exists_split_of_nodup hl hx
  have ha : a.filter (fun r => r.ident ≠ x.ident) = a :=
    List.filter_eq_self.mpr fun y hy => by simpa using hne y (by simp [hy])
  have hb : b.filter (fun r => r.ident ≠ x.ident) = b :=
    List.filter_eq_self.mpr fun y hy => by simpa using hne y (by simp [hy])
  simp only [List.filter_append, List.filter_cons, ha, hb, ne_eq, not_true_eq_false, decide_false,
    Bool.false_eq_true, if_false, List.countP_append, List.countP_cons]
  omega

/-- One record changed by its name (R100, R102). -/
theorem countP_map_ident {l : List AdmissionRecord} {x : AdmissionRecord}
    (hl : (l.map (·.ident)).Nodup) (hx : x ∈ l) (p : AdmissionRecord → Bool)
    (f : AdmissionRecord → AdmissionRecord) :
    (l.map (fun r => if r.ident = x.ident then f r else r)).countP p + (if p x then 1 else 0) =
      l.countP p + if p (f x) then 1 else 0 := by
  obtain ⟨a, b, rfl, hne⟩ := exists_split_of_nodup hl hx
  have hkeep {k : List AdmissionRecord} (hk : ∀ y ∈ k, y.ident ≠ x.ident) :
      k.map (fun r => if r.ident = x.ident then f r else r) = k :=
    (List.map_congr_left fun y hy => if_neg (hk y hy)).trans (List.map_id' k)
  rw [List.map_append, List.map_cons, hkeep fun y hy => hne y (by simp [hy]),
    hkeep fun y hy => hne y (by simp [hy]), if_pos rfl]
  simp only [List.countP_append, List.countP_cons]
  omega

/-! ### The law, channel by channel -/

/-- A record names a licence. -/
def AdmissionRecord.names (i : Nat) (r : AdmissionRecord) : Bool := r.licence = some i

/-- A record holds a reservation on a licence (R100). -/
def AdmissionRecord.reserves (i : Nat) (r : AdmissionRecord) : Bool :=
  r.licence = some i && r.holdsReservation

theorem AdmissionRecord.claim_eq_iff {r q : AdmissionRecord} : r.claim = q.claim ↔
    r.ident = q.ident ∧ r.licence = q.licence ∧ r.charged = q.charged ∧ r.chargeable = q.chargeable := by
  simp [AdmissionRecord.claim]

theorem AdmissionRecord.holdsReservation_of_claim {r q : AdmissionRecord} (h : r.claim = q.claim) :
    r.holdsReservation = q.holdsReservation := by
  obtain ⟨-, hlicence, hcharged, hchargeable⟩ := AdmissionRecord.claim_eq_iff.mp h
  simp only [AdmissionRecord.holdsReservation, hlicence, hcharged, hchargeable]

theorem AdmissionRecord.names_of_claim {r q : AdmissionRecord} (h : r.claim = q.claim) (i : Nat) :
    r.names i = q.names i := by
  obtain ⟨-, hlicence, -⟩ := AdmissionRecord.claim_eq_iff.mp h
  simp only [AdmissionRecord.names, hlicence]

theorem AdmissionRecord.reserves_of_claim {r q : AdmissionRecord} (h : r.claim = q.claim) (i : Nat) :
    r.reserves i = q.reserves i := by
  obtain ⟨-, hlicence, -⟩ := AdmissionRecord.claim_eq_iff.mp h
  simp only [AdmissionRecord.reserves, hlicence, AdmissionRecord.holdsReservation_of_claim h]

theorem AdmissionRecord.names_iff {r : AdmissionRecord} {i : Nat} :
    r.names i = true ↔ r.licence = some i := by
  simp [AdmissionRecord.names]

/-- The records of both channels with a property. -/
def State.tally (s : State) (p : AdmissionRecord → Bool) : Nat := s.allRecords.countP p

theorem State.tally_eq (s : State) (ch : ChannelId) (p : AdmissionRecord → Bool) :
    s.tally p = (s.chan ch).records.countP p + (s.chan ch.other).records.countP p := by
  cases ch
  · exact List.countP_append
  · exact List.countP_append.trans (Nat.add_comm _ _)

theorem State.tally_of_records {s t : State} (h : ∀ ch, (t.chan ch).records = (s.chan ch).records)
    (p : AdmissionRecord → Bool) : t.tally p = s.tally p := by
  rw [t.tally_eq .a, s.tally_eq .a, h, h]

/-- A record counts in its channel and in the tally. -/
theorem State.one_le_tally {s : State} {ch : ChannelId} {r : AdmissionRecord} {p : AdmissionRecord → Bool}
    (h : r ∈ (s.chan ch).records) (hp : p r = true) : 1 ≤ s.tally p := by
  have hpos : 0 < (s.chan ch).records.countP p := List.countP_pos_iff.mpr ⟨r, h, hp⟩
  rw [s.tally_eq ch]
  omega

/-- The record laws of a part with main power, with the channels alike. -/
structure Booked (s : State) : Prop where
  powered : s.powered = true
  pins : ∀ i l, s.licence i = some l → l.pins = s.tally (AdmissionRecord.names i)
  reserved : ∀ i l, s.licence i = some l → l.reserved = s.tally (AdmissionRecord.reserves i)
  names : ∀ ch, (s.chan ch).namesLaw
  named : ∀ ch, ∀ r ∈ (s.chan ch).records, ∀ i, r.licence = some i → (s.licence i).isSome = true
  unpinned : ∀ i l, s.licence i = some l → l.state.unpinned = true → l.pins = 0

theorem booked_iff {s : State} (hp : s.powered = true) : Booked s ↔ RecordLaws s := by
  constructor
  · intro h _
    refine ⟨fun i l hl => ⟨h.pins i l hl, h.reserved i l hl⟩, h.names .a, h.names .b, fun r hr i hi => ?_,
      h.unpinned⟩
    obtain hr | hr := List.mem_append.mp hr
    · exact h.named .a r hr i hi
    · exact h.named .b r hr i hi
  · intro h
    obtain ⟨hpins, ha, hb, hnamed, hunpinned⟩ := h hp
    refine ⟨hp, fun i l hl => (hpins i l hl).1, fun i l hl => (hpins i l hl).2, fun ch => ?_,
      fun ch r hr => hnamed r ?_, hunpinned⟩
    · cases ch
      · exact ha
      · exact hb
    · cases ch
      · exact List.mem_append_left _ hr
      · exact List.mem_append_right _ hr

/-- A record that stands in a channel's list, with what it stands for. -/
theorem Booked.one_le_pins {s : State} (hs : Booked s) {ch : ChannelId} {r : AdmissionRecord}
    (hr : r ∈ (s.chan ch).records) {i : Nat} {l : Licence} (hi : r.licence = some i)
    (hl : s.licence i = some l) : 1 ≤ l.pins :=
  hs.pins i l hl ▸ State.one_le_tally hr (AdmissionRecord.names_iff.mpr hi)

/-- A licence that a record names is OPEN, CLOSING or REVOKING (R82). -/
theorem Booked.pinned_of_named {s : State} (hs : Booked s) {ch : ChannelId} {r : AdmissionRecord}
    (hr : r ∈ (s.chan ch).records) {i : Nat} {l : Licence} (hi : r.licence = some i)
    (hl : s.licence i = some l) : l.state.unpinned = false := by
  have hpins := hs.one_le_pins hr hi hl
  by_contra h
  have := hs.unpinned i l hl (by simpa using h)
  omega

/-! ### What a change of one channel's records needs to keep the law -/

/-- The law after a change of one channel's records: each licence's counts move with the channel's, and the
records stay well named. -/
theorem Booked.of_chan {s t : State} (hs : Booked s) (ch : ChannelId) (hsteady : t.steady = s.steady)
    (hother : t.chan ch.other = s.chan ch.other) (hnames : (t.chan ch).namesLaw)
    (hnamed : ∀ r ∈ (t.chan ch).records, ∀ i, r.licence = some i → (s.licence i).isSome = true)
    (hlicence : ∀ i, (s.licence i).isSome = true → (t.licence i).isSome = true)
    (hl : ∀ i l', t.licence i = some l' → ∃ l, s.licence i = some l ∧
      l'.pins + (s.chan ch).records.countP (AdmissionRecord.names i) =
        l.pins + (t.chan ch).records.countP (AdmissionRecord.names i) ∧
      l'.reserved + (s.chan ch).records.countP (AdmissionRecord.reserves i) =
        l.reserved + (t.chan ch).records.countP (AdmissionRecord.reserves i) ∧
      (l'.state.unpinned = true → l'.pins = 0)) : Booked t where
  powered := (State.powered_of_steady hsteady).trans hs.powered
  pins i l' hl' := by
    obtain ⟨l, hold, hpins, -⟩ := hl i l' hl'
    have := hs.pins i l hold
    rw [s.tally_eq ch] at this
    rw [t.tally_eq ch, hother]
    omega
  reserved i l' hl' := by
    obtain ⟨l, hold, -, hreserved, -⟩ := hl i l' hl'
    have := hs.reserved i l hold
    rw [s.tally_eq ch] at this
    rw [t.tally_eq ch, hother]
    omega
  names c := by
    by_cases hc : c = ch
    · exact hc ▸ hnames
    · obtain rfl : c = ch.other := by cases c <;> cases ch <;> simp_all [ChannelId.other]
      exact hother ▸ hs.names _
  named c r hr i hi := by
    refine hlicence i ?_
    by_cases hc : c = ch
    · exact hnamed r (hc ▸ hr) i hi
    · obtain rfl : c = ch.other := by cases c <;> cases ch <;> simp_all [ChannelId.other]
      exact hs.named _ r (hother ▸ hr) i hi
  unpinned i l' hl' := by
    obtain ⟨-, -, -, -, hunpinned⟩ := hl i l' hl'
    exact hunpinned

/-! ### Licences counted (R74, R75) -/

/-- A licence that lost a record: its counts, and its state when its last pin is gone. -/
theorem Licence.left_counts (l : Licence) (held : Bool) :
    (l.left held).pins = l.pins - 1 ∧ (l.left held).reserved = (if held then l.reserved - 1 else l.reserved) ∧
      (l.state.unpinned = false → (l.left held).state.unpinned = true → (l.left held).pins = 0) := by
  cases held <;> cases hst : l.state <;>
    simp only [Licence.left, Licence.unpinned, Licence.lastUnpinned, Licence.release, Licence.revokedNow, hst,
      LicenceState.unpinned] <;> grind

theorem Channel.namesLaw.of_map {c d : Channel} (h : c.namesLaw) {f : AdmissionRecord → AdmissionRecord}
    (hf : ∀ r, (f r).ident = r.ident) (hd : d.records = c.records.map f) (hn : d.nextIdent = c.nextIdent) :
    d.namesLaw := by
  obtain ⟨hnodup, hlt⟩ := h
  simp only [Channel.namesLaw, hd, hn, List.map_map, List.forall_mem_map, hf]
  exact ⟨by rwa [show (fun r : AdmissionRecord => r.ident) ∘ f = (·.ident) from funext hf], hlt⟩

theorem Channel.namesLaw.removeRecord {c : Channel} (h : c.namesLaw) (n : Nat) :
    (c.removeRecord n).namesLaw := by
  obtain ⟨hnodup, hlt⟩ := h
  refine ⟨hnodup.sublist ((List.filter_sublist).map _), fun r hr => hlt r ?_⟩
  exact (List.mem_filter.mp hr).1

end Sys2Proof.Machine

/-! ## The record laws are kept by every way of changing the books (R74, R75, R98, R100 to R105) -/

namespace Sys2Proof.Machine

theorem State.records_modRecord (s : State) (ch : ChannelId) (n : Nat)
    (f : AdmissionRecord → AdmissionRecord) : ((s.modRecord ch n f).chan ch).records =
      (s.chan ch).records.map (fun r => if r.ident = n then f r else r) := by
  simp [State.modRecord]

/-- A record's reservation is among those that its licence counts. -/
theorem Booked.one_le_reserved {s : State} (hs : Booked s) {ch : ChannelId} {r : AdmissionRecord}
    (hr : r ∈ (s.chan ch).records) {i : Nat} {l : Licence} (hi : r.licence = some i)
    (hheld : r.holdsReservation = true) (hl : s.licence i = some l) : 1 ≤ l.reserved :=
  hs.reserved i l hl ▸ State.one_le_tally hr (by simp [AdmissionRecord.reserves, hi, hheld])

/-- A reservation spent or released: its record holds it no longer, and its licence counts one less. -/
theorem Booked.of_spent {s t : State} (hs : Booked s) {ch : ChannelId} {x : AdmissionRecord}
    (hx : x ∈ (s.chan ch).records) {f : AdmissionRecord → AdmissionRecord} {g : Licence → Licence}
    (hsteady : t.steady = s.steady) (hother : t.chan ch.other = s.chan ch.other)
    (hrecords : (t.chan ch).records = (s.chan ch).records.map (fun r => if r.ident = x.ident then f r else r))
    (hnext : (t.chan ch).nextIdent = (s.chan ch).nextIdent)
    (hlicence : ∀ i, t.licence i =
      if x.licence = some i ∧ x.holdsReservation = true then (s.licence i).map g else s.licence i)
    (hf : ∀ r, (f r).ident = r.ident ∧ (f r).licence = r.licence ∧ (f r).holdsReservation = false)
    (hg : ∀ l, 1 ≤ l.reserved →
      (g l).pins = l.pins ∧ (g l).reserved + 1 = l.reserved ∧ (g l).state = l.state) : Booked t := by
  obtain ⟨-, hkeepsLicence, hspent⟩ := hf x
  have hnodup := (hs.names ch).1
  have hcount (p : AdmissionRecord → Bool) := hrecords ▸ countP_map_ident hnodup hx p f
  have hnames (i : Nat) : (f x).names i = x.names i := by simp only [AdmissionRecord.names, hkeepsLicence]
  refine hs.of_chan ch hsteady hother ((hs.names ch).of_map (fun r => ?_) hrecords hnext) ?_ ?_ ?_
  · split
    · exact (hf r).1
    · rfl
  · intro r hr i hi
    rw [hrecords, List.mem_map] at hr
    obtain ⟨q, hq, rfl⟩ := hr
    refine hs.named ch q hq i (hi ▸ ?_)
    split
    · exact (hf q).2.1.symm
    · rfl
  · intro i hi
    rw [hlicence]
    split
    · rwa [Option.isSome_map]
    · exact hi
  · intro i l' hl'
    have hpins := hcount (AdmissionRecord.names i)
    have hreserved := hcount (AdmissionRecord.reserves i)
    rw [hnames] at hpins
    simp only [AdmissionRecord.reserves, hspent, Bool.and_false, Bool.false_eq_true, if_false,
      Bool.and_eq_true, decide_eq_true_eq] at hreserved
    rw [hlicence] at hl'
    split at hl'
    · rename_i hheld
      obtain ⟨l, hl, rfl⟩ := Option.map_eq_some_iff.mp hl'
      obtain ⟨hgpins, hgreserved, hgstate⟩ := hg l (hs.one_le_reserved hx hheld.1 hheld.2 hl)
      rw [if_pos hheld] at hreserved
      exact ⟨l, hl, by omega, by omega,
        fun h => hgpins.trans (hs.unpinned i l hl (hgstate ▸ h))⟩
    · rename_i hheld
      rw [if_neg hheld] at hreserved
      exact ⟨l', hl', by omega, by omega, hs.unpinned i l' hl'⟩

/-- A record enters with its reservation and its pin (R98). -/
theorem Booked.enrol {s : State} (hs : Booked s) (ch : ChannelId) {r : AdmissionRecord}
    (hadmits : s.Admits r.licence) (hident : r.ident = (s.chan ch).nextIdent)
    (hchargeable : r.chargeable = true) (hcharged : r.charged = false) : Booked (s.enrol ch r) := by
  have hchan : (s.enrol ch r).chan ch =
      { s.chan ch with records := (s.chan ch).records ++ [r], nextIdent := (s.chan ch).nextIdent + 1 } := by
    unfold State.enrol
    split <;> simp
  have hother : (s.enrol ch r).chan ch.other = s.chan ch.other := by
    unfold State.enrol
    split <;> simp [State.chan_modChan, ch.other_ne]
  obtain ⟨hnodup, hlt⟩ := hs.names ch
  refine hs.of_chan ch (s.enrol_steady ch r) hother ?_ ?_ ?_ ?_
  · simp only [Channel.namesLaw, hchan, List.map_append, List.map_cons, List.map_nil, List.mem_append,
      List.mem_singleton]
    refine ⟨List.nodup_append.mpr ⟨hnodup, List.nodup_singleton _, ?_⟩, ?_⟩
    · rintro n hn m hm rfl
      obtain ⟨q, hq, rfl⟩ := List.mem_map.mp hn
      have := hlt q hq
      have := List.mem_singleton.mp hm
      omega
    · rintro q (hq | rfl)
      · exact Nat.lt_succ_of_lt (hlt q hq)
      · omega
  · intro q hq i hi
    rw [hchan] at hq
    obtain hq | hq := List.mem_append.mp hq
    · exact hs.named ch q hq i hi
    · obtain rfl := List.mem_singleton.mp hq
      obtain ⟨l, hl, -⟩ := hadmits i hi
      simp [hl]
  · intro i hi
    rw [s.licence_enrol]
    split
    · rwa [Option.isSome_map]
    · exact hi
  · intro i l' hl'
    rw [s.licence_enrol] at hl'
    simp only [hchan, List.countP_append, List.countP_singleton, AdmissionRecord.names,
      AdmissionRecord.reserves, decide_eq_true_eq]
    split at hl'
    · rename_i hi
      obtain ⟨l, hl, rfl⟩ := Option.map_eq_some_iff.mp hl'
      obtain ⟨k, hk, hopen, -⟩ := hadmits i hi
      obtain rfl : k = l := by simpa [hk] using hl
      have hheld : r.holdsReservation = true := by
        simp [AdmissionRecord.holdsReservation, hi, hchargeable, hcharged]
      refine ⟨k, hk, ?_, ?_, fun h => ?_⟩
      · simp only [Licence.reserveAndPin, hi, if_true]; omega
      · simp only [Licence.reserveAndPin, hi, hheld, decide_true, Bool.and_self, if_true]; omega
      · simp [Licence.reserveAndPin, hopen, LicenceState.unpinned] at h
    · rename_i hi
      exact ⟨l', hl', by simp [hi], by simp [hi], hs.unpinned i l' hl'⟩

/-- A record leaves with its reservation and its pin (R103, R105). -/
theorem Booked.drop {s : State} (hs : Booked s) {ch : ChannelId} {r : AdmissionRecord}
    (hr : s.Claims ch r) : Booked (s.dropRecord ch r) := by
  obtain ⟨x, hx, hclaim⟩ := hr
  obtain ⟨hident, hlicence, -⟩ := AdmissionRecord.claim_eq_iff.mp hclaim
  have hheld := AdmissionRecord.holdsReservation_of_claim hclaim
  have hchan := s.dropRecord_chan ch r
  have hcount (p : AdmissionRecord → Bool) : ((s.dropRecord ch r).chan ch).records.countP p +
      (if p x then 1 else 0) = (s.chan ch).records.countP p := by
    rw [hchan, Channel.removeRecord, ← hident]
    exact countP_filter_ident (hs.names ch).1 hx p
  refine hs.of_chan ch (s.dropRecord_steady ch r) (State.chan_other_of_beside (s.dropRecord_beside ch r))
    (hchan ▸ (hs.names ch).removeRecord _) (fun q hq => hs.named ch q ?_) ?_ ?_
  · rw [hchan] at hq
    exact (List.mem_filter.mp hq).1
  · intro i hi
    rw [s.licence_dropRecord]
    split
    · rwa [Option.isSome_map]
    · exact hi
  · intro i l' hl'
    have hpins := hcount (AdmissionRecord.names i)
    have hreserved := hcount (AdmissionRecord.reserves i)
    simp only [AdmissionRecord.names_iff, AdmissionRecord.reserves, Bool.and_eq_true, decide_eq_true_eq,
      hlicence, hheld] at hpins hreserved
    rw [s.licence_dropRecord] at hl'
    split at hl'
    · rename_i hi
      obtain ⟨l, hl, rfl⟩ := Option.map_eq_some_iff.mp hl'
      have hx' : x.licence = some i := hlicence.trans hi
      have hone := hs.one_le_pins hx hx' hl
      obtain ⟨hfewer, hreleased, hstate⟩ := l.left_counts r.holdsReservation
      rw [if_pos hi] at hpins
      refine ⟨l, hl, by omega, ?_, hstate (hs.pinned_of_named hx hx' hl)⟩
      by_cases hr : r.holdsReservation = true
      · have := hs.one_le_reserved hx hx' (hheld.trans hr) hl
        rw [if_pos ⟨hi, hr⟩] at hreserved
        rw [if_pos hr] at hreleased
        omega
      · rw [if_neg fun h => hr h.2] at hreserved
        rw [if_neg hr] at hreleased
        omega
    · rename_i hi
      rw [if_neg hi] at hpins
      rw [if_neg fun h => hi h.1] at hreserved
      exact ⟨l', hl', by omega, by omega, hs.unpinned i l' hl'⟩

/-! ### The record laws as a law of the books -/

/-- Licences that turn keep their counts, and the deleted ones had no record (R82). -/
theorem Booked.of_turns {s t : State} (hs : Booked s) (h : s.Turns t) : Booked t := by
  have hroll (ch : ChannelId) : (t.chan ch).records = (s.chan ch).records ∧
      (t.chan ch).nextIdent = (s.chan ch).nextIdent := by
    simpa [Channel.roll] using h.roll ch
  have htally := State.tally_of_records fun ch => (hroll ch).1
  refine ⟨h.powered.trans hs.powered, fun i l' hl' => ?_, fun i l' hl' => ?_, fun ch => ?_,
    fun ch r hr i hi => ?_, fun i l' hl' hu => ?_⟩
  · obtain ⟨l, hl, hturns⟩ := h.licence i l' hl'
    rw [htally, hturns.pins_eq, hs.pins i l hl]
  · obtain ⟨l, hl, hturns⟩ := h.licence i l' hl'
    rw [htally, hturns.reserved_eq, hs.reserved i l hl]
  · rw [Channel.namesLaw, (hroll ch).1, (hroll ch).2]
    exact hs.names ch
  · rw [(hroll ch).1] at hr
    obtain ⟨l, hl⟩ := Option.isSome_iff_exists.mp (hs.named ch r hr i hi)
    cases hl' : t.licence i with
    | some l' => rfl
    | none => cases (hs.pinned_of_named hr hi hl).symm.trans (h.deleted i l hl hl')
  · obtain ⟨l, hl, hturns⟩ := h.licence i l' hl'
    rw [hturns.pins_eq]
    exact (hturns.unpinned hu).elim (hs.unpinned i l hl) (fun h => h)

theorem State.Turns.of_books {s t : State} (h : t.books = s.books) : s.Turns t := by
  obtain ⟨hpowered, hclock, hlicences, hroll⟩ := State.books_eq_iff.mp h
  have hlicence := State.licence_of_licences hlicences
  exact ⟨hpowered, hroll, fun hused => hclock ▸ hused,
    fun i l' hl' => ⟨l', hlicence i ▸ hl', .refl l'⟩,
    fun i l hl hn => by cases hl.symm.trans (hlicence i ▸ hn)⟩

/-- A change of records that keeps what the laws read (R101). -/
theorem Booked.count {s : State} (hs : Booked s) (ch : ChannelId) (n : Nat)
    {f : AdmissionRecord → AdmissionRecord} (hf : ∀ r, (f r).claim = r.claim) :
    Booked (s.modRecord ch n f) := by
  have hclaim (r : AdmissionRecord) : (if r.ident = n then f r else r).claim = r.claim := by
    split
    · exact hf r
    · rfl
  have hrecords := s.records_modRecord ch n f
  have hcount {p : AdmissionRecord → Bool} (hp : ∀ r q, r.claim = q.claim → p r = p q) :
      ((s.modRecord ch n f).chan ch).records.countP p = (s.chan ch).records.countP p := by
    rw [hrecords, List.countP_map]
    exact List.countP_congr fun r _ => by rw [Function.comp_apply, hp _ r (hclaim r)]
  have hlicence := State.licence_of_licences (s.modRecord_licences ch n f)
  refine hs.of_chan ch (s.modRecord_steady ch n f)
    (State.chan_other_of_beside (s.modRecord_beside ch n f))
    ((hs.names ch).of_map (fun r => congrArg Prod.fst (hclaim r)) hrecords ?_) (fun r hr i hi => ?_)
    (fun i h => hlicence i ▸ h) fun i l hl => ?_
  · simp [State.modRecord]
  · rw [hrecords, List.mem_map] at hr
    obtain ⟨q, hq, rfl⟩ := hr
    exact hs.named ch q hq i ((AdmissionRecord.claim_eq_iff.mp (hclaim q)).2.1 ▸ hi)
  · rw [hlicence] at hl
    rw [hcount fun r q h => AdmissionRecord.names_of_claim h i,
      hcount fun r q h => AdmissionRecord.reserves_of_claim h i]
    exact ⟨l, hl, rfl, rfl, hs.unpinned i l hl⟩

/-- A record made unchargeable releases its reservation (R97, R100). -/
theorem Booked.uncharge {s : State} (hs : Booked s) {ch : ChannelId} {r : AdmissionRecord}
    (hr : s.Claims ch r) : Booked (s.uncharge ch r) := by
  obtain ⟨x, hx, hclaim⟩ := hr
  obtain ⟨hident, hlicence, -⟩ := AdmissionRecord.claim_eq_iff.mp hclaim
  refine hs.of_spent (f := fun y => { y with chargeable := false }) (g := Licence.release) hx
    (s.uncharge_steady ch r) (State.chan_other_of_beside (s.uncharge_beside ch r)) ?_ ?_ (fun i => ?_)
    (fun y => ⟨rfl, rfl, by simp [AdmissionRecord.holdsReservation]⟩) fun l hl => ?_
  · rw [State.uncharge, State.records_modRecord, State.releaseReservation_chan, hident]
  · simp [State.uncharge, State.modRecord]
  · rw [s.licence_uncharge, hlicence, AdmissionRecord.holdsReservation_of_claim hclaim]
  · exact ⟨rfl, Nat.sub_add_cancel hl, rfl⟩

/-- A charge spends the record's reservation (R102). -/
theorem Booked.charge {s : State} (hs : Booked s) {ch : ChannelId} {r : AdmissionRecord} {i : Nat}
    (hr : s.Claims ch r) (hi : r.licence = some i) (hchargeable : r.chargeable = true)
    (hcharged : r.charged = false) : Booked (s.chargeTo i ch r) := by
  obtain ⟨x, hx, hclaim⟩ := hr
  obtain ⟨hident, hlicence, -⟩ := AdmissionRecord.claim_eq_iff.mp hclaim
  have hheld : x.holdsReservation = true := by
    rw [AdmissionRecord.holdsReservation_of_claim hclaim]
    simp [AdmissionRecord.holdsReservation, hi, hchargeable, hcharged]
  refine hs.of_spent (f := fun y => { y with charged := true }) (g := Licence.charge) hx
    (s.chargeTo_steady i ch r) (State.chan_other_of_beside (by simp [State.chargeTo])) ?_ ?_ (fun j => ?_)
    (fun y => ⟨rfl, rfl, by simp [AdmissionRecord.holdsReservation]⟩) fun l hl => ?_
  · rw [State.chargeTo, State.records_modRecord, State.modLicence_chan, hident]
  · simp [State.chargeTo, State.modRecord]
  · simp [s.licence_chargeTo, hlicence, hi, hheld, eq_comm (a := i)]
  · rw [Licence.charge, if_neg (Nat.ne_of_gt hl)]
    exact ⟨rfl, Nat.sub_add_cancel hl, rfl⟩

theorem booked_bookInvariant : BookInvariant True Booked where
  of_books hs h := hs.of_turns (.of_books h)
  names _ _ hs := hs.names
  turn := Booked.of_turns
  enrol ch _ hs := hs.enrol ch
  drop _ _ hs hr := hs.drop (hr trivial)
  uncharge _ _ hs hr := hs.uncharge (hr trivial)
  count ch n _ hs hf := hs.count ch n hf
  charge _ _ _ hs hr := hs.charge (hr trivial)

/-! ### Start-up and the end of an unwrap (R79, R91) -/

theorem State.tally_eq_zero {s : State} {p : AdmissionRecord → Bool}
    (h : ∀ ch, ∀ r ∈ (s.chan ch).records, p r = false) : s.tally p = 0 := by
  have hzero (ch : ChannelId) : (s.chan ch).records.countP p = 0 :=
    List.countP_eq_zero.mpr fun r hr => by simp [h ch r hr]
  rw [s.tally_eq .a, hzero, hzero]

/-- Without records, the laws ask that no licence counts any. -/
theorem Booked.of_no_records {s : State} (hp : s.powered = true) (hrecords : ∀ ch, (s.chan ch).records = [])
    (hl : ∀ i l, s.licence i = some l → l.pins = 0 ∧ l.reserved = 0) : Booked s := by
  have htally (p : AdmissionRecord → Bool) : s.tally p = 0 :=
    State.tally_eq_zero fun ch r hr => by simp [hrecords] at hr
  refine ⟨hp, fun i l h => (hl i l h).1.trans (htally _).symm, fun i l h => (hl i l h).2.trans (htally _).symm,
    fun ch => ?_, fun ch r hr => ?_, fun i l h _ => (hl i l h).1⟩
  · simp [Channel.namesLaw, hrecords]
  · simp [hrecords] at hr

theorem State.startUp_booked (s : State) (kind : ResetKind) : Booked (s.startUp kind) := by
  by_cases hk : kind = .retainedLoss
  · subst hk
    rw [s.startUp_retainedLoss]
    exact (booked_iff rfl).mpr State.reset_recordLaws
  · obtain ⟨heq, hnone, hsome, -⟩ := s.startUp_settled hk
    refine Booked.of_no_records (by rw [heq]; rfl) (fun ch => by rw [heq]; cases ch <;> rfl) fun i l' hl' => ?_
    cases hl : s.licence i with
    | none => cases (hnone i hl).symm.trans hl'
    | some l =>
      cases (hsome i l hl).symm.trans hl'
      exact ⟨rfl, rfl⟩

/-- A fresh licence stands in a slot that no record names. -/
theorem Booked.unwrapComplete {s : State} (hs : Booked s) (passes : List Bool) :
    Booked (s.unwrapComplete passes) := by
  obtain h | ⟨i, l, hi, hfresh, h⟩ := s.unwrapComplete_books passes
  · exact hs.of_turns (.of_books h)
  obtain ⟨hpowered, -, hlicences, hroll⟩ := State.books_eq_iff.mp h
  generalize s.unwrapComplete passes = t at *
  have hchan (ch : ChannelId) : (t.chan ch).records = (s.chan ch).records ∧
      (t.chan ch).nextIdent = (s.chan ch).nextIdent := by
    have hsame : (t.chan ch).roll = (s.chan ch).roll := (hroll ch).trans (by cases ch <;> rfl)
    simpa [Channel.roll] using hsame
  have hlicence (j : Nat) := s.licence_set (List.getElem?_eq_some_iff.mp hi).1 hlicences j
  have hempty : s.licence i = none := by simp [State.licence, hi]
  have hunnamed (ch : ChannelId) (r : AdmissionRecord) (hr : r ∈ (s.chan ch).records) :
      r.licence ≠ some i :=
    fun hi => by simpa [hempty] using hs.named ch r hr i hi
  have hpins : s.tally (AdmissionRecord.names i) = 0 :=
    State.tally_eq_zero fun ch r hr => by simp [AdmissionRecord.names, hunnamed ch r hr]
  have hreserved : s.tally (AdmissionRecord.reserves i) = 0 :=
    State.tally_eq_zero fun ch r hr => by simp [AdmissionRecord.reserves, hunnamed ch r hr]
  have htally := State.tally_of_records fun ch => (hchan ch).1
  have heach {Q : Nat → Licence → Prop} (hnew : Q i l) (hold : ∀ j k, s.licence j = some k → Q j k) (j : Nat)
      (k : Licence) (hk : t.licence j = some k) : Q j k := by
    rw [hlicence] at hk
    split at hk
    · cases hk
      subst j
      exact hnew
    · exact hold j k hk
  refine ⟨hpowered.trans hs.powered, heach ?_ fun j k hk => ?_, heach ?_ fun j k hk => ?_, fun ch => ?_,
    fun ch r hr j hj => ?_, heach (fun _ => hfresh.pins) hs.unpinned⟩
  · rw [htally, hpins, hfresh.pins]
  · rw [htally, hs.pins j k hk]
  · rw [htally, hreserved, hfresh.reserved]
  · rw [htally, hs.reserved j k hk]
  · rw [Channel.namesLaw, (hchan ch).1, (hchan ch).2]
    exact hs.names ch
  · rw [(hchan ch).1] at hr
    have hji : j ≠ i := by rintro rfl; exact hunnamed ch r hr hj
    rw [hlicence, if_neg hji]
    exact hs.named ch r hr j hj

/-! ### Steps -/

theorem exec_booked {c : Instr} {s t : State} (hs : Booked s) (hp : t.powered = true)
    (h : exec c s = .next t) : Booked t := by
  by_cases hdown : c = .mainPowerDown
  · subst hdown
    cases h
    cases hp
  · exact booked_bookInvariant.exec hs (fun passes _ => hs.unwrapComplete passes) s.startUp_booked
      (fun h => absurd h hdown) h

/-- Without main power only a power-up gives it back. -/
theorem exec_booked_of_unpowered {c : Instr} {s t : State} (hs : s.powered = false) (hp : t.powered = true)
    (h : exec c s = .next t) : Booked t := by
  by_cases hlost : c = .retainedLoss
  · subst hlost
    cases h
    exact s.startUp_booked _
  by_cases hup : c = .mainPowerUp
  · subst hup
    cases h
    exact s.startUp_booked _
  by_cases hdown : c = .mainPowerDown
  · subst hdown
    cases h
    cases hp
  by_cases htick : c = .boothClockTick
  · subst htick
    cases h
    unfold State.clockTick at hp
    split at hp <;> simp [hs] at hp
  · cases (exec_of_unpowered hs hlost hup hdown htick).symm.trans h
    cases hs.symm.trans hp

/-- Settles O33: the record laws are a law of the books, and a power-up begins without records. -/
theorem pinsAndReservationsCountTheRecords : Obligations.PinsAndReservationsCountTheRecords := by
  intro s t hs h hp
  refine (booked_iff hp).mp ?_ hp
  unfold step at h
  split at h
  · cases h
    exact (booked_iff hp).mpr hs
  · rename_i c rest _
    cases hpowered : s.powered with
    | true =>
      have hbooked : Booked s := (booked_iff hpowered).mpr hs
      exact exec_booked (s := { s with pending := rest }) (hbooked.of_turns (.of_books rfl)) hp h
    | false => exact exec_booked_of_unpowered (s := { s with pending := rest }) hpowered hp h

end Sys2Proof.Machine

/-! ## Requests on licences (R80 to R85) -/

namespace Sys2Proof.Machine

theorem namedLicence_of_licence {s : State} {index : Byte} {l : Licence} (h64 : index.toNat < 64)
    (hl : s.licence index.toNat = some l) : namedLicence s index = .ok l := by
  simp only [namedLicence, if_neg (Nat.not_le.mpr h64), hl]

/-- Settles O27: each state's branch of R80 and R82. -/
theorem revokeAndDeleteActByState : Obligations.RevokeAndDeleteActByState := by
  intro s tag index l ht h64 hl
  have hnamed := namedLicence_of_licence h64 hl
  have hrevoke := State.revokeNow_eq_set hl
  have hrevoking := State.modLicence_eq_set hl (fun l => { l with state := .revoking })
  have herased {t : State} (h : t.keys = eraseKeySlots s.keys l.keys) := State.key_eraseKeySlots h
  have hrevokes := exec_of_takes (c := .revokeLicence tag index) ht rfl
  have hdeletes := exec_of_takes (c := .deleteLicence tag index) ht rfl
  simp only [perform, doRevokeLicence, doDeleteLicence, hnamed, hrevoking] at hrevokes hdeletes
  rw [hrevokes, hdeletes]
  refine ⟨fun h => ?_, fun h => ?_, fun h => ?_, fun h => ?_, fun h => ?_, fun h => ?_⟩
  · rw [hrevoke]
    obtain hst | hst | ⟨hst, hpins⟩ := h
    · exact ⟨_, by rw [hst]; rfl, rfl, herased rfl⟩
    · exact ⟨_, by rw [hst]; rfl, rfl, herased rfl⟩
    · exact ⟨_, by rw [hst, if_pos hpins, hpins]; rfl, rfl, herased rfl⟩
  · obtain hst | ⟨hst, hpins⟩ := h
    · rw [hst]; rfl
    · rw [hst, if_neg hpins]; rfl
  · obtain hst | hst := h
    · rw [hst]; rfl
    · rw [hst]; rfl
  · obtain hst | hst | hst := h
    all_goals exact ⟨_, by rw [hst]; rfl, rfl, herased rfl⟩
  · rw [h]; rfl
  · obtain hst | hst := h
    · rw [hst]; rfl
    · rw [hst]; rfl

/-- Settles O28: READ-LICENCE replies from the slot and keeps the state. -/
theorem readLicenceShowsTheRecord : Obligations.ReadLicenceShowsTheRecord := by
  intro s tag index ht
  rw [exec_of_takes ht rfl]
  refine ⟨fun l h64 hl => ⟨?_, fun i k hk => ?_⟩, fun h64 hl => ?_, fun h64 => ⟨List.replicate 33 0, ?_⟩⟩
  · simp only [perform, doReadLicence, if_neg (Nat.not_le.mpr h64), hl]
    rfl
  · simp only [keyReport, hk]
  · simp only [perform, doReadLicence, if_neg (Nat.not_le.mpr h64), hl]
    rfl
  · simp only [perform, doReadLicence, if_pos h64]
    rfl

/-! ### COUNTER-OP (R84, R85) -/

/-- A licence given the cap it has is the same licence. -/
theorem State.modLicence_cap_self {s : State} {i : Nat} {l : Licence} (hl : s.licence i = some l) :
    s.modLicence i (fun k => { k with cap := l.cap }) = s := by
  rw [State.modLicence_eq_set hl]
  obtain ⟨hi, hentry⟩ := List.getElem?_eq_some_iff.mp (State.licence_eq_some_iff.mp hl)
  have hsame : s.licences.set i (some l) = s.licences := by rw [← hentry, List.set_getElem_self]
  simp only [hsame]

theorem capAfter_raise (l : Licence) (value : Nat) : capAfter l 1 value = max l.cap value := by
  simp only [capAfter, if_true]
  split <;> omega

theorem capAfter_lower (l : Licence) (value : Nat) :
    capAfter l 2 value = min l.cap (max (max value (l.charged + l.reserved)) 1) := by
  have h21 : ¬(2 : Byte) = 1 := by decide
  simp only [capAfter, if_neg h21, if_true]
  split <;> omega

/-- COUNTER-OP on a licence that counts (R84, R85). -/
theorem doCounterOp_of_counting {s : State} {index op : Byte} {l : Licence} (h64 : index.toNat < 64)
    (hop : op.toNat ≤ 2) (hl : s.licence index.toNat = some l)
    (hst : l.state = .loaded ∨ l.state = .opened ∨ l.state = .closing) (value : Half) :
    doCounterOp index op value s =
      (s.modLicence index.toNat (fun k => { k with cap := capAfter l op value.toNat }),
        okReply (leBytes 2 l.cap ++ leBytes 2 (capAfter l op value.toNat) ++ leBytes 2 l.charged ++
          [byteOf l.reserved, flagByte (l.cap ≠ capAfter l op value.toNat)])) := by
  have hgood : ¬(64 ≤ index.toNat ∨ 2 < op.toNat) := by omega
  simp only [doCounterOp, if_neg hgood, hl]
  obtain hst | hst | hst := hst <;> rw [hst]

/-- COUNTER-OP on a licence that counts no more (R84). -/
theorem doCounterOp_of_final {s : State} {index op : Byte} {l : Licence} (h64 : index.toNat < 64)
    (hop : op.toNat ≤ 2) (hl : s.licence index.toNat = some l)
    (hst : l.state = .revoking ∨ l.state = .closed ∨ l.state = .revoked) (value : Half) :
    doCounterOp index op value s = (s, refuse .wrongState 8) := by
  have hgood : ¬(64 ≤ index.toNat ∨ 2 < op.toNat) := by omega
  simp only [doCounterOp, if_neg hgood, hl]
  obtain hst | hst | hst := hst <;> rw [hst]

theorem doCounterOp_of_bad {s : State} {index op : Byte} (h : 64 ≤ index.toNat ∨ 2 < op.toNat)
    (value : Half) : doCounterOp index op value s = (s, refuse .badValue 8) := by
  simp only [doCounterOp, if_pos h]

theorem doCounterOp_of_empty {s : State} {index op : Byte} (h64 : index.toNat < 64) (hop : op.toNat ≤ 2)
    (hl : s.licence index.toNat = none) (value : Half) :
    doCounterOp index op value s = (s, refuse .notFound 8) := by
  have hgood : ¬(64 ≤ index.toNat ∨ 2 < op.toNat) := by omega
  simp only [doCounterOp, if_neg hgood, hl]

/-- The three rows of COUNTER-OP with the operation of each (R195). -/
theorem exec_counterOp {s : State} {tag index : Byte} {value : Half} (ht : s.takes tag) :
    ∀ c ∈ [Instr.counterOpRead tag index value, .raiseCap tag index value, .lowerCap tag index value],
      ∃ op : Byte, op.toNat ≤ 2 ∧ exec c s =
        .next ((doCounterOp index op value s).1.answer tag 0x44 (doCounterOp index op value s).2) := by
  simp only [List.forall_mem_cons, List.not_mem_nil, false_imp_iff, implies_true, and_true]
  exact ⟨⟨0, by decide, exec_of_takes (r := .counterOp index 0 value) ht rfl⟩,
    ⟨1, by decide, exec_of_takes (r := .counterOp index 1 value) ht rfl⟩,
    ⟨2, by decide, exec_of_takes (r := .counterOp index 2 value) ht rfl⟩⟩

/-- Settles O29: the clauses of `doCounterOp`, with `capAfter` as a maximum and a minimum. -/
theorem counterOpChangesTheCapAlone : Obligations.CounterOpChangesTheCapAlone := by
  refine ⟨fun s tag index value l ht h64 hl => ⟨fun hst => ?_, fun hst c hc => ?_⟩,
    fun s tag index op value ht => ⟨fun h => ?_, fun c hc => ⟨fun h64 => ?_, fun h64 hl => ?_⟩⟩⟩
  · refine ⟨?_, ?_, ?_⟩
    · rw [exec_of_takes ht rfl, perform, doCounterOp_of_counting h64 (by decide) hl hst]
      exact congrArg (fun t => Host.Outcome.next (State.answered t _ _ _)) (State.modLicence_cap_self hl)
    · rw [exec_of_takes ht rfl, perform, doCounterOp_of_counting h64 (by decide) hl hst, capAfter_raise,
        State.modLicence_eq_set hl]
      rfl
    · rw [exec_of_takes ht rfl, perform, doCounterOp_of_counting h64 (by decide) hl hst, capAfter_lower,
        State.modLicence_eq_set hl]
      rfl
  · obtain ⟨op, hop, hexec⟩ := exec_counterOp ht c hc
    rw [hexec, doCounterOp_of_final h64 hop hl hst]
    exact ⟨_, rfl⟩
  · refine ⟨List.replicate 8 0, ?_⟩
    rw [perform, doCounterOp_of_bad (by omega)]
    rfl
  · obtain ⟨op, -, hexec⟩ := exec_counterOp ht c hc
    rw [hexec, doCounterOp_of_bad (.inl h64)]
    exact ⟨_, rfl⟩
  · obtain ⟨op, hop, hexec⟩ := exec_counterOp ht c hc
    rw [hexec, doCounterOp_of_empty h64 hop hl]
    exact ⟨_, rfl⟩

end Sys2Proof.Machine

/-! ## The booth clock and the windows (R73, R86 to R90) -/

namespace Sys2Proof.Machine

theorem Licence.evaluated_eq (l : Licence) (now : Nat) :
    l.evaluated now = { l with state := judgedState l now } := by
  cases l with | mk id value mask start ending cap percent charged reserved pins state keys =>
  cases state with
  | loaded =>
    simp only [Licence.evaluated, judgedState]
    split
    · rfl
    · split <;> rfl
  | opened =>
    simp only [Licence.evaluated, judgedState]
    split
    · split <;> rfl
    · rfl
  | closing | revoking | closed | revoked => rfl

/-- LICENCE-CLOSING raised for each of a list of licences (R73). -/
def State.raiseClosings (t : State) (l : List (Nat × Id64)) : State :=
  l.foldl (fun st x => st.raise .licenceClosing none (.licenceClosing x.1 x.2)) t

theorem State.evaluateWindows_of_set {s : State} (hset : s.clock.set = true) :
    s.evaluateWindows = State.raiseClosings
      { s with licences := s.licences.map (fun o => o.map (fun l => l.evaluated s.clock.time)) }
      (closingLicences s.licences s.clock.time) := by
  rw [State.evaluateWindows, if_pos hset]
  rfl

/-- Raises touch the notice set alone. -/
theorem State.raiseClosings_eq (t : State) (l : List (Nat × Id64)) : t.raiseClosings l =
    { t with notices := (t.raiseClosings l).notices, attn := (t.raiseClosings l).attn } := by
  induction l generalizing t with
  | nil => rfl
  | cons x l ih =>
    rw [State.raiseClosings, List.foldl_cons]
    exact ih _

/-- A list of raises that is not empty leaves the notice pending (R190). -/
theorem State.raiseClosings_hasCondition {t : State} {l : List (Nat × Id64)}
    (h : l ≠ [] ∨ t.hasCondition .licenceClosing = true) :
    (t.raiseClosings l).hasCondition .licenceClosing = true := by
  induction l generalizing t with
  | nil => exact h.elim (fun h => absurd rfl h) (fun h => h)
  | cons x l ih => exact ih (.inr (any_raised t.notices .licenceClosing none _))

/-- A licence that closes with pins is among those that raise LICENCE-CLOSING (R73). -/
theorem mem_closingLicences {s : State} {i : Nat} {l : Licence} {now : Nat} (hl : s.licence i = some l)
    (hraises : l.raisesClosing now = true) : (i, l.id) ∈ closingLicences s.licences now := by
  obtain ⟨hi, hentry⟩ := List.getElem?_eq_some_iff.mp (State.licence_eq_some_iff.mp hl)
  refine List.mem_filterMap.mpr ⟨some (i, l.id), List.mem_mapIdx.mpr ⟨i, hi, ?_⟩, rfl⟩
  simp [hentry, hraises]

/-- An evaluation touches licences and notices alone. -/
theorem State.evaluateWindows_eq (s : State) : s.evaluateWindows = { s with
    licences := s.evaluateWindows.licences, notices := s.evaluateWindows.notices
    attn := s.evaluateWindows.attn } := by
  by_cases hset : s.clock.set = true
  · rw [State.evaluateWindows_of_set hset, State.raiseClosings_eq]
  · rw [State.evaluateWindows, if_neg hset]

theorem State.evaluateWindows_with (s : State) (notices : List Notice) (attn : Bool) :
    { s.evaluateWindows with notices := notices, attn := attn } =
      { s with licences := s.evaluateWindows.licences, notices := notices, attn := attn } := by
  conv_lhs => rw [s.evaluateWindows_eq]

/-- While the clock is SET, an evaluation judges every licence of `s` against its time (R73). -/
theorem WindowsJudged.of_evaluateWindows {s t : State} (hset : t.clock.set = true)
    (hlicences : t.licences = s.licences) : WindowsJudged s t.evaluateWindows t.clock.time := by
  have hlicence := State.licence_of_licences hlicences
  refine ⟨fun i => ?_, fun i l hl hopen hend hpins => ?_⟩
  · simp only [State.licence_evaluateWindows, hset, if_true, hlicence, Licence.evaluated_eq]
  · have hraises : l.raisesClosing t.clock.time = true := by simp [Licence.raisesClosing, hopen, hend, hpins]
    have hmem := mem_closingLicences ((hlicence i).trans hl) hraises
    rw [State.evaluateWindows_of_set hset]
    exact State.raiseClosings_hasCondition (.inl (List.ne_nil_of_mem hmem))

/-- CLOCK-UNSET is no notice of the windows (R90). -/
theorem WindowsJudged.refreshClockUnset {s t : State} {now : Nat} (h : WindowsJudged s t now) :
    WindowsJudged s t.refreshClockUnset now := by
  refine ⟨fun i => (State.licence_of_licences rfl i).trans (h.1 i), fun i l hl hopen hend hpins => ?_⟩
  exact (any_withCondition_of_ne t.notices _ none (by decide)).trans (h.2 i l hl hopen hend hpins)

/-- SET-TIME in UNSET (R87). -/
theorem doSetTime_of_unset {s : State} (hset : s.clock.set = false) (time : Word) : ∃ t : State,
    doSetTime time s = (t, okReply (leBytes 4 time.toNat)) ∧
      t = { s with
        licences := t.licences, notices := t.notices, attn := t.attn
        clock := { s.clock with set := true, time := time.toNat, phase := 0 } } ∧
      WindowsJudged s t time.toNat ∧ t.hasCondition .clockUnset = false := by
  let u : State := { s with clock := { s.clock with set := true, time := time.toNat, phase := 0 } }
  refine ⟨u.evaluateWindows.refreshClockUnset, ?_, ?_, ?_, ?_⟩
  · simp only [doSetTime, hset, Bool.false_eq_true, if_false]
    rfl
  · exact u.evaluateWindows_with _ _
  · exact (WindowsJudged.of_evaluateWindows (t := u) rfl rfl).refreshClockUnset
  · have hclock : u.evaluateWindows.clock.set = true := by
      rw [State.clock_of_steady u.evaluateWindows_steady]
    exact (any_withCondition _ _ _).trans (by simp [hclock])

/-- Whether an adjustment begins a new period, and the account it is made on (R88, step 1). -/
theorem BoothClock.startsPeriod_iff (c : BoothClock) : c.startsPeriod = true ↔
    ∀ p, c.periodStart = some p → p + 2592000 ≤ c.time := by
  unfold BoothClock.startsPeriod
  cases c.periodStart with
  | none => simp
  | some p =>
    simp only [Option.some.injEq, forall_eq']
    exact decide_eq_true_iff

/-- ADJUST-TIME in SET, within the account and the range of booth time (R88). -/
theorem doAdjustTime_of_room {s : State} {amount : Half} {start used : Nat} (hset : s.clock.set = true)
    (haccount : (∀ p, s.clock.periodStart = some p → p + 2592000 ≤ s.clock.time) ∧
        start = s.clock.time ∧ used = 0 ∨
      s.clock.periodStart = some start ∧ s.clock.time < start + 2592000 ∧ used = s.clock.used)
    (hroom : used + amount.toInt.natAbs ≤ 300) (hlow : 0 ≤ (s.clock.time : Int) + amount.toInt)
    (hhigh : (s.clock.time : Int) + amount.toInt ≤ 4294967295) :
    doAdjustTime amount s =
      (State.evaluateWindows { s with clock := s.clock.adjusted start used amount.toInt },
        okReply (leBytes 4 ((s.clock.time : Int) + amount.toInt).toNat ++
          leBytes 2 (used + amount.toInt.natAbs))) := by
  have hkept : (if s.clock.startsPeriod then 0 else s.clock.used) = used ∧
      (if s.clock.startsPeriod then s.clock.time else s.clock.periodStart.getD s.clock.time) = start := by
    obtain ⟨hfresh, rfl, rfl⟩ | ⟨hstart, hlater, rfl⟩ := haccount
    · simp [s.clock.startsPeriod_iff.mpr hfresh]
    · have hold : s.clock.startsPeriod = false := by
        rw [Bool.eq_false_iff, ne_eq, BoothClock.startsPeriod_iff]
        intro h
        have := h start hstart
        omega
      simp [hold, hstart]
  have hamount : ¬300 < amount.toInt.natAbs := by omega
  have hrange : ¬((s.clock.time : Int) + amount.toInt < 0 ∨
      (Config.top32 : Int) < (s.clock.time : Int) + amount.toInt) := by
    simp only [Config.top32]
    omega
  simp only [doAdjustTime, if_neg hamount, hset, Bool.not_true, Bool.false_eq_true, if_false, hkept.1, hkept.2,
    if_neg (Nat.not_lt.mpr hroom), if_neg hrange]
  rfl

/-- A tick below the top of booth time (R86). -/
theorem clockTick_of_ticking {s : State} (hset : s.clock.set = true) (htop : s.clock.time < 4294967295) :
    s.clockTick =
      if s.powered then
        State.evaluateWindows { s with clock := { s.clock with time := s.clock.time + 1, phase := 0 } }
      else { s with clock := { s.clock with time := s.clock.time + 1, phase := 0 } } := by
  have hticks : (s.clock.set && decide (s.clock.time < Config.top32)) = true :=
    Bool.and_eq_true_iff.mpr ⟨hset, decide_eq_true htop⟩
  simp only [State.clockTick, hticks, if_true]

/-- Settles O30: each way the clock moves ends in an evaluation of the windows. -/
theorem theClockMovesLicencesThroughTheirWindows : Obligations.TheClockMovesLicencesThroughTheirWindows := by
  refine ⟨fun s tag ht => ⟨fun time hset => ?_, fun time hset => ⟨List.replicate 4 0, ?_⟩,
    fun amount start used hset haccount hroom hlow hhigh => ?_,
    fun amount hamount hset => ⟨List.replicate 6 0, ?_⟩⟩, fun s => ⟨fun hset htop => ?_, fun h => ?_⟩⟩
  · obtain ⟨t, ht', hframe, hjudged⟩ := doSetTime_of_unset hset time
    refine ⟨t, ?_, hframe, hjudged⟩
    rw [exec_of_takes ht rfl, perform, ht']
    rfl
  · rw [exec_of_takes ht rfl]
    simp only [perform, doSetTime, hset, if_true]
    rfl
  · refine ⟨State.evaluateWindows { s with clock := s.clock.adjusted start used amount.toInt }, ?_, ?_, ?_⟩
    · rw [exec_of_takes ht rfl, perform, doAdjustTime_of_room hset haccount hroom hlow hhigh]
      rfl
    · exact State.evaluateWindows_eq _
    · exact .of_evaluateWindows hset rfl
  · rw [exec_of_takes ht rfl]
    simp only [perform, doAdjustTime, if_neg (Nat.not_lt.mpr hamount), hset, Bool.not_false, if_true]
    rfl
  · refine ⟨s.clockTick, rfl, ?_⟩
    rw [clockTick_of_ticking hset htop]
    by_cases hp : s.powered = true
    · rw [if_pos hp]
      exact ⟨State.evaluateWindows_eq _, fun _ => .of_evaluateWindows hset rfl,
        fun hoff => by cases hp.symm.trans hoff⟩
    · rw [if_neg hp]
      exact ⟨rfl, fun hon => absurd hon hp, fun _ => ⟨rfl, rfl, rfl⟩⟩
  · have hstill : (s.clock.set && decide (s.clock.time < Config.top32)) = false := by
      obtain hset | htop := h
      · simp [hset]
      · exact Bool.and_eq_false_iff.mpr (.inr (decide_eq_false (Nat.not_lt.mpr htop)))
    simp only [exec, execBoothClockTick, State.clockTick, hstill, Bool.false_eq_true, if_false]

end Sys2Proof.Machine

/-! ## LOAD-LICENCE and its unwrap (R76 to R79) -/

namespace Sys2Proof.Machine

/-! ### The checks of LOAD-LICENCE (R76, R77) -/

theorem keyKindOf_isSome {b : Byte} (h1 : 1 ≤ b.toNat) (h3 : b.toNat ≤ 3) : (keyKindOf b).isSome = true := by
  have hb : b = 1 ∨ b = 2 ∨ b = 3 := by
    simp only [← BitVec.toNat_inj]
    change b.toNat = 1 ∨ b.toNat = 2 ∨ b.toNat = 3
    omega
  obtain rfl | rfl | rfl := hb <;> rfl

theorem State.holdsLicence_eq_false {s : State} {id : Id64}
    (h : ∀ i l, s.licence i = some l → l.id ≠ id) : s.holdsLicence id = false := by
  simp only [State.holdsLicence, List.any_eq_false]
  intro x hx
  obtain ⟨n, hn⟩ := List.mem_iff_getElem?.mp hx
  cases x with
  | none => simp
  | some l => simpa using h n l (State.licence_eq_some_iff.mpr hn)

/-- Key ids that the table does not hold and that do not repeat are not used (R77, check 2). -/
theorem firstUsedKey_eq_none {s : State} {keys : List KeyEntry} (hfree : ∀ k ∈ keys, s.findKey k.id = none)
    {earlier : List Id64} (hearlier : ∀ k ∈ keys, k.id ∉ earlier) (hnodup : (keys.map (·.id)).Nodup) (n : Nat) :
    firstUsedKey s n earlier keys = none := by
  induction keys generalizing n earlier with
  | nil => rfl
  | cons k rest ih =>
    obtain ⟨hk, hrest⟩ := List.forall_mem_cons.mp hfree
    obtain ⟨hkearlier, hrestearlier⟩ := List.forall_mem_cons.mp hearlier
    rw [List.map_cons, List.nodup_cons] at hnodup
    have hunused : ((s.findKey k.id).isSome || earlier.contains k.id) = false := by simp [hk, hkearlier]
    simp only [firstUsedKey, hunused, Bool.false_eq_true, if_false]
    refine ih hrest (fun q hq => ?_) hnodup.2 _
    rw [List.mem_cons, not_or]
    exact ⟨fun he => hnodup.1 (he ▸ List.mem_map_of_mem (f := (·.id)) hq), hrestearlier q hq⟩

/-- LOAD-LICENCE begins its unwrap when no check refuses it. -/
theorem doLoadLicence_of_good {s : State} {load : LicenceLoad} (h1 : 1 ≤ load.keys.length)
    (h16 : load.keys.length ≤ 16) (hvalues : licenceValuesOk load = true)
    (hkeys : ∀ k ∈ load.keys, keyValuesOk k = true) (hid : s.holdsLicence load.id = false)
    (hused : firstUsedKey s 0 [] load.keys = none) (hslot : none ∈ s.licences)
    (hroom : load.keys.length ≤ s.keys.countP (·.isNone))
    (hwindow : s.clock.set = true → s.clock.time < load.windowEnd.toNat) :
    doLoadLicence load s = (s, .unwrap load) := by
  have hcount : ¬(load.keys.length < 1 ∨ 16 < load.keys.length) := by omega
  have hindex : load.keys.findIdx? (fun k => !keyValuesOk k) = none :=
    List.findIdx?_eq_none_iff.mpr fun k hk => by simp [hkeys k hk]
  have hplace : ((lowestEmpty s.licences).isNone || decide (emptySlots s.keys < load.keys.length)) = false := by
    have hempty : (lowestEmpty s.licences).isNone = false := by
      simpa [lowestEmpty] using hslot
    exact Bool.or_eq_false_iff.mpr ⟨hempty, decide_eq_false (Nat.not_lt.mpr hroom)⟩
  have hopen : (s.clock.set && decide (load.windowEnd.toNat ≤ s.clock.time)) = false := by
    cases hset : s.clock.set with
    | false => rfl
    | true => simpa using hwindow hset
  simp only [doLoadLicence, if_neg hcount, hvalues, hindex, hid, hused, hplace, hopen, Bool.not_true,
    Bool.false_eq_true, if_false]

/-! ### Keys stored (R79) -/

/-- The key record that a key of a load becomes (R79). -/
def storedKey (owner : Nat) (k : KeyEntry) (m : Material) : KeyRecord :=
  { id := k.id, kind := (keyKindOf k.kind).getD .picture, owner := owner, material := m }

theorem storeKeys_cons {table : List (Option KeyRecord)} {i : Nat} (hi : lowestEmpty table = some i)
    (owner : Nat) (k : KeyEntry) (m : Material) (rest : List (KeyEntry × Material)) :
    storeKeys owner ((k, m) :: rest) table =
      ((storeKeys owner rest (table.set i (some (storedKey owner k m)))).1,
        i :: (storeKeys owner rest (table.set i (some (storedKey owner k m)))).2) := by
  simp only [storeKeys, hi]
  rfl

/-- What `storeKeys` makes of a table with room: the entries stand, in order, in its lowest EMPTY slots. -/
structure KeysStored (owner : Nat) (entries : List (KeyEntry × Material)) (table table' : List (Option KeyRecord))
    (slots : List Nat) : Prop where
  length : slots.length = entries.length
  sorted : slots.Pairwise (· < ·)
  empty : ∀ j ∈ slots, table[j]? = some none
  stored : ∀ (n : Nat) (k : KeyEntry) (m : Material), entries[n]? = some (k, m) → ∃ j, slots[n]? = some j ∧
    table'[j]? = some (some (storedKey owner k m))
  kept : ∀ j, j ∉ slots → table'[j]? = table[j]?
  lowest : ∀ j, table[j]? = some none → j ∉ slots → ∀ x ∈ slots, x < j

theorem storeKeys_stored (owner : Nat) {entries : List (KeyEntry × Material)} {table : List (Option KeyRecord)}
    (hroom : entries.length ≤ table.countP (·.isNone)) :
    KeysStored owner entries table (storeKeys owner entries table).1 (storeKeys owner entries table).2 := by
  induction entries generalizing table with
  | nil => exact ⟨rfl, .nil, nofun, nofun, fun _ _ => rfl, nofun⟩
  | cons e rest ih =>
    obtain ⟨k, m⟩ := e
    obtain ⟨i, hi⟩ : ∃ i, lowestEmpty table = some i := by
      obtain ⟨o, ho, hnone⟩ := List.countP_pos_iff.mp (Nat.lt_of_lt_of_le (Nat.succ_pos _) hroom)
      exact Option.isSome_iff_exists.mp
        (List.findIdx?_isSome ▸ List.any_eq_true.mpr ⟨o, ho, hnone⟩)
    obtain ⟨hempty, hbelow⟩ := (lowestEmpty_eq_some table i).mp hi
    obtain ⟨hlt, hentry⟩ := List.getElem?_eq_some_iff.mp hempty
    have hroom' : rest.length ≤ (table.set i (some (storedKey owner k m))).countP (·.isNone) := by
      rw [List.length_cons] at hroom
      simp only [List.countP_set hlt, hentry, Option.isNone_none, Option.isNone_some, if_true,
        Bool.false_eq_true, if_false]
      omega
    have hset (j : Nat) : (table.set i (some (storedKey owner k m)))[j]? =
        if j = i then some (some (storedKey owner k m)) else table[j]? := by
      rw [List.getElem?_set]
      grind
    have hrest := ih hroom'
    rw [storeKeys_cons hi]
    generalize storeKeys owner rest (table.set i (some (storedKey owner k m))) = r at hrest ⊢
    have hfree (x : Nat) (hx : x ∈ r.2) : x ≠ i ∧ table[x]? = some none := by
      have := hrest.empty x hx
      rw [hset] at this
      split at this
      · cases this
      · exact ⟨by assumption, this⟩
    have habove (x : Nat) (hx : table[x]? = some none) (hne : x ≠ i) : i < x := by
      by_contra hle
      exact hbelow x (by omega) hx
    have hi' : i ∉ r.2 := fun h => (hfree i h).1 rfl
    refine ⟨by simp [hrest.length], List.pairwise_cons.mpr ⟨fun x hx => ?_, hrest.sorted⟩, ?_, ?_, ?_, ?_⟩
    · exact habove x (hfree x hx).2 (hfree x hx).1
    · rintro j (_ | ⟨_, hj⟩)
      · exact hempty
      · exact (hfree j hj).2
    · intro n q w hn
      cases n with
      | zero =>
        cases hn
        exact ⟨i, rfl, by rw [hrest.kept i hi', hset, if_pos rfl]⟩
      | succ n => exact hrest.stored n q w hn
    · intro j hj
      rw [List.mem_cons, not_or] at hj
      rw [hrest.kept j hj.2, hset, if_neg hj.1]
    · intro j hj hnot x hx
      rw [List.mem_cons, not_or] at hnot
      obtain rfl | hx := List.mem_cons.mp hx
      · exact habove j hj hnot.1
      · exact hrest.lowest j (by rw [hset, if_neg hnot.1]; exact hj) hnot.2 x hx

/-! ### The unwrap of a load's keys (R78) -/

/-- A key of a load with its result. -/
theorem unwrappedMaterials_getElem? {load : LicenceLoad} {n : Nat} {k : KeyEntry}
    (hk : load.keys[n]? = some k) (passes : List Bool) :
    (unwrappedMaterials load passes)[n]? = some (unwrapKey k.wrapped (passes.getD n false)) := by
  simp [unwrappedMaterials, hk]

theorem unwrappedKeys_length (load : LicenceLoad) (passes : List Bool) :
    (unwrappedKeys load (unwrappedMaterials load passes)).length = load.keys.length := by
  simp [unwrappedKeys, unwrappedMaterials]

/-- A key of a load with its material. -/
theorem unwrappedKeys_getElem? {load : LicenceLoad} {n : Nat} {k : KeyEntry} {m : Material} {passes : List Bool}
    (hk : load.keys[n]? = some k) (hm : unwrapKey k.wrapped (passes.getD n false) = some m) :
    (unwrappedKeys load (unwrappedMaterials load passes))[n]? = some (k, m) := by
  rw [unwrappedKeys, List.getElem?_zip_eq_some, List.getElem?_map, unwrappedMaterials_getElem? hk, hm]
  exact ⟨hk, rfl⟩

/-- A sealed key unwraps, and of other bytes the operand says whether they do (log entry 4). -/
theorem unwrapKey_isSome {w : WrappedKey} {passes : Bool} (h : (∃ x, w = sealKey x) ∨ passes = true) :
    (unwrapKey w passes).isSome = true := by
  unfold unwrapKey
  split
  · rfl
  · rename_i hs
    rw [isSealed_iff] at hs
    rw [if_pos (h.resolve_left hs)]
    rfl

/-- No key fails when each one's result is a material. -/
theorem firstFailedUnwrap_eq_none {load : LicenceLoad} {passes : List Bool}
    (h : ∀ (n : Nat) (k : KeyEntry), load.keys[n]? = some k →
      (unwrapKey k.wrapped (passes.getD n false)).isSome = true) :
    firstFailedUnwrap load.keys.length (unwrappedMaterials load passes) = none := by
  refine List.find?_range_eq_none.mpr fun n hn => ?_
  have hk : load.keys[n]? = some load.keys[n] := List.getElem?_eq_getElem hn
  rw [unwrappedMaterials_getElem? hk, Option.join_some]
  simpa using h n _ hk

/-- The first failing key is the one that all before it pass (R78). -/
theorem firstFailedUnwrap_eq_some {load : LicenceLoad} {passes : List Bool} {n : Nat} {k : KeyEntry}
    (hk : load.keys[n]? = some k) (hfails : unwrapKey k.wrapped (passes.getD n false) = none)
    (hbefore : ∀ j < n, ∀ q, load.keys[j]? = some q → (unwrapKey q.wrapped (passes.getD j false)).isSome = true) :
    firstFailedUnwrap load.keys.length (unwrappedMaterials load passes) = some n := by
  obtain ⟨hn, -⟩ := List.getElem?_eq_some_iff.mp hk
  refine List.find?_range_eq_some.mpr ⟨?_, List.mem_range.mpr hn, fun j hj => ?_⟩
  · rw [unwrappedMaterials_getElem? hk, hfails]
    rfl
  · have hq : load.keys[j]? = some load.keys[j] := List.getElem?_eq_getElem (hj.trans hn)
    rw [unwrappedMaterials_getElem? hq, Option.join_some]
    simpa using hbefore j hj _ hq

/-- The end of an unwrap replies to the LOAD-LICENCE that holds the execution place. -/
theorem exec_licenceUnwrapComplete {s : State} {e : Executing} {load : LicenceLoad} (hp : s.powered = true)
    (he : s.link.executing = some e) (hstage : e.stage = .unwrapping load) (passes : List Bool) :
    exec (.licenceUnwrapComplete passes) s = .next
      ((completeLicence load (unwrappedMaterials load passes) s).1.answered e.tag e.kind
        (completeLicence load (unwrappedMaterials load passes) s).2) := by
  simp only [exec, execLicenceUnwrapComplete, whenPowered, hp, if_true, State.unwrapComplete, he, hstage]
  rfl

/-- The licence that an unwrapped load becomes (R79). -/
def enteredLicence (load : LicenceLoad) (state : LicenceState) (slots : List Nat) : Licence :=
  { id := load.id, matchValue := load.matchValue, matchMask := load.matchMask,
    windowStart := load.windowStart.toNat, windowEnd := load.windowEnd.toNat, cap := load.cap.toNat,
    percent := load.percent.toNat, charged := 0, reserved := 0, pins := 0, state := state, keys := slots }

theorem completeLicence_of_good {s : State} {load : LicenceLoad} {results : List (Option Material)} {i : Nat}
    (hall : firstFailedUnwrap load.keys.length results = none)
    (hwindow : s.clock.set = true → s.clock.time < load.windowEnd.toNat)
    (hi : lowestEmpty s.licences = some i) :
    completeLicence load results s =
      ({ s with
          keys := (storeKeys i (unwrappedKeys load results) s.keys).1
          licences := s.licences.set i (some (enteredLicence load (entryState s.clock load.windowStart.toNat)
            (storeKeys i (unwrappedKeys load results) s.keys).2)) },
        [0, byteOf i, (entryState s.clock load.windowStart.toNat).code]) := by
  have hopen : (s.clock.set && decide (load.windowEnd.toNat ≤ s.clock.time)) = false := by
    cases hset : s.clock.set with
    | false => rfl
    | true => simpa using hwindow hset
  simp only [completeLicence, hall, hopen, Bool.false_eq_true, if_false, hi]
  rfl

theorem entryState_eq (clock : BoothClock) (start : Nat) : entryState clock start =
    if clock.set = true ∧ start ≤ clock.time then .opened else .loaded := by
  simp [entryState]

/-- Settles O26: the checks of LOAD-LICENCE pass, and its unwrap ends as its keys and the window say. -/
theorem licencesLoadThroughTheirUnwrap : Obligations.LicencesLoadThroughTheirUnwrap := by
  refine ⟨fun s tag load ht h1 h16 hid hwindow hcap hlow hhigh hkeys hnodup hnew hslot hroom hopen => ?_,
    fun s e load passes hp he hstage => ?_⟩
  · have hvalues : licenceValuesOk load = true := by
      simp only [licenceValuesOk, hid, hwindow, hcap, hlow, hhigh, ne_eq, not_false_eq_true, decide_true,
        Bool.and_self]
    have hgood : ∀ k ∈ load.keys, keyValuesOk k = true := fun k hk => by
      obtain ⟨hk0, hk1, hk3, -⟩ := hkeys k hk
      simp only [keyValuesOk, hk0, keyKindOf_isSome hk1 hk3, ne_eq, not_false_eq_true, decide_true, Bool.and_self]
    have hused := firstUsedKey_eq_none (fun k hk => (hkeys k hk).2.2.2) (earlier := []) (fun _ _ => nofun) hnodup 0
    rw [exec_of_takes ht rfl, perform, doLoadLicence_of_good h1 h16 hvalues hgood
      (State.holdsLicence_eq_false hnew) hused hslot hroom hopen]
    rfl
  · rw [exec_licenceUnwrapComplete hp he hstage]
    refine ⟨fun ms i hms hmaterials hkinds hopen hi hbelow hroom => ?_, fun n k hk hsealed hpass hbefore => ?_,
      fun hall hset hended => ?_⟩
    · have hresult (n : Nat) (k : KeyEntry) (m : Material) (hk : load.keys[n]? = some k) (hm : ms[n]? = some m) :
          unwrapKey k.wrapped (passes.getD n false) = some m := by
        obtain hwrapped | ⟨hunsealed, hpass, rfl⟩ := hmaterials n k m hk hm
        · rw [hwrapped, unwrapKey_sealKey]
        · simp [unwrapKey_of_unsealed hunsealed, List.getD_eq_getElem?_getD, hpass]
      have hall : ∀ (n : Nat) (k : KeyEntry), load.keys[n]? = some k →
          (unwrapKey k.wrapped (passes.getD n false)).isSome = true := fun n k hk => by
        obtain ⟨hn, -⟩ := List.getElem?_eq_some_iff.mp hk
        rw [hresult n k _ hk (List.getElem?_eq_getElem (hms ▸ hn))]
        rfl
      have hstored := storeKeys_stored i (entries := unwrappedKeys load (unwrappedMaterials load passes))
        (unwrappedKeys_length load passes ▸ hroom)
      rw [completeLicence_of_good (firstFailedUnwrap_eq_none hall) hopen
        ((lowestEmpty_eq_some s.licences i).mpr ⟨hi, hbelow⟩)]
      refine ⟨_, _, _, entryState_eq .., rfl, rfl, hstored.length.trans (unwrappedKeys_length load passes),
        hstored.sorted, fun n k m kind hk hm hkind => ?_, fun j hj => congrArg Option.join (hstored.kept j hj),
        hstored.lowest⟩
      obtain ⟨j, hj, hrecord⟩ := hstored.stored n k m (unwrappedKeys_getElem? hk (hresult n k m hk hm))
      refine ⟨j, hj, hstored.empty j (List.mem_of_getElem? hj), ?_⟩
      simp only [State.key, hrecord, Option.join_some, storedKey, hkind, Option.getD_some]
    · have hfails : unwrapKey k.wrapped (passes.getD n false) = none := by
        rw [unwrapKey_of_unsealed hsealed, hpass, if_neg Bool.false_ne_true]
      have hfirst := firstFailedUnwrap_eq_some hk hfails fun j hj q hq => unwrapKey_isSome (hbefore j hj q hq)
      simp only [completeLicence, hfirst]
      rfl
    · have hnone := firstFailedUnwrap_eq_none fun n k hk => unwrapKey_isSome (hall n k hk)
      have hclosed : (s.clock.set && decide (load.windowEnd.toNat ≤ s.clock.time)) = true := by simp [hset, hended]
      simp only [completeLicence, hnone, hclosed, if_true]
      rfl

end Sys2Proof.Machine

/-! ## What a presented frame writes (R93, R101 to R104)

`State.countPresentation` and `State.closeAtFrame` on the log, the records and the licences. -/

namespace Sys2Proof.Machine

/-! ### Log records -/

theorem State.modLog_log (s : State) (q : Option Nat) (f : LogRecord → LogRecord) :
    (s.modLog q f).log = s.log.map (fun g => if q = some g.seq then f g else g) := by
  cases q with
  | none => simp [State.modLog]
  | some n => simp [State.modLog, eq_comm (a := n)]

/-- Two changes of one log record are one. -/
theorem map_map_logRecord (l : List LogRecord) (q : Option Nat) {f : LogRecord → LogRecord}
    (hf : ∀ g, (f g).seq = g.seq) (h : LogRecord → LogRecord) :
    (l.map (fun g => if q = some g.seq then f g else g)).map (fun g => if q = some g.seq then h g else g) =
      l.map (fun g => if q = some g.seq then h (f g) else g) := by
  rw [List.map_map]
  refine List.map_congr_left fun g _ => ?_
  by_cases hg : q = some g.seq
  · simp only [Function.comp_apply, if_pos hg, hf]
  · simp only [Function.comp_apply, if_neg hg]

/-- The counts of a record in its log record, and the first-frame time (R101). -/
def LogRecord.presentedAt (a : AdmissionRecord) (now presented damaged : Nat) (g : LogRecord) : LogRecord :=
  { g with
    presented := presented, held := a.held, damaged := damaged
    firstFrame := if a.presented = 0 then some now else g.firstFrame }

/-- The counted time (R102). -/
def LogRecord.countedAt (reached : Bool) (now : Nat) (g : LogRecord) : LogRecord :=
  { g with counted := if reached then some now else g.counted }

/-- The close of a log record (R103). -/
def LogRecord.closedAt (now : Nat) (o : LogOutcome) (g : LogRecord) : LogRecord :=
  { g with ended := some now, outcome := some o, closed := true }

theorem State.modLog_modLog (s : State) (q : Option Nat) {f : LogRecord → LogRecord}
    (hf : ∀ g, (f g).seq = g.seq) (h : LogRecord → LogRecord) :
    (s.modLog q f).modLog q h = s.modLog q (h ∘ f) := by
  have hlog : ((s.modLog q f).modLog q h).log = (s.modLog q (h ∘ f)).log := by
    simp only [State.modLog_log, map_map_logRecord s.log q hf]
    rfl
  cases q with
  | none => rfl
  | some n => exact congrArg (fun l => { s with log := l }) hlog

/-! ### The counts of a presentation (R101, R102) -/

/-- A record with the counts of a presentation of `a`, and its charged flag (R93, R101, R102). -/
def AdmissionRecord.presentedAt (a : AdmissionRecord) (presented damaged : Nat) (charges : Bool)
    (r : AdmissionRecord) : AdmissionRecord :=
  { r with presented := presented, held := a.held, damaged := damaged, charged := charges || r.charged }

/-- Whether a presentation of a record reaches its count point (R102). -/
def AdmissionRecord.reachesCount (a : AdmissionRecord) : Bool :=
  a.chargeable && decide (a.countPoint = some (a.presented + 1))

/-- Whether the count point charges a licence (R102). -/
def AdmissionRecord.chargesNow (a : AdmissionRecord) : Bool :=
  a.reachesCount && a.licence.isSome && !a.charged

section
variable {s : State} {ch : ChannelId} {a : AdmissionRecord}

/-- A presentation's counts and times, before the count point is judged (R101). -/
def State.presentCounts (s : State) (ch : ChannelId) (a : AdmissionRecord) (presented damaged : Nat) : State :=
  (s.modRecord ch a.ident (AdmissionRecord.presentedAt a presented damaged false)).modLog a.logSeq
    (LogRecord.presentedAt a s.clock.time presented damaged)

theorem State.countPresentation_eq (hr : (s.chan ch).record a.ident = some a) (isDamaged : Bool) {damaged : Nat}
    (hd : damaged = if isDamaged then bump32 a.damaged else a.damaged) :
    s.countPresentation ch a.ident isDamaged =
      if a.reachesCount then (s.presentCounts ch a (bump32 a.presented) damaged).reachCountPoint ch a
      else s.presentCounts ch a (bump32 a.presented) damaged := by
  have htimed : (if a.presented = 0 then (s.writeCounts ch a (bump32 a.presented) a.held damaged).modLog a.logSeq
        (fun g => { g with firstFrame := some s.clock.time })
      else s.writeCounts ch a (bump32 a.presented) a.held damaged) =
      s.presentCounts ch a (bump32 a.presented) damaged := by
    unfold State.presentCounts State.writeCounts
    split
    · rename_i h0
      refine (State.modLog_modLog _ _ (by intro _; rfl) _).trans
        (congrArg (State.modLog _ a.logSeq) (funext fun g => ?_))
      simp only [Function.comp_apply, LogRecord.presentedAt, if_pos h0]
    · rename_i h0
      refine congrArg (State.modLog _ a.logSeq) (funext fun g => ?_)
      simp only [LogRecord.presentedAt, if_neg h0]
  simp only [State.countPresentation, hr, ← hd, htimed, AdmissionRecord.reachesCount,
    Bool.and_comm a.chargeable]

theorem State.presentCounts_steady (presented damaged : Nat) :
    (s.presentCounts ch a presented damaged).steady = s.steady := by simp [State.presentCounts]

theorem State.presentCounts_log (presented damaged : Nat) :
    (s.presentCounts ch a presented damaged).log = s.log.map (fun g =>
      if a.logSeq = some g.seq then g.presentedAt a s.clock.time presented damaged else g) := by
  rw [State.presentCounts, State.modLog_log, State.modRecord_log]

theorem State.presentCounts_chan (presented damaged : Nat) :
    (s.presentCounts ch a presented damaged).chan ch = { s.chan ch with
      records := (s.chan ch).records.map (fun r =>
        if r.ident = a.ident then a.presentedAt presented damaged false r else r) } := by
  simp [State.presentCounts, State.modRecord]

/-- The charge at the count point (R102). -/
def State.chargeRecord (s : State) (ch : ChannelId) (a : AdmissionRecord) : State :=
  if a.licence.isSome && !a.charged then s.chargeTo (a.licence.getD 0) ch a else s

theorem State.reachCountPoint_eq (s : State) (ch : ChannelId) (a : AdmissionRecord) : s.reachCountPoint ch a =
    ((s.chargeRecord ch a).modLog a.logSeq (LogRecord.countedAt true s.clock.time)).raise .showCounted
      (some ch) (.showCounted a.item (a.logSeq.getD 0) a.licence) := by
  have hcharge : (match a.licence with
      | some i =>
        if a.charged then s
        else (s.modLicence i Licence.charge).modRecord ch a.ident (fun x => { x with charged := true })
      | none => s) = s.chargeRecord ch a := by
    unfold State.chargeRecord
    cases a.licence with
    | none => rfl
    | some i => cases a.charged <;> rfl
  rw [← hcharge]
  rfl

theorem State.chargeRecord_steady : (s.chargeRecord ch a).steady = s.steady := by
  unfold State.chargeRecord
  split
  · exact s.chargeTo_steady _ ch a
  · rfl

theorem State.chargeRecord_log : (s.chargeRecord ch a).log = s.log ∧
    (s.chargeRecord ch a).nextSeq = s.nextSeq := by
  unfold State.chargeRecord
  split
  · simp [State.chargeTo]
  · exact ⟨rfl, rfl⟩

theorem State.chargeRecord_chan : (s.chargeRecord ch a).chan ch = { s.chan ch with
    records := (s.chan ch).records.map (fun r => if r.ident = a.ident then
      { r with charged := (a.licence.isSome && !a.charged) || r.charged } else r) } := by
  unfold State.chargeRecord
  split
  · rename_i hcharges
    simp [State.chargeTo, State.modRecord, hcharges]
  · rename_i hcharges
    simp [hcharges]

/-- All that the count of a presentation writes (R101, R102). -/
structure Counted (s t : State) (ch : ChannelId) (a : AdmissionRecord) (presented damaged : Nat) : Prop where
  clock : t.clock = s.clock
  nextSeq : t.nextSeq = s.nextSeq
  log : t.log = s.log.map (fun g => if a.logSeq = some g.seq then
    (g.presentedAt a s.clock.time presented damaged).countedAt a.reachesCount s.clock.time else g)
  records : (t.chan ch).records = (s.chan ch).records.map (fun r =>
    if r.ident = a.ident then a.presentedAt presented damaged a.chargesNow r else r)
  nextIdent : (t.chan ch).nextIdent = (s.chan ch).nextIdent
  notices : a.reachesCount = true → t.pends .showCounted (some ch)
  licences : a.chargesNow = false → t.licences = s.licences
  licence : a.chargesNow = true → ∀ j, t.licence j =
    if a.licence = some j then (s.licence j).map Licence.charge else s.licence j

theorem State.countPresentation_counted (hr : (s.chan ch).record a.ident = some a) (isDamaged : Bool)
    {damaged : Nat} (hd : damaged = if isDamaged then bump32 a.damaged else a.damaged) :
    Counted s (s.countPresentation ch a.ident isDamaged) ch a (bump32 a.presented) damaged := by
  have hcounts := s.presentCounts_steady (ch := ch) (a := a) (bump32 a.presented) damaged
  have hclock := State.clock_of_steady hcounts
  have hlog := s.presentCounts_log (ch := ch) (a := a) (bump32 a.presented) damaged
  have hchan := s.presentCounts_chan (ch := ch) (a := a) (bump32 a.presented) damaged
  have hlicences : (s.presentCounts ch a (bump32 a.presented) damaged).licences = s.licences := by
    simp [State.presentCounts]
  have hnextSeq : (s.presentCounts ch a (bump32 a.presented) damaged).nextSeq = s.nextSeq := by
    simp [State.presentCounts]
  rw [State.countPresentation_eq hr isDamaged hd]
  generalize s.presentCounts ch a (bump32 a.presented) damaged = t at *
  cases hreached : a.reachesCount with
  | false =>
    have hquiet : a.chargesNow = false := by simp [AdmissionRecord.chargesNow, hreached]
    rw [if_neg Bool.false_ne_true]
    refine ⟨hclock, hnextSeq, ?_, ?_, by rw [hchan], fun h => ?_, fun _ => hlicences, fun h => ?_⟩
    · rw [hreached]
      exact hlog
    · rw [hchan, hquiet]
    · cases hreached.symm.trans h
    · cases hquiet.symm.trans h
  | true =>
    have hcharges : a.chargesNow = (a.licence.isSome && !a.charged) := by
      simp [AdmissionRecord.chargesNow, hreached]
    rw [if_pos rfl, State.reachCountPoint_eq]
    refine ⟨?_, ?_, ?_, ?_, ?_, fun _ => State.pends_raise .., fun h => ?_, fun h j => ?_⟩
    · simpa [State.clock_of_steady State.chargeRecord_steady] using hclock
    · simpa [State.chargeRecord_log.2] using hnextSeq
    · simp only [State.raise_log, State.modLog_log, State.chargeRecord_log.1, hlog, hclock, hreached]
      exact map_map_logRecord s.log a.logSeq (f := LogRecord.presentedAt a _ _ _) (fun _ => rfl) _
    · simp only [State.raise_chan, State.modLog_chan, State.chargeRecord_chan, hchan, List.map_map, hcharges]
      refine List.map_congr_left fun r _ => ?_
      by_cases hid : r.ident = a.ident
      · simp [hid, AdmissionRecord.presentedAt]
      · simp [hid]
    · simp [State.chargeRecord_chan, hchan]
    · rw [State.raise_licences, State.modLog_licences, State.chargeRecord, ← hcharges, h, if_neg Bool.false_ne_true,
        hlicences]
    · obtain ⟨i, hi⟩ : ∃ i, a.licence = some i := by
        rw [hcharges, Bool.and_eq_true] at h
        exact Option.isSome_iff_exists.mp h.1
      rw [State.licence_of_licences (State.raise_licences ..), State.licence_of_licences (State.modLog_licences ..),
        State.chargeRecord, ← hcharges, h, if_pos rfl, State.licence_chargeTo, State.licence_of_licences hlicences]
      simp [hi, eq_comm (a := i)]

/-! ### The close and the next-item occasion (R94, R98, R103, R104) -/

/-- What a next-item occasion appends: at most one record, with its log record and its reservation. -/
structure Appended (s t : State) (ch : ChannelId) (later : List LogRecord) (next : List AdmissionRecord) :
    Prop where
  log : t.log = s.log ++ later
  seq : ∀ g ∈ later, g.seq = s.nextSeq
  records : (t.chan ch).records = (s.chan ch).records ++ next
  ident : ∀ r ∈ next, r.ident = (s.chan ch).nextIdent
  single : next.length ≤ 1
  notices : s.pends .showCounted (some ch) → t.pends .showCounted (some ch)
  licence : ∀ i l, s.licence i = some l → ∃ l', t.licence i = some l' ∧ l'.charged = l.charged ∧
    l'.reserved = l.reserved + next.countP (fun r => r.licence = some i)

theorem Appended.of_books {t : State} (hlog : t.log = s.log) (hbooks : t.books = s.books)
    (hnotices : s.pends .showCounted (some ch) → t.pends .showCounted (some ch)) : Appended s t ch [] [] :=
  ⟨by simp [hlog], nofun, by simp [State.records_of_books hbooks], nofun, Nat.zero_le _, hnotices,
    fun i l hl => ⟨l, (State.licence_of_books hbooks i).trans hl, rfl, rfl⟩⟩

theorem State.openAdmission_log (s : State) (ch : ChannelId) (c : Composition) (item slot reel : Nat)
    (licence : Option Nat) : (s.openAdmission ch c item slot reel licence).log =
      s.log ++ if needsLog c reel then [freshLogRecord s ch c reel licence] else [] := by
  simp only [State.openAdmission, State.modChan_log]
  cases licence <;> cases needsLog c reel <;> simp [State.takeLog]

theorem State.admitAndFetch_appended (s : State) (ch : ChannelId) (c : Composition) (item slot reel : Nat)
    (licence : Option Nat) : Appended s (s.admitAndFetch ch c item slot reel licence) ch
      (if needsLog c reel then [freshLogRecord s ch c reel licence] else [])
      [freshRecord s ch c item slot reel licence] := by
  have hbooks : (s.admitAndFetch ch c item slot reel licence).books =
      (s.enrol ch (freshRecord s ch c item slot reel licence)).books :=
    (State.fetchNewest_books ..).trans (s.openAdmission_books ..)
  refine ⟨?_, fun g hg => ?_, ?_, fun r hr => ?_, le_rfl, fun h => ?_, fun i l hl => ?_⟩
  · rw [State.admitAndFetch, State.fetchNewest_log, State.openAdmission_log]
  · split at hg
    · obtain rfl := List.mem_singleton.mp hg
      rfl
    · cases hg
  · rw [State.admitAndFetch_chan]
  · obtain rfl := List.mem_singleton.mp hr
    rfl
  · exact h.admitAndFetch ch (by decide) c item slot reel licence
  · rw [State.licence_of_books hbooks, State.licence_enrol, hl, List.countP_singleton]
    by_cases hi : (freshRecord s ch c item slot reel licence).licence = some i
    · exact ⟨l.reserveAndPin, by simp [hi], rfl, by simp [hi, Licence.reserveAndPin]⟩
    · exact ⟨l, by simp [hi], rfl, by simp [hi]⟩

theorem State.nextItemOccasion_appended (s : State) (ch : ChannelId) :
    ∃ later next, Appended s (s.nextItemOccasion ch) ch later next := by
  have hnotices (h : s.pends .showCounted (some ch)) := State.pends.nextItemOccasion ch h (by decide)
  obtain h | h | ⟨item, st, h⟩ | ⟨c, item, slot, reel, licence, h⟩ := s.nextItemOccasion_cases ch
  · exact ⟨[], [], .of_books (by rw [h]) (by rw [h]) hnotices⟩
  · exact ⟨[], [], .of_books (by rw [h]; simp) (by rw [h]; simp) hnotices⟩
  · exact ⟨[], [], .of_books (by rw [h]; simp) (by rw [h]; simp) hnotices⟩
  · exact ⟨_, _, h ▸ s.admitAndFetch_appended ch c item slot reel licence⟩

theorem State.closeRecord_log (s : State) (ch : ChannelId) (r : AdmissionRecord) (o : LogOutcome) :
    (s.closeRecord ch r o).log = s.log.map (fun g =>
      if r.logSeq = some g.seq then g.closedAt s.clock.time o else g) := by
  rw [State.closeRecord, State.dropRecord_log, State.modLog_log]
  rfl

/-- A licence whose record closes charged keeps its counts (R103). -/
theorem Licence.left_false_counts (l : Licence) :
    (l.left false).charged = l.charged ∧ (l.left false).reserved = l.reserved := by
  simp only [Licence.left, Bool.false_eq_true, if_false, Licence.unpinned, Licence.lastUnpinned]
  (repeat' split) <;> exact ⟨rfl, rfl⟩

/-- The record that closes, as the close finds it: counted (R103, R104). -/
theorem Counted.record {t : State} {presented damaged : Nat} (h : Counted s t ch a presented damaged)
    (hr : (s.chan ch).record a.ident = some a) :
    (t.chan ch).record a.ident = some (a.presentedAt presented damaged a.chargesNow a) := by
  have hkeep : ((fun r : AdmissionRecord => decide (r.ident = a.ident)) ∘ fun r =>
      if r.ident = a.ident then a.presentedAt presented damaged a.chargesNow r else r) =
        fun r => decide (r.ident = a.ident) := by
    funext r
    by_cases hid : r.ident = a.ident <;> simp [hid, AdmissionRecord.presentedAt]
  unfold Channel.record at hr ⊢
  rw [h.records, List.find?_map, hkeep, hr]
  simp

/-- Whether a record closes at the deadline that presents one of its frames (R103, R104, R139). -/
def AdmissionRecord.closesAt (a : AdmissionRecord) (lastFrame committed knownEnd : Bool) : Bool :=
  if a.chargeable then lastFrame && !committed else knownEnd

/-- The outcome that a record closes with at a presented frame (R103, R104). -/
def State.closingOutcome (s : State) (r : AdmissionRecord) : LogOutcome :=
  if r.chargeable then s.lastFrameOutcome r else .jumpedAway

theorem State.closeAtFrame_eq {r : AdmissionRecord} {f : Frame} (hr : (s.chan ch).record f.record = some r)
    (lastFrame committed knownEnd : Bool) : s.closeAtFrame ch f lastFrame committed knownEnd =
      if r.closesAt lastFrame committed knownEnd then
        (s.closeRecord ch r (s.closingOutcome r)).nextItemOccasion ch
      else s := by
  simp only [State.closeAtFrame, hr, AdmissionRecord.closesAt, State.closingOutcome]
  by_cases hc : r.chargeable = true <;> simp [hc]

end

end Sys2Proof.Machine

/-! ## The deadline that presents a frame (R113, R120, R121, R145) -/

namespace Sys2Proof.Machine

/-- The books with the showing log: what a presentation hands to the showing counter leaves alone. -/
def State.ledger (s : State) :
    (Bool × BoothClock × List (Option Licence) × (List AdmissionRecord × Nat) ×
      (List AdmissionRecord × Nat)) × List LogRecord × Nat :=
  (s.books, s.log, s.nextSeq)

theorem State.ledger_eq {s t : State} (hbooks : t.books = s.books) (hlog : t.log = s.log)
    (hseq : t.nextSeq = s.nextSeq) : t.ledger = s.ledger := by
  simp only [State.ledger, hbooks, hlog, hseq]

section
variable {s : State} {ch : ChannelId}

theorem State.modChan_ledger {f : Channel → Channel} (h : (f (s.chan ch)).roll = (s.chan ch).roll) :
    (s.modChan ch f).ledger = s.ledger :=
  State.ledger_eq (s.modChan_books h) (by simp) (by simp)

theorem State.putSubs_ledger (x : SubsResult) : (s.putSubs ch x).ledger = s.ledger :=
  State.ledger_eq (by simp) (by simp) (by simp)

theorem State.raiseDamage_ledger (f : Frame) : (s.raiseDamage ch f).ledger = s.ledger :=
  State.ledger_eq (by simp) (by simp) (by simp)

/-- A presented slot counts and closes on the ledger that stood before (R121). -/
theorem State.present_cases {f : Frame} {comp : Composition} (hcomp : s.itemComposition ch f.pos.item = some comp)
    (target committed knownEnd : Bool) : ∃ u : State, u.ledger = s.ledger ∧
      s.present ch f target committed knownEnd =
        (u.countPresentation ch f.record f.damaged).closeAtFrame ch f
          (comp.isLastFrame f.pos.reel f.pos.frame) committed knownEnd := by
  simp only [State.present, hcomp]
  refine ⟨_, ?_, rfl⟩
  refine (State.raiseDamage_ledger f).trans ((State.modChan_ledger rfl).trans
    ((State.putSubs_ledger _).trans (State.modChan_ledger ?_)))
  exact (Channel.giveSound_roll ..).trans (Channel.showPicture_roll ..)

theorem State.presentNext_cases {f : Frame} {comp : Composition}
    (hcomp : s.itemComposition ch f.pos.item = some comp) : ∃ u : State, u.ledger = s.ledger ∧
      s.presentNext ch f = (u.countPresentation ch f.record f.damaged).closeAtFrame ch f
        (comp.isLastFrame f.pos.reel f.pos.frame) (isCommitted (s.chan ch).jump)
        (isLastCommitted (s.chan ch).jump) := by
  have hmoved : State.itemComposition (s.modChan ch (fun c =>
      { c with jump := (s.chan ch).jump.bind PendingJump.afterFrame })) ch f.pos.item = some comp := by
    rw [← hcomp]
    simp [State.itemComposition, Channel.item, State.composition, State.compositionSlot]
  obtain ⟨u, hu, hpresent⟩ := State.present_cases hmoved (isTargetWait (s.chan ch).jump)
    (isCommitted (s.chan ch).jump) (isLastCommitted (s.chan ch).jump)
  exact ⟨u, hu.trans (State.modChan_ledger rfl), hpresent⟩

/-- A state at its deadline, before the channel acts: the PRESENTING slot is free, and timer and sound have
come to the deadline (R19, R113). -/
structure AtDeadline (s v : State) (ch : ChannelId) : Prop where
  ledger : v.ledger = s.ledger
  compositions : v.compositions = s.compositions
  chan : ∃ timer sound, v.chan ch = { (s.chan ch).freePresenting with timer := timer, sound := sound }

theorem State.deadline_of_playing (h : (s.chan ch).state = .playing) :
    s.deadline ch = (s.freePresenting ch).playingDeadline ch (s.chan ch).isPresenting := by
  simp only [State.deadline, h]

theorem State.deadline_of_holding (h : (s.chan ch).state = .holding) :
    s.deadline ch = (s.freePresenting ch).holdingDeadline ch := by
  simp only [State.deadline, h]

/-- DEADLINE in ARMED or RUNNING: the missing edges, then the deadline and its edge (R19). -/
theorem State.reachDeadline_cases (hrun : (s.chan ch).timer.state ≠ .stopped) : ∃ u : State,
    s.reachDeadline ch = (u.deadline ch).modChan ch (fun c => c.emit 0) ∧ AtDeadline s (u.freePresenting ch) ch ∧
      (u.chan ch).state = (s.chan ch).state ∧ (u.chan ch).isPresenting = (s.chan ch).isPresenting := by
  have hfreed (u : State) : (u.freePresenting ch).ledger = u.ledger := State.modChan_ledger rfl
  cases htimer : (s.chan ch).timer.state with
  | stopped => exact absurd htimer hrun
  | armed =>
    refine ⟨s, by simp only [State.reachDeadline, htimer, State.deadlineEdge], ⟨hfreed s, ?_, ?_⟩, rfl, rfl⟩
    · simp [State.freePresenting]
    · exact ⟨_, _, by rw [State.freePresenting, State.chan_modChan_same]⟩
  | running =>
    refine ⟨s.modChan ch (fun c => c.runToDeadline), by simp only [State.reachDeadline, htimer, State.deadlineEdge],
      ⟨(hfreed _).trans (State.modChan_ledger rfl), ?_, ?_⟩, ?_, ?_⟩
    · simp [State.freePresenting]
    · exact ⟨_, _, by rw [State.freePresenting, State.chan_modChan_same, State.chan_modChan_same]; rfl⟩
    · rw [State.chan_modChan_same]; rfl
    · rw [State.chan_modChan_same]; rfl

namespace AtDeadline

variable {v : State} (h : AtDeadline s v ch)
include h

theorem kept : (v.chan ch).jump = (s.chan ch).jump ∧ (v.chan ch).records = (s.chan ch).records ∧
    (v.chan ch).position = (s.chan ch).position ∧ (v.chan ch).showList = (s.chan ch).showList ∧
    (v.chan ch).noNext = (s.chan ch).noNext := by
  obtain ⟨timer, sound, hchan⟩ := h.chan
  rw [hchan]
  exact ⟨rfl, rfl, rfl, rfl, rfl⟩

theorem itemComposition (item : Nat) : v.itemComposition ch item = s.itemComposition ch item := by
  obtain ⟨-, -, -, hlist, -⟩ := h.kept
  simp only [State.itemComposition, Channel.item, State.composition, State.compositionSlot, hlist, h.compositions]

theorem atItemEnd : v.atItemEnd ch = s.atItemEnd ch := by
  obtain ⟨-, -, hposition, -, -⟩ := h.kept
  simp only [State.atItemEnd, hposition, h.itemComposition]

theorem showOver : v.showOver ch = s.showOver ch := by
  obtain ⟨-, hrecords, -, -, hnext⟩ := h.kept
  simp only [State.showOver, h.atItemEnd, hrecords, hnext]

theorem pauseAfterSet : (v.chan ch).pauseAfterSet = (s.chan ch).pauseAfterSet := by
  obtain ⟨-, -, hposition, hlist, -⟩ := h.kept
  simp only [Channel.pauseAfterSet, Channel.item, hposition, hlist]

/-- The slot to present is READY yet (R113). -/
theorem nextReady {f : Frame} (hf : (s.chan ch).slotAt (s.chan ch).present = .ready f) :
    (v.chan ch).nextReady = some f := by
  obtain ⟨timer, sound, hchan⟩ := h.chan
  have hslot : (v.chan ch).slotAt (v.chan ch).present = .ready f := by
    rw [hchan]
    simp only [Channel.slotAt, Channel.freePresenting, List.getD_eq_getElem?_getD, List.getElem?_map] at hf ⊢
    cases hs : (s.chan ch).slots[(s.chan ch).present]? with
    | none => simp [hs] at hf
    | some x =>
      obtain rfl : x = .ready f := by simpa [hs] using hf
      rfl
  simp only [Channel.nextReady, hslot]

theorem recovers (hrecovers : (s.chan ch).config.resume ≤ (s.chan ch).readyCount ∨
    (s.chan ch).assembly.complete = true ∧ 1 ≤ (s.chan ch).readyCount) : (v.chan ch).recovers = true := by
  obtain ⟨timer, sound, hchan⟩ := h.chan
  have hready : (s.chan ch).freePresenting.readyCount = (s.chan ch).readyCount := by
    simp only [Channel.readyCount, Channel.freePresenting, List.countP_map]
    refine List.countP_congr fun x _ => ?_
    cases x <;> simp [Slot.isPresenting, Slot.isReady]
  have hcount : (v.chan ch).readyCount = (s.chan ch).readyCount := by rw [hchan]; exact hready
  simp only [Channel.recovers, hcount, Bool.or_eq_true, Bool.and_eq_true, decide_eq_true_eq]
  rw [hchan]
  exact hrecovers

/-- In PLAYING the next frame is presented, under a pending jump, or when neither pause nor end of the show is
due (R120). -/
theorem playing {f : Frame} {presented : Bool} (hf : (s.chan ch).slotAt (s.chan ch).present = .ready f)
    (hgo : (s.chan ch).jump.isSome = true ∨ s.showOver ch = false ∧ (s.atItemEnd ch = false ∨
      (s.chan ch).pauseAfterSet = false ∨ presented = false ∨ (s.chan ch).records = [])) :
    v.playingDeadline ch presented = v.presentNext ch f := by
  obtain ⟨hjump, hrecords, -, -, -⟩ := h.kept
  have hpause : ((s.chan ch).jump.isNone && presented && s.atItemEnd ch && (s.chan ch).pauseAfterSet &&
      !(s.chan ch).records.isEmpty) = false := by
    obtain hj | ⟨-, hend | hflag | hslot | hnone⟩ := hgo
    · simp [Option.isNone_eq_false_iff.mpr hj]
    · simp [hend]
    · simp [hflag]
    · simp [hslot]
    · simp [hnone]
  have hover : ((s.chan ch).jump.isNone && s.showOver ch) = false := by
    obtain hj | ⟨hshow, -⟩ := hgo
    · simp [Option.isNone_eq_false_iff.mpr hj]
    · simp [hshow]
  simp only [State.playingDeadline, hjump, hrecords, h.atItemEnd, h.showOver, h.pauseAfterSet, hpause, hover,
    h.nextReady hf, Bool.false_eq_true, if_false]

/-- In HOLDING a recovery presents the next frame (R145, R146). -/
theorem holding {f : Frame} (hf : (s.chan ch).slotAt (s.chan ch).present = .ready f)
    (hrecovers : (s.chan ch).config.resume ≤ (s.chan ch).readyCount ∨
      (s.chan ch).assembly.complete = true ∧ 1 ≤ (s.chan ch).readyCount) :
    v.holdingDeadline ch =
      (v.modChan ch (fun c => { c with stallCount := 0, state := .playing })).presentNext ch f := by
  simp only [State.holdingDeadline, h.recovers hrecovers, h.nextReady hf, if_true]

end AtDeadline

/-- The channel's next deadline presents a slot when one is READY: in PLAYING under a pending jump, or when
neither pause nor end of the show is due; in HOLDING when the channel recovers (R120, R145). -/
def State.presentsNext (s : State) (ch : ChannelId) : Prop :=
  (s.chan ch).state = .playing ∧ ((s.chan ch).jump.isSome = true ∨
      s.showOver ch = false ∧ (s.atItemEnd ch = false ∨ (s.chan ch).pauseAfterSet = false ∨
        (s.chan ch).slots.any Slot.isPresenting = false ∨ (s.chan ch).records = [])) ∨
    (s.chan ch).state = .holding ∧ ((s.chan ch).config.resume ≤ (s.chan ch).readyCount ∨
      (s.chan ch).assembly.complete = true ∧ 1 ≤ (s.chan ch).readyCount)

/-- A deadline that presents a frame, from the ledger that stood before it (R120, R121, R145). -/
theorem exec_deadline_presents {f : Frame} {comp : Composition} (hp : s.powered = true)
    (hrun : (s.chan ch).timer.state ≠ .stopped)
    (hstate : s.presentsNext ch)
    (hf : (s.chan ch).slotAt (s.chan ch).present = .ready f)
    (hcomp : s.itemComposition ch f.pos.item = some comp) : ∃ u : State, u.ledger = s.ledger ∧
      exec (.deadline ch) s = .next (((u.countPresentation ch f.record f.damaged).closeAtFrame ch f
        (comp.isLastFrame f.pos.reel f.pos.frame) (isCommitted (s.chan ch).jump)
        (isLastCommitted (s.chan ch).jump)).modChan ch (fun c => c.emit 0)) := by
  obtain ⟨u, hreach, hat, hst, hpresenting⟩ := State.reachDeadline_cases hrun
  obtain ⟨hjump, -⟩ := hat.kept
  have hcomp' := (hat.itemComposition f.pos.item).trans hcomp
  obtain ⟨w, hledger, hwjump, hwcomp, hw⟩ : ∃ w : State, w.ledger = s.ledger ∧
      (w.chan ch).jump = (s.chan ch).jump ∧ w.itemComposition ch f.pos.item = some comp ∧
      u.deadline ch = w.presentNext ch f := by
    obtain ⟨hplaying, hgo⟩ | ⟨hholding, hrecovers⟩ := hstate
    · refine ⟨_, hat.ledger, hjump, hcomp', ?_⟩
      rw [State.deadline_of_playing (hst.trans hplaying), hpresenting]
      exact hat.playing hf hgo
    · refine ⟨_, (State.modChan_ledger rfl).trans hat.ledger, ?_, ?_,
        (State.deadline_of_holding (hst.trans hholding)).trans (hat.holding hf hrecovers)⟩
      · rw [State.chan_modChan_same]
        exact hjump
      · rw [← hcomp']
        simp [State.itemComposition, Channel.item, State.composition, State.compositionSlot]
  obtain ⟨v, hv, hpresent⟩ := State.presentNext_cases hwcomp
  exact ⟨v, hv.trans hledger, by rw [exec_deadline hp, hreach, hw, hpresent, hwjump]⟩

end

end Sys2Proof.Machine

/-! ## Presentations are counted and charged (R101 to R104) -/

namespace Sys2Proof.Machine

section
variable {s t : State} {ch : ChannelId} {a : AdmissionRecord} {presented damaged : Nat}

/-- The outcome of a record that closes: a counted time was set before, or is set by this presentation (R103). -/
theorem Counted.closingOutcome (h : Counted s t ch a presented damaged) {g : LogRecord} (hg : g ∈ s.log)
    (hseq : a.logSeq = some g.seq) :
    t.closingOutcome (a.presentedAt presented damaged a.chargesNow a) =
      if a.chargeable && (a.reachesCount ||
        s.log.any (fun x => a.logSeq = some x.seq && x.counted.isSome)) then .completed else .jumpedAway := by
  have hany : t.log.any (fun x => some x.seq = a.logSeq && x.counted.isSome) =
      (a.reachesCount || s.log.any (fun x => a.logSeq = some x.seq && x.counted.isSome)) := by
    rw [h.log, List.any_map]
    cases hreached : a.reachesCount with
    | true =>
      refine List.any_eq_true.mpr ⟨g, hg, ?_⟩
      simp [hseq, LogRecord.countedAt, LogRecord.presentedAt]
    | false =>
      refine congrArg s.log.any (funext fun x => ?_)
      by_cases hx : a.logSeq = some x.seq
      · simp [hx, LogRecord.countedAt, LogRecord.presentedAt]
      · simp [hx, eq_comm (b := a.logSeq)]
  unfold State.closingOutcome State.lastFrameOutcome
  cases hc : a.chargeable with
  | false => simp [AdmissionRecord.presentedAt, hc]
  | true =>
    simp only [AdmissionRecord.presentedAt, hc, if_true, Bool.true_and]
    exact if_congr (by rw [hany]) rfl rfl

/-- The count of a presentation reads the ledger alone. -/
theorem Counted.of_ledger {u : State} (h : Counted u t ch a presented damaged) (hu : u.ledger = s.ledger) :
    Counted s t ch a presented damaged := by
  simp only [State.ledger, Prod.mk.injEq] at hu
  obtain ⟨hbooks, hlog, hseq⟩ := hu
  obtain ⟨-, hclock, hlicences, hroll⟩ := State.books_eq_iff.mp hbooks
  obtain ⟨hrecords, hnext⟩ : (u.chan ch).records = (s.chan ch).records ∧
      (u.chan ch).nextIdent = (s.chan ch).nextIdent := by
    simpa [Channel.roll] using hroll ch
  have hlicence := State.licence_of_licences hlicences
  exact ⟨h.clock.trans hclock, h.nextSeq.trans hseq, by rw [h.log, hlog, hclock], by rw [h.records, hrecords],
    h.nextIdent.trans hnext, h.notices, fun hq => (h.licences hq).trans hlicences,
    fun hc j => by rw [h.licence hc, hlicence]⟩

/-- A charged record closes without a release: its licence keeps the charge (R102, R103). -/
theorem Counted.licence_closeRecord (h : Counted s t ch a presented damaged) (hcharges : a.chargesNow = true)
    {i : Nat} {l : Licence} (hi : a.licence = some i) (hl : s.licence i = some l) (hreserved : 1 ≤ l.reserved)
    (o : LogOutcome) : ∃ l', (t.closeRecord ch (a.presentedAt presented damaged a.chargesNow a) o).licence i =
      some l' ∧ l'.charged = l.charged + 1 ∧ l'.reserved = l.reserved - 1 := by
  have hheld : (a.presentedAt presented damaged a.chargesNow a).holdsReservation = false := by
    simp [AdmissionRecord.holdsReservation, AdmissionRecord.presentedAt, hcharges]
  have hi' : (a.presentedAt presented damaged a.chargesNow a).licence = some i := hi
  have hlogged := State.licence_of_licences (t.modLog_licences a.logSeq (LogRecord.closedAt t.clock.time o)) i
  obtain ⟨hcharged, hleft⟩ := l.charge.left_false_counts
  refine ⟨l.charge.left false, ?_, ?_, ?_⟩
  · refine (State.licence_dropRecord _ ch _ i).trans ?_
    rw [if_pos hi', hheld]
    refine (congrArg (Option.map _) (hlogged.trans (h.licence hcharges i))).trans ?_
    rw [if_pos hi, hl]
    rfl
  · rw [hcharged, Licence.charge, if_neg (Nat.ne_of_gt hreserved)]
  · rw [hleft, Licence.charge, if_neg (Nat.ne_of_gt hreserved)]

/-- The log after a close (R101 to R103). -/
theorem Counted.closed_log (h : Counted s t ch a presented damaged) :
    (t.closeRecord ch (a.presentedAt presented damaged a.chargesNow a)
      (t.closingOutcome (a.presentedAt presented damaged a.chargesNow a))).log =
    s.log.map (fun g => if a.logSeq = some g.seq then
      ((g.presentedAt a s.clock.time presented damaged).countedAt a.reachesCount s.clock.time).closedAt
        s.clock.time (if a.chargeable && (a.reachesCount ||
          s.log.any (fun x => a.logSeq = some x.seq && x.counted.isSome)) then .completed else .jumpedAway)
      else g) := by
  rw [State.closeRecord_log, h.clock, h.log]
  refine (map_map_logRecord s.log a.logSeq (f := fun g => (LogRecord.presentedAt a _ _ _ g).countedAt _ _)
    (fun _ => rfl) _).trans (List.map_congr_left fun g hg => ?_)
  by_cases hseq : a.logSeq = some g.seq
  · rw [if_pos hseq, if_pos hseq, h.closingOutcome hg hseq]
  · rw [if_neg hseq, if_neg hseq]

/-- The records after a close (R103). -/
theorem Counted.closed_records (h : Counted s t ch a presented damaged) (o : LogOutcome) :
    ((t.closeRecord ch (a.presentedAt presented damaged a.chargesNow a) o).chan ch).records =
      (s.chan ch).records.filter (fun r => r.ident ≠ a.ident) := by
  rw [State.closeRecord_chan, Channel.removeRecord, h.records, List.filter_map]
  have hident (r : AdmissionRecord) : (if r.ident = a.ident then
      a.presentedAt presented damaged a.chargesNow r else r).ident = r.ident := by
    split <;> rfl
  have hkeep : ((fun r : AdmissionRecord => decide (r.ident ≠ a.ident)) ∘ fun r => if r.ident = a.ident then
      a.presentedAt presented damaged a.chargesNow r else r) = fun r => decide (r.ident ≠ a.ident) := by
    funext r
    rw [Function.comp_apply, hident]
  have hother {l : List AdmissionRecord} (hl : ∀ r ∈ l, r.ident ≠ a.ident) : l.map (fun r =>
      if r.ident = a.ident then a.presentedAt presented damaged a.chargesNow r else r) = l :=
    (List.map_congr_left fun r hr => if_neg (hl r hr)).trans (List.map_id' l)
  show List.map _ (List.filter ((fun r : AdmissionRecord => decide (r.ident ≠ a.ident)) ∘ _) _) = _
  rw [hkeep]
  exact hother fun r hr => by simpa using (List.mem_filter.mp hr).2

end

theorem Frame.damaged_iff (f : Frame) :
    f.damaged = true ↔ f.picture.damage ≠ none ∨ ∃ p, f.sound = some p ∧ p.damage ≠ none := by
  simp [Frame.damaged, Option.isSome_iff_ne_none, Option.any_eq_true]

/-- A deadline that presents a frame of a record counts it, and the record closes when its end is due. -/
theorem exec_deadline_counts {s : State} {ch : ChannelId} {f : Frame} {comp : Composition} {a : AdmissionRecord}
    {presented damaged : Nat} (hp : s.powered = true) (hrun : (s.chan ch).timer.state ≠ .stopped)
    (hstate : s.presentsNext ch)
    (hslot : (s.chan ch).slotAt (s.chan ch).present = .ready f)
    (hcomp : s.itemComposition ch f.pos.item = some comp) (ha : (s.chan ch).record f.record = some a)
    (hpresented : presented = bump32 a.presented)
    (hdamaged : damaged = if f.damaged then bump32 a.damaged else a.damaged) :
    ∃ v : State, Counted s v ch a presented damaged ∧ exec (.deadline ch) s = .next (State.modChan
      (if a.closesAt (comp.isLastFrame f.pos.reel f.pos.frame) (isCommitted (s.chan ch).jump)
          (isLastCommitted (s.chan ch).jump) then
        (v.closeRecord ch (a.presentedAt presented damaged a.chargesNow a)
          (v.closingOutcome (a.presentedAt presented damaged a.chargesNow a))).nextItemOccasion ch
      else v) ch (fun c => c.emit 0)) := by
  obtain ⟨u, hledger, hexec⟩ := exec_deadline_presents hp hrun hstate hslot hcomp
  have hident : a.ident = f.record := (Channel.record_eq_some ha).2
  rw [← hident] at ha
  have hua : (u.chan ch).record a.ident = some a := by
    simp only [State.ledger, Prod.mk.injEq] at hledger
    rw [Channel.record, State.records_of_books hledger.1]
    exact ha
  have hcounted := (State.countPresentation_counted hua f.damaged hdamaged).of_ledger hledger
  rw [← hpresented, hident] at hcounted
  have hrecord := hident ▸ hcounted.record ha
  exact ⟨_, hcounted, hexec.trans (by rw [State.closeAtFrame_eq hrecord]; rfl)⟩

/-- Settles O44: the presentation is counted on the ledger that stood before the deadline, and a close is
followed by what an occasion appends. -/
theorem presentationsAreCountedAndCharged : Obligations.PresentationsAreCountedAndCharged := by
  intro s ch f comp a presented damaged reached charges closes hp hrun hstate hslot hcomp ha hpresented hdamaged
    hreached hcharges hcloses
  have hident : a.ident = f.record := (Channel.record_eq_some ha).2
  have hreaches : a.reachesCount = reached := hreached.symm
  have hchargesNow : a.chargesNow = charges := by rw [hcharges, ← hreaches]; rfl
  obtain ⟨v, hcounted, hexec⟩ := exec_deadline_counts hp hrun hstate hslot hcomp ha hpresented
    (hdamaged.trans (if_congr f.damaged_iff.symm rfl rfl))
  rw [AdmissionRecord.closesAt, ← hcloses] at hexec
  cases closes with
  | false =>
    rw [if_neg Bool.false_ne_true] at hexec
    refine ⟨_, [], [], hexec, ?_, nofun, nofun, Nat.zero_le 1, fun _ => ⟨rfl, rfl⟩, ?_, ?_, ?_, ?_⟩
    · rw [State.modChan_log, hcounted.log, hreaches, List.append_nil]
      rfl
    · rw [State.chan_modChan_same, if_neg Bool.false_ne_true, List.append_nil]
      refine hcounted.records.trans ?_
      rw [hident, hchargesNow]
      rfl
    · intro h
      exact (hcounted.notices (hreaches.trans h)).of_notices (State.modChan_notices ..)
    · intro _ h
      rw [State.modChan_licences]
      exact hcounted.licences (hchargesNow.trans h)
    · intro i l h hi hl hreserved
      have hlicence (j : Nat) := (State.licence_of_licences (State.modChan_licences v ch (fun c => c.emit 0)) j).trans
        (hcounted.licence (hchargesNow.trans h) j)
      have hcharge : l.charge = { l with charged := l.charged + 1, reserved := l.reserved - 1 } := by
        rw [Licence.charge, if_neg (Nat.ne_of_gt hreserved)]
      refine ⟨_, (hlicence i).trans (by rw [if_pos hi, hl, Option.map_some, hcharge]), rfl, rfl, fun _ => rfl,
        fun j hj _ => (hlicence j).trans (if_neg ?_)⟩
      rw [hi]
      exact fun he => hj (Option.some.inj he).symm
  | true =>
    rw [if_pos rfl] at hexec
    obtain ⟨later, next, hnext⟩ := State.nextItemOccasion_appended (v.closeRecord ch
      (a.presentedAt presented damaged a.chargesNow a)
      (v.closingOutcome (a.presentedAt presented damaged a.chargesNow a))) ch
    refine ⟨_, later, next, hexec, ?_, fun g hg => ?_, fun r hr => ?_, hnext.single, nofun, ?_, fun h => ?_, nofun,
      ?_⟩
    · rw [State.modChan_log, hnext.log, hcounted.closed_log, hreaches]
      rfl
    · rw [hnext.seq g hg, State.closeRecord_nextSeq, hcounted.nextSeq]
    · rw [hnext.ident r hr, State.closeRecord_chan]
      exact hcounted.nextIdent
    · rw [State.chan_modChan_same, if_pos rfl, ← hident, ← hcounted.closed_records]
      exact hnext.records
    · have hpends := hnext.notices ((hcounted.notices (hreaches.trans h)).of_notices (State.closeRecord_notices ..))
      exact hpends.of_notices (State.modChan_notices ..)
    · intro i l h hi hl hreserved
      obtain ⟨l', hl', hcharged, hreserved'⟩ :=
        hcounted.licence_closeRecord (hchargesNow.trans h) hi hl hreserved _
      obtain ⟨l'', hl'', hcharged', hreserved''⟩ := hnext.licence i l' hl'
      refine ⟨l'', (State.licence_of_licences (State.modChan_licences ..) i).trans hl'', hcharged'.trans hcharged,
        ?_, nofun, nofun⟩
      rw [hreserved'', hreserved']

end Sys2Proof.Machine

/-! ## What keeps a law through every command

A command reaches the state by the parts named here: the link controller, the action of a request, the ports,
the unpacker, the frame timers, the booth clock and main power. A law that each of them keeps is kept by every
step. -/

namespace Sys2Proof.Machine

/-- A law that every part of a command's meaning keeps. -/
structure CommandInvariant (P : State → Prop) : Prop where
  queue : ∀ (rest : List Instr) {s : State}, P s → P { s with pending := rest }
  modLink : ∀ (f : CommandLink → CommandLink) {s : State}, P s → P (s.modLink f)
  raise : ∀ (k : NoticeKind) (c : Option ChannelId) (d : NoticeDetail) {s : State}, P s → P (s.raise k c d)
  perform : ∀ (r : Request) {s : State}, P s → P (perform r s).1
  completeLicence : ∀ (l : LicenceLoad) (results : List (Option Material)) {s : State}, P s →
    P (completeLicence l results s).1
  startUp : ∀ (kind : ResetKind) {s : State}, P s → P (s.startUp kind)
  powerDown : ∀ {s : State}, P s → P s.powerDown
  clockTick : ∀ {s : State}, P s → P s.clockTick
  takePathBytes : ∀ (bytes : List Byte) {s : State}, P s → P (s.takePathBytes bytes)
  sendNextReturn : ∀ {s : State}, P s → P s.sendNextReturn
  portSent : ∀ {s : State}, P s → P s.portSent
  takeSegment : ∀ {s : State}, P s → P s.takeSegment
  finishSegment : ∀ {s : State}, P s → P s.finishSegment
  reachDeadline : ∀ (ch : ChannelId) {s : State}, P s → P (s.reachDeadline ch)
  sampleEdge : ∀ (ch : ChannelId) {s : State}, P s → P (s.sampleEdge ch)

namespace CommandInvariant

variable {P : State → Prop} (hP : CommandInvariant P) {s : State}
include hP

theorem sendMessage (hs : P s) (tag kind : Byte) (body : List Byte) : P (s.sendMessage tag kind body) := by
  unfold State.sendMessage
  split
  · exact hP.modLink _ hs
  · exact hP.raise _ _ _ hs

theorem linkFault (hs : P s) (reason : LinkFaultReason) : P (s.linkFault reason) :=
  hP.sendMessage (hP.raise _ _ _ hs) ..

theorem reply (hs : P s) (tag kind rkind : Byte) (stage : ExecStage) (body : List Byte) :
    P (s.reply tag kind rkind stage body) := hP.modLink _ hs

theorem answer (hs : P s) (tag kind : Byte) (a : Answer) : P (s.answer tag kind a) := by
  cases a with
  | reply | replyThenReset => exact hP.reply hs ..
  | unwrap load =>
    exact hP.modLink (fun l =>
      { l with executing := some { tag := tag, kind := kind, stage := .unwrapping load } }) hs

theorem enterRequest (hs : P s) (tag : Byte) (r : Request) : P (enterRequest tag r s) := by
  simp only [Machine.enterRequest]
  split
  · exact hP.answer hs ..
  · exact hP.answer (hP.perform r hs) ..

theorem executeFrame (hs : P s) (f : CommandFrame) : P (executeFrame f s) := by
  unfold Machine.executeFrame
  split
  · exact hP.modLink _ hs
  · split
    · exact hP.answer hs ..
    · split
      · exact hP.answer hs ..
      · exact hP.enterRequest hs ..

theorem holdFrame (hs : P s) (f : CommandFrame) : P (holdFrame f s) := by
  unfold Machine.holdFrame
  split
  · exact hP.modLink _ hs
  · exact hP.sendMessage hs ..

theorem submit (hs : P s) (tag : Byte) (r : Request) : P (submit tag r s) := by
  unfold Machine.submit
  split
  · exact hP.enterRequest hs tag r
  · exact hP.holdFrame hs _

theorem lengthByte (hs : P s) (b : Byte) : P (s.lengthByte b) := by
  unfold State.lengthByte
  split
  · exact hP.modLink _ hs
  · dsimp only
    split
    · unfold State.searchLength
      (repeat' split) <;> exact hP.modLink _ (hP.linkFault hs _)
    · exact hP.modLink _ hs

theorem frameByte (hs : P s) (b : Byte) : P (s.frameByte b) := by
  have hset (rx : LinkState) (held : List Byte) (stray : StrayRun) : P (s.setReceiver rx held stray) :=
    hP.modLink _ hs
  simp only [State.frameByte, placeFrame]
  split
  · exact hset ..
  · split
    · split
      · exact hP.executeFrame (hset ..) _
      · exact hP.holdFrame (hset ..) _
    · exact hP.linkFault (hset ..) _

theorem takeLinkByte (hs : P s) (b : Byte) : P (s.takeLinkByte b) := by
  unfold State.takeLinkByte
  split
  · simp only [State.huntByte]
    split
    · split
      · exact hP.linkFault (hP.modLink _ hs) _
      · exact hP.modLink _ hs
    · exact hP.modLink _ hs
  · exact hP.lengthByte hs b
  · exact hP.frameByte hs b

theorem takeLinkBytes (hs : P s) (bytes : List Byte) : P (s.takeLinkBytes bytes) :=
  List.foldlRecOn bytes _ hs fun _ ht b _ => hP.takeLinkByte ht b

theorem linkSilence (hs : P s) : P s.linkSilence := by
  have hset : P (s.setReceiver .hunt [] .none) := hP.modLink _ hs
  unfold State.linkSilence
  split
  iterate 2 · exact hP.linkFault hset _
  · split
    · exact hP.linkFault hset _
    · exact hset
    all_goals exact hs

theorem replySent (hs : P s) : P s.replySent := by
  unfold State.replySent
  split
  · split
    · split
      · unfold State.emptyPlace
        split
        · exact hP.executeFrame (hP.modLink _ (hP.modLink _ hs)) _
        · exact hP.modLink _ (hP.modLink _ hs)
      · exact hP.startUp _ hs
      · exact hs
    · exact hs
  · exact hs

theorem messageSent (hs : P s) : P s.messageSent := by
  unfold State.messageSent
  split
  · split
    · exact hs
    · exact hP.modLink _ hs
  · exact hs

theorem unwrapComplete (hs : P s) (passes : List Bool) : P (s.unwrapComplete passes) := by
  unfold State.unwrapComplete
  split
  · split
    · exact hP.modLink _ (hP.completeLicence _ _ hs)
    all_goals exact hs
  · exact hs

/-- Every command keeps the law. -/
theorem exec {c : Instr} {t : State} (hs : P s) (h : exec c s = .next t) : P t := by
  cases hc : requestOf c with
  | some p => exact of_whenPowered ((exec_of_requestOf s hc).symm.trans h) hs (hP.submit hs p.1 p.2)
  | none =>
    cases c with
    | commandFrameCompleted bytes | frameFault bytes | syncFound bytes =>
      exact of_whenPowered h hs (hP.takeLinkBytes hs bytes)
    | segmentHeader bytes | segmentArrival bytes | markerFound bytes =>
      exact of_whenPowered h hs (hP.takePathBytes bytes hs)
    | replySent => exact of_whenPowered h hs (hP.replySent hs)
    | partialFrameTimeout => exact of_whenPowered h hs (hP.linkSilence hs)
    | retainedLoss => cases h; exact hP.startUp .retainedLoss hs
    | mainPowerUp => cases h; exact hP.startUp .mainPowerUp hs
    | pin => exact of_whenPowered h hs (hP.startUp .pin hs)
    | mainPowerDown => cases h; exact hP.powerDown hs
    | returnMessageSend => exact of_whenPowered h hs (hP.sendNextReturn hs)
    | segmentTake => exact of_whenPowered h hs (hP.takeSegment hs)
    | segmentFinish => exact of_whenPowered h hs (hP.finishSegment hs)
    | deadline ch => exact of_whenPowered h hs (hP.reachDeadline ch hs)
    | boothClockTick => cases h; exact hP.clockTick hs
    | licenceUnwrapComplete passes => exact of_whenPowered h hs (hP.unwrapComplete hs passes)
    | sampleClockEdge ch => exact of_whenPowered h hs (hP.sampleEdge ch hs)
    | outgoingMessageSent => exact of_whenPowered h hs (hP.messageSent hs)
    | subtitlePortSend => exact of_whenPowered h hs (hP.portSent hs)
    | _ => simp [requestOf] at hc

/-- Every step keeps the law. -/
theorem step {t : State} (hs : P s) (h : step s = .next t) : P t := by
  unfold Machine.step at h
  split at h
  · cases h; exact hs
  · exact hP.exec (hP.queue _ hs) h

end CommandInvariant

end Sys2Proof.Machine

/-! ## The showing log keeps or loses records but by an admission (R98, R103, R105, R106)

`State.logBook` is what the log law reads. `State.LogSheds` is what every operation does to it that takes no log
record. -/

namespace Sys2Proof.Machine

/-- The log's sequence numbers, oldest first, and the next one (R106). -/
def State.logBook (s : State) : List Nat × Nat := (s.log.map (·.seq), s.nextSeq)

/-- `t` has the log records of `s`, by their numbers, or some of them, and the same next number. -/
def State.LogSheds (s t : State) : Prop :=
  (t.log.map (·.seq)).Sublist (s.log.map (·.seq)) ∧ t.nextSeq = s.nextSeq

theorem State.logBook_eq {s t : State} (hlog : t.log = s.log) (hseq : t.nextSeq = s.nextSeq) :
    t.logBook = s.logBook := by
  simp only [State.logBook, hlog, hseq]

theorem State.LogSheds.of_logBook {s t : State} (h : t.logBook = s.logBook) : s.LogSheds t := by
  obtain ⟨hlog, hseq⟩ := Prod.mk.injEq .. ▸ h
  exact ⟨hlog ▸ .refl _, hseq⟩

theorem State.LogSheds.of_eq {s t : State} (hlog : t.log = s.log) (hseq : t.nextSeq = s.nextSeq) :
    s.LogSheds t := .of_logBook (State.logBook_eq hlog hseq)

theorem State.LogSheds.refl (s : State) : s.LogSheds s := .of_logBook rfl

theorem State.LogSheds.trans {s t u : State} (h : s.LogSheds t) (h' : t.LogSheds u) : s.LogSheds u :=
  ⟨h'.1.trans h.1, h'.2.trans h.2⟩

/-- The law reads the numbers alone. -/
theorem logLaw_iff {s : State} : LogLaw s ↔ (s.log.map (·.seq)).length ≤ 128 ∧
    (s.log.map (·.seq)).Pairwise (· < ·) ∧ ∀ n ∈ s.log.map (·.seq), n < s.nextSeq := by
  simp only [LogLaw, List.length_map, List.pairwise_map, List.forall_mem_map]

/-- A log that only loses records keeps the law. -/
theorem LogLaw.of_sheds {s t : State} (hs : LogLaw s) (h : s.LogSheds t) : LogLaw t := by
  obtain ⟨hlen, hrising, hbelow⟩ := logLaw_iff.mp hs
  obtain ⟨hsub, hseq⟩ := h
  exact logLaw_iff.mpr ⟨hsub.length_le.trans hlen, hrising.sublist hsub,
    fun n hn => hseq ▸ hbelow n (hsub.subset hn)⟩

theorem LogLaw.of_logBook {s t : State} (hs : LogLaw s) (h : t.logBook = s.logBook) : LogLaw t :=
  hs.of_sheds (.of_logBook h)

theorem LogLaw.of_eq {s t : State} (hs : LogLaw s) (hlog : t.log = s.log) (hseq : t.nextSeq = s.nextSeq) :
    LogLaw t := hs.of_sheds (.of_eq hlog hseq)

/-- Check 1 of R96 passes: a log record is free, and a sequence number left. -/
theorem State.logFull_eq_false_iff {s : State} :
    s.logFull = false ↔ s.log.length < 128 ∧ s.nextSeq ≤ Config.top32 := by
  simp only [State.logFull, Bool.or_eq_false_iff, decide_eq_false_iff_not]
  simp only [State.freeLog]
  omega

/-- A log that has lost records has room where the one before had. -/
theorem State.LogSheds.logFull_eq_false {s t : State} (h : s.LogSheds t) (hs : s.logFull = false) :
    t.logFull = false := by
  obtain ⟨hsub, hseq⟩ := h
  have hlen : t.log.length ≤ s.log.length := by simpa using hsub.length_le
  obtain ⟨hroom, hleft⟩ := State.logFull_eq_false_iff.mp hs
  exact State.logFull_eq_false_iff.mpr ⟨hlen.trans_lt hroom, hseq ▸ hleft⟩

section
variable (s : State)

/-! ### Requests and events that leave the log alone -/

theorem doClearResetCause_logBook (mask : Byte) :
    (doClearResetCause mask s).1.logBook = s.logBook := by
  unfold doClearResetCause; split <;> rfl
theorem doRevokeLicence_logBook (i : Byte) : (doRevokeLicence i s).1.logBook = s.logBook := by
  simp only [doRevokeLicence]; (repeat' split) <;> simp [State.logBook]
theorem doDeleteLicence_logBook (i : Byte) : (doDeleteLicence i s).1.logBook = s.logBook := by
  simp only [doDeleteLicence]; (repeat' split) <;> rfl
theorem doCounterOp_logBook (i op : Byte) (v : Half) : (doCounterOp i op v s).1.logBook = s.logBook := by
  simp only [doCounterOp]; (repeat' split) <;> simp [State.logBook]
theorem doSetTime_logBook (t : Word) : (doSetTime t s).1.logBook = s.logBook := by
  simp only [doSetTime]; split <;> simp [State.logBook]
theorem doAdjustTime_logBook (d : Half) : (doAdjustTime d s).1.logBook = s.logBook := by
  simp only [doAdjustTime]; (repeat' split) <;> simp [State.logBook]
theorem doClearNotices_logBook (mode : Byte) (pairs : List NoticePair) :
    (doClearNotices mode pairs s).1.logBook = s.logBook := by
  simp only [doClearNotices]; (repeat' split) <;> rfl
theorem doMaskNotices_logBook (value change : Half) : (doMaskNotices value change s).1.logBook = s.logBook := by
  simp only [doMaskNotices]; split <;> rfl
theorem completeLicence_logBook (l : LicenceLoad) (results : List (Option Material)) :
    (completeLicence l results s).1.logBook = s.logBook := by
  simp only [completeLicence]; (repeat' split) <;> rfl
theorem State.clockTick_logBook : s.clockTick.logBook = s.logBook := by
  simp only [State.clockTick]; (repeat' split) <;> simp [State.logBook]

variable (ch : ChannelId)

/-! ### Records and their log records -/

/-- No operation renumbers a log record (R106). -/
theorem State.modLog_logSheds (q : Option Nat) {f : LogRecord → LogRecord} (hf : ∀ g, (f g).seq = g.seq) :
    s.LogSheds (s.modLog q f) := by
  refine .of_logBook (Prod.ext ?_ (s.modLog_nextSeq q f))
  simp only [State.logBook, State.modLog_log, List.map_map]
  exact List.map_congr_left fun g _ => by simp only [Function.comp_apply]; split <;> simp only [hf]

theorem State.dropRecord_logSheds (r : AdmissionRecord) : s.LogSheds (s.dropRecord ch r) :=
  .of_eq (by simp) (by simp)

theorem State.closeRecord_logSheds (r : AdmissionRecord) (o : LogOutcome) :
    s.LogSheds (s.closeRecord ch r o) :=
  (s.modLog_logSheds _ fun _ => by rfl).trans (State.dropRecord_logSheds _ ch r)

theorem State.discardRecord_logSheds (r : AdmissionRecord) : s.LogSheds (s.discardRecord ch r) := by
  unfold State.discardRecord
  split
  · have hgone : s.LogSheds { s with log := s.log.filter (fun g => g.seq ≠ ‹Nat›) } :=
      ⟨List.filter_sublist.map _, rfl⟩
    exact hgone.trans (.trans (.of_eq rfl rfl) (State.dropRecord_logSheds _ ch r))
  · exact s.dropRecord_logSheds ch r

theorem State.endRecord_logSheds (o : LogOutcome) (r : AdmissionRecord) :
    s.LogSheds (s.endRecord ch o r) := by
  unfold State.endRecord
  split
  · exact s.discardRecord_logSheds ch r
  · exact s.closeRecord_logSheds ch r o

/-- Records ended one after another. -/
theorem State.foldl_logSheds {op : State → AdmissionRecord → State}
    (hop : ∀ t r, State.LogSheds t (op t r))
    (l : List AdmissionRecord) : s.LogSheds (l.foldl op s) :=
  List.foldlRecOn l op (.refl s) fun t ht r _ => ht.trans (hop t r)

/-! ### Counting (R101, R102) -/

theorem State.writeCounts_logSheds (r : AdmissionRecord) (a b c : Nat) :
    s.LogSheds (s.writeCounts ch r a b c) :=
  .trans (.of_eq (State.modRecord_log ..) (State.modRecord_nextSeq ..))
    (State.modLog_logSheds _ _ fun _ => by rfl)

theorem State.reachCountPoint_logSheds (r : AdmissionRecord) : s.LogSheds (s.reachCountPoint ch r) := by
  rw [State.reachCountPoint_eq]
  exact .trans (.of_eq State.chargeRecord_log.1 State.chargeRecord_log.2)
    (State.modLog_logSheds _ r.logSeq fun _ => by rfl)

theorem State.countPresentation_logSheds (n : Nat) (damaged : Bool) :
    s.LogSheds (s.countPresentation ch n damaged) := by
  simp only [State.countPresentation]
  split
  · exact .refl s
  · rename_i r _
    have hcounts := s.writeCounts_logSheds ch r (bump32 r.presented) r.held
      (if damaged then bump32 r.damaged else r.damaged)
    have htimed := hcounts.trans (State.modLog_logSheds _ r.logSeq
      (f := fun g => { g with firstFrame := some s.clock.time }) fun _ => rfl)
    split
    · refine .trans ?_ (State.reachCountPoint_logSheds _ ch r)
      split
      · exact htimed
      · exact hcounts
    · split
      · exact htimed
      · exact hcounts

theorem State.countHeld_logSheds : s.LogSheds (s.countHeld ch) := by
  unfold State.countHeld
  split
  · exact .refl s
  · exact s.writeCounts_logSheds ch ..

/-! ### Held deadlines, STOP and the releases of a jump (R97, R129, R137, R144, R145) -/

theorem State.heldDeadline_logSheds : s.LogSheds (s.heldDeadline ch) :=
  .trans (.of_eq (s.pausedDeadline_log ch) (s.pausedDeadline_nextSeq ch)) (State.countHeld_logSheds _ ch)

theorem State.underrun_logSheds : s.LogSheds (s.underrun ch) := by
  simp only [State.underrun]
  split
  · exact .of_eq (by simp) (by simp)
  · exact .trans (.of_eq (by simp) (by simp)) (State.heldDeadline_logSheds _ ch)

theorem State.holdOn_logSheds : s.LogSheds (s.holdOn ch) := by
  simp only [State.holdOn]
  split
  · exact .of_eq (by simp) (by simp)
  · exact .trans (.of_eq (by simp) (by simp)) (State.heldDeadline_logSheds _ ch)

theorem State.stop_logSheds : s.LogSheds (s.stop ch) := by
  have hended : s.LogSheds ((s.chan ch).records.foldl
      (fun t r => t.endRecord ch (s.chan ch).state.stopOutcome r) s) :=
    s.foldl_logSheds (fun t r => t.endRecord_logSheds ch _ r) _
  exact hended.trans (.of_eq (by simp [State.stop]) (by simp only [State.stop]; simp))

theorem State.discardFetching_logSheds : s.LogSheds (s.discardFetching ch) :=
  s.foldl_logSheds (fun t r => t.discardRecord_logSheds ch r) _

theorem State.jumpReleases_logSheds (n : Nat) : s.LogSheds (s.jumpReleases ch n) := by
  simp only [State.jumpReleases]
  split
  · exact s.discardFetching_logSheds ch
  · rename_i r _
    have hfreed : s.LogSheds ((s.discardFetching ch).uncharge ch r) :=
      (s.discardFetching_logSheds ch).trans (.of_eq (by simp) (by simp))
    split
    · exact hfreed.trans (State.discardRecord_logSheds _ ch _)
    · exact hfreed

theorem State.closeLeft_logSheds (n : Nat) : s.LogSheds (s.closeLeft ch n) := by
  unfold State.closeLeft
  split
  · split
    · exact s.closeRecord_logSheds ch _ _
    · exact .refl s
  · exact .refl s

theorem State.jumpFlush_logSheds (n : Nat) : s.LogSheds (s.jumpFlush ch n) :=
  .of_eq (by simp) (by simp)

end

end Sys2Proof.Machine

/-! ## The log law is kept (R106, R107) -/

namespace Sys2Proof.Machine

/-- An admission that passed check 1 of R96 has room for the log record it takes. -/
theorem logFull_of_judgeAdmission {s : State} {c : Composition} {reel : Nat} {licence : Option Nat}
    (h : judgeAdmission s c reel = .ok licence) (hlog : needsLog c reel = true) : s.logFull = false := by
  unfold judgeAdmission at h
  split at h
  · cases h
  · rename_i hroom
    simpa [hlog] using hroom

namespace LogLaw

variable {s : State} {ch : ChannelId}

/-- The log record taken has the next number, and there is room for it (R98, R106). -/
theorem takeLog (hs : LogLaw s) {r : LogRecord} (hr : r.seq = s.nextSeq) (hroom : s.logFull = false) :
    LogLaw (s.takeLog r) := by
  obtain ⟨-, hrising, hbelow⟩ := hs
  obtain ⟨hfree, -⟩ := State.logFull_eq_false_iff.mp hroom
  refine ⟨?_, List.pairwise_append.mpr ⟨hrising, List.pairwise_singleton .., fun a ha b hb => ?_⟩,
    fun g hg => ?_⟩
  · have hlen : (s.takeLog r).log.length = s.log.length + 1 := by simp [State.takeLog]
    omega
  · obtain rfl := List.mem_singleton.mp hb
    exact hr ▸ hbelow a ha
  · have hnext : (s.takeLog r).nextSeq = s.nextSeq + 1 := rfl
    obtain hg | hg := List.mem_append.mp hg
    · have hlt := hbelow g hg
      omega
    · obtain rfl := List.mem_singleton.mp hg
      omega

theorem admitAndFetch (hs : LogLaw s) {c : Composition} {reel : Nat}
    (hroom : needsLog c reel = true → s.logFull = false) (item slot : Nat) (licence : Option Nat) :
    LogLaw (s.admitAndFetch ch c item slot reel licence) := by
  have hlogged : LogLaw (if needsLog c reel then s.takeLog (freshLogRecord s ch c reel licence) else s) := by
    split
    · exact hs.takeLog rfl (hroom ‹_›)
    · exact hs
  refine hlogged.of_eq ?_ ?_ <;>
    cases licence <;> simp only [State.admitAndFetch, State.openAdmission, State.fetchNewest_log,
      State.fetchNewest_nextSeq, State.modChan_log, State.modChan_nextSeq, State.modLicence_log,
      State.modLicence_nextSeq]

theorem nextItemOccasion (hs : LogLaw s) : LogLaw (s.nextItemOccasion ch) := by
  have hquiet : LogLaw (s.reportNoNext ch) := hs.of_eq (by simp) (by simp)
  simp only [State.nextItemOccasion]
  split
  · split
    · simp only [State.admitNext]
      iterate 3 (split; · exact hquiet)
      split
      · exact hs.of_eq (by simp) (by simp)
      · exact hs.admitAndFetch (logFull_of_judgeAdmission ‹_›) ..
    · exact hs
  · exact hs

/-! ### Unpacker, deadlines and edges -/

theorem afterPlacement (hs : LogLaw s) (completed readied : Bool) :
    LogLaw (s.afterPlacement ch completed readied) := by
  simp only [State.afterPlacement]
  split
  · refine nextItemOccasion (hs.of_eq ?_ ?_) <;> split <;> simp
  · refine hs.of_eq ?_ ?_ <;> split <;> simp [*]

theorem unpack (hs : LogLaw s) (comp : Composition) (record : Nat) (key : KeyChoice) (g : Segment) :
    LogLaw (s.unpack ch comp record key g) := by
  simp only [State.unpack]
  split
  · split <;> exact hs.of_eq (by simp) (by simp)
  · exact afterPlacement (hs.of_eq (by simp) (by simp)) ..

theorem finishSegment (hs : LogLaw s) : LogLaw s.finishSegment := by
  have hfreed : LogLaw { s with work := none } := hs
  have hdiscard (c : ChannelId) : LogLaw (State.discardOrder { s with work := none } c) :=
    hfreed.of_eq (by simp) (by simp)
  simp only [State.finishSegment]
  split
  · exact hs
  · split
    · exact hfreed
    · split
      · exact hdiscard _
      · split
        · exact hfreed.unpack ..
        · exact hdiscard _

theorem closeAtFrame (hs : LogLaw s) (f : Frame) (lastFrame committed knownEnd : Bool) :
    LogLaw (s.closeAtFrame ch f lastFrame committed knownEnd) := by
  have hclosed (r : AdmissionRecord) (o : LogOutcome) :
      LogLaw ((s.closeRecord ch r o).nextItemOccasion ch) :=
    (hs.of_sheds (s.closeRecord_logSheds ch r o)).nextItemOccasion
  unfold State.closeAtFrame
  split
  · exact hs
  · split
    · exact hclosed ..
    · split
      · exact hclosed ..
      · exact hs

theorem present (hs : LogLaw s) (f : Frame) (target committed knownEnd : Bool) :
    LogLaw (s.present ch f target committed knownEnd) := by
  simp only [State.present]
  split
  · exact hs
  · refine closeAtFrame (of_sheds (hs.of_eq ?_ ?_) (State.countPresentation_logSheds _ ch _ _)) f _ _ _ <;>
      simp

theorem presentNext (hs : LogLaw s) (f : Frame) : LogLaw (s.presentNext ch f) :=
  present (hs.of_eq (by simp) (by simp)) f _ _ _

theorem playingDeadline (hs : LogLaw s) (presented : Bool) : LogLaw (s.playingDeadline ch presented) := by
  simp only [State.playingDeadline]
  split
  · exact hs.of_eq (by simp) (by simp)
  · split
    · exact hs.of_eq (by simp) (by simp)
    · split
      · exact hs.presentNext _
      · exact hs.of_sheds (s.underrun_logSheds ch)

theorem holdingDeadline (hs : LogLaw s) : LogLaw (s.holdingDeadline ch) := by
  unfold State.holdingDeadline
  split
  · split
    · exact presentNext (hs.of_eq (by simp) (by simp)) _
    · exact hs.of_sheds (s.holdOn_logSheds ch)
  · exact hs.of_sheds (s.holdOn_logSheds ch)

theorem deadlineEdge (hs : LogLaw s) : LogLaw (s.deadlineEdge ch) := by
  have hfreed : LogLaw (s.freePresenting ch) := hs.of_eq (by simp) (by simp)
  refine of_eq (s := s.deadline ch) ?_ (by simp [State.deadlineEdge]) (by simp [State.deadlineEdge])
  unfold State.deadline
  dsimp only
  split
  · exact hfreed.playingDeadline _
  · exact hfreed.of_eq (by simp) (by simp)
  · exact hfreed.holdingDeadline
  · exact hfreed.of_eq (by simp) (by simp)
  all_goals exact hs

theorem reachDeadline (hs : LogLaw s) : LogLaw (s.reachDeadline ch) := by
  unfold State.reachDeadline
  split
  · exact hs
  · exact hs.deadlineEdge
  · exact deadlineEdge (hs.of_eq (by simp) (by simp))

theorem sampleEdge (hs : LogLaw s) : LogLaw (s.sampleEdge ch) := by
  simp only [State.sampleEdge]
  split
  · exact hs.of_eq (by simp) (by simp)
  · exact hs.deadlineEdge
  · split
    · exact hs.deadlineEdge
    · exact hs.of_eq (by simp) (by simp)

/-! ### Requests -/

theorem cue (hs : LogLaw s) {comp : Composition} {reel : Nat} {licence : Option Nat}
    (hjudged : judgeAdmission s comp reel = .ok licence) (item slot : Nat) :
    LogLaw (s.cue ch comp item slot reel licence) := by
  have hcleared : s.LogSheds ((s.modChan ch (fun c => c.fullFlush)).restartIngest ch) :=
    .of_eq (by simp) (by simp)
  have hadmitted := (hs.of_sheds hcleared).admitAndFetch (ch := ch) (c := comp) (reel := reel)
    (fun hlog => hcleared.logFull_eq_false (logFull_of_judgeAdmission hjudged hlog)) item slot licence
  exact hadmitted.of_eq (State.modChan_log ..) (State.modChan_nextSeq ..)

/-- A jump to another item is judged on the state its releases leave; the close of the presenting record and
the flush leave the room that the judgment found (R97, R136, R137). -/
theorem jumpAway {t : State} {comp : Composition} {item slot reel n : Nat} (hs : LogLaw s)
    (h : s.jumpAway ch comp item slot reel n = .ok t) : LogLaw t := by
  simp only [State.jumpAway] at h
  split at h
  · cases h
  · rename_i licence hjudged
    cases h
    have hflushed := ((s.jumpReleases ch n).closeLeft_logSheds ch n).trans (State.jumpFlush_logSheds _ ch n)
    refine (of_sheds hs ((s.jumpReleases_logSheds ch n).trans hflushed)).admitAndFetch (fun hlog => ?_) ..
    exact hflushed.logFull_eq_false (logFull_of_judgeAdmission hjudged hlog)

theorem jump {t : State} {comp : Composition} {slot item reel : Nat} (hs : LogLaw s)
    (h : s.jump ch comp slot item reel = .ok t) : LogLaw t := by
  have hfinish {u : State} (hu : LogLaw u) (n : Nat) :
      LogLaw (u.modChan ch (fun k => k.jumped item reel n)) := hu.of_eq (by simp) (by simp)
  have haway (n : Nat) (hn : (s.jumpAway ch comp item slot reel n).map
      (fun st => st.modChan ch (fun k => k.jumped item reel n)) = .ok t) : LogLaw t := by
    cases hj : s.jumpAway ch comp item slot reel n with
    | error st => simp [hj, Except.map] at hn
    | ok u =>
      simp only [hj, Except.map, Except.ok.injEq] at hn
      exact hn ▸ hfinish (hs.jumpAway hj) n
  simp only [State.jump] at h
  split at h
  · split at h
    · cases h
      refine hfinish (of_sheds hs ((s.discardFetching_logSheds ch).trans (.of_eq ?_ ?_))) _ <;>
        simp [State.jumpWithin]
    · exact haway _ h
  · exact haway _ h

/-- RELEASE-LOG removes records from the head (R109). -/
theorem doReleaseLog (hs : LogLaw s) (n : Byte) (oldest : Word) : LogLaw (doReleaseLog n oldest s).1 := by
  unfold Machine.doReleaseLog
  dsimp only
  iterate 3 (split; · exact hs)
  exact hs.of_sheds ⟨(List.drop_sublist ..).map _, rfl⟩

/-- Every request keeps the law: CUE and JUMP may take a log record, STOP, JUMP and RELEASE-LOG may remove
some, and the others leave the log alone. -/
theorem perform (r : Request) (hs : LogLaw s) : LogLaw (perform r s).1 := by
  have hset {ch : ChannelId} (f : Channel → Channel) : LogLaw (s.modChan ch f) := hs.of_eq (by simp) (by simp)
  cases r with
  | identify | status | softReset | readTime | readLog | readNotices => exact hs
  | readComposition slot => exact (doReadComposition_fst slot s).symm ▸ hs
  | loadLicence l => exact (doLoadLicence_fst l s).symm ▸ hs
  | readLicence i => exact (doReadLicence_fst i s).symm ▸ hs
  | revokeLicence i => exact hs.of_logBook (doRevokeLicence_logBook ..)
  | deleteLicence i => exact hs.of_logBook (doDeleteLicence_logBook ..)
  | counterOp i op v => exact hs.of_logBook (doCounterOp_logBook ..)
  | setTime t => exact hs.of_logBook (doSetTime_logBook ..)
  | adjustTime d => exact hs.of_logBook (doAdjustTime_logBook ..)
  | releaseLog n oldest => exact hs.doReleaseLog n oldest
  | stop n =>
    refine onChannel_induction (P := LogLaw) hs fun ch _ => ?_
    split
    · exact hs.of_sheds (s.stop_logSheds ch)
    · exact hs
  | cue n item reel =>
    refine onChannel_induction (P := LogLaw) hs fun ch _ => ?_
    dsimp only
    split
    iterate 2
      · iterate 2 (split; · exact hs)
        exact hs.cue ‹_› ..
    · exact hs
  | jump n item reel =>
    refine onChannel_induction (P := LogLaw) hs fun ch _ => ?_
    dsimp only
    iterate 5 (split; · exact hs)
    exact hs.jump ‹_›
  | clearResetCause mask => exact hs.of_logBook (doClearResetCause_logBook ..)
  | clearNotices mode pairs => exact hs.of_logBook (doClearNotices_logBook ..)
  | maskNotices value change => exact hs.of_logBook (doMaskNotices_logBook ..)
  | loadComposition c =>
    obtain h | ⟨i, -, h⟩ := doLoadComposition_cases c s <;> exact h.symm ▸ hs
  | dropComposition slot =>
    obtain h | ⟨o, -, -, h⟩ := doDropComposition_cases slot s <;> exact h.symm ▸ hs
  | loadShow n items =>
    obtain h | ⟨ch, -, -, h⟩ := doLoadShow_cases n items s
    · exact h.symm ▸ hs
    · rw [Machine.perform, h]
      exact hs.of_eq (State.modChan_log ..) (State.modChan_nextSeq ..)
  | clearShow n =>
    obtain h | ⟨ch, -, h⟩ := doClearShow_cases n s
    · exact h.symm ▸ hs
    · rw [Machine.perform, h]
      exact hs.of_eq (State.modChan_log ..) (State.modChan_nextSeq ..)
  | channelReport n => exact onChannel_induction (P := LogLaw) hs fun _ _ => hs
  | setRoute n lanes =>
    simp only [Machine.perform, doSetRoute]
    split
    · exact hs
    · refine onChannel_induction (P := LogLaw) hs fun ch _ => ?_
      split
      · exact hs
      · exact hset _
  | setTracks | setStyle | setSubtitleOffset =>
    refine onChannel_induction (P := LogLaw) hs fun ch _ => ?_
    split
    · exact hs
    · exact hset _
  | configureChannel | start | pause | acknowledgeSuspension =>
    refine onChannel_induction (P := LogLaw) hs fun ch _ => ?_
    (repeat' split) <;> simp [hs, hset]
  | resume =>
    refine onChannel_induction (P := LogLaw) hs fun ch _ => ?_
    dsimp only
    (repeat' split) <;> simp [hs, hset]

/-! ### Start-up and steps -/

/-- Start-up keeps the number of a log record that it keeps (R110). -/
theorem startedLog_seq {now : Nat} {g g' : LogRecord} (h : startedLog now g = some g') : g'.seq = g.seq := by
  unfold startedLog at h
  split at h
  · cases h; rfl
  · split at h
    · cases h; rfl
    · cases h

theorem startedLog_seqs_sublist (now : Nat) (l : List LogRecord) :
    ((l.filterMap (startedLog now)).map (·.seq)).Sublist (l.map (·.seq)) := by
  induction l with
  | nil => exact .slnil
  | cons g rest ih =>
    cases hg : startedLog now g with
    | none => simpa [hg] using ih.cons g.seq
    | some g' => simpa [hg, startedLog_seq hg] using ih

/-- Start-up closes or discards the OPEN records of the log, or loses it (R91, R92, R110). -/
theorem startUp (hs : LogLaw s) (kind : ResetKind) : LogLaw (s.startUp kind) := by
  by_cases hkind : kind = .retainedLoss
  · subst hkind
    rw [State.startUp_retainedLoss]
    exact ⟨Nat.zero_le _, .nil, nofun⟩
  · obtain ⟨hstart, -⟩ := s.startUp_settled hkind
    rw [hstart]
    exact hs.of_sheds ⟨startedLog_seqs_sublist .., rfl⟩

theorem commandInvariant : CommandInvariant LogLaw where
  queue _ _ hs := hs
  modLink _ _ hs := hs
  raise _ _ _ _ hs := hs
  perform r _ hs := hs.perform r
  completeLicence _ _ _ hs := hs.of_logBook (completeLicence_logBook ..)
  startUp kind _ hs := hs.startUp kind
  powerDown hs := hs
  clockTick {s} hs := hs.of_logBook s.clockTick_logBook
  takePathBytes bytes s hs := hs.of_eq (s.takePathBytes_log bytes) (s.takePathBytes_nextSeq bytes)
  sendNextReturn {s} hs := hs.of_eq s.sendNextReturn_log s.sendNextReturn_nextSeq
  portSent hs := hs
  takeSegment {s} hs := hs.of_eq s.takeSegment_log s.takeSegment_nextSeq
  finishSegment hs := hs.finishSegment
  reachDeadline _ _ hs := hs.reachDeadline
  sampleEdge _ _ hs := hs.sampleEdge

end LogLaw

/-- Settles O36: a log record is taken only by an admission that check 1 of R96 let pass, and every other
change of the log keeps the number of each record that it keeps. -/
theorem logLawIsKept : Obligations.LogLawIsKept := fun _ _ hs h => LogLaw.commandInvariant.step hs h

end Sys2Proof.Machine

/-! ## What an accepted admission found (R70, R95, R96) -/

namespace Sys2Proof.Machine

/-- The key ids of an admission are the non-zero ones of its reels (R95). -/
theorem mem_keyIdsFrom {c : Composition} {reel : Nat} {id : Id64} : id ∈ keyIdsFrom c reel ↔
    (∃ r ∈ c.reels.drop reel, id ∈ [r.pictureKey, r.soundKey, r.subtitleKey]) ∧ id ≠ 0 := by
  simp only [keyIdsFrom, List.mem_filter, List.mem_flatten, List.mem_map, exists_exists_and_eq_and,
    ne_eq, decide_eq_true_eq]

theorem inWindow_of_licenceCheck {s : State} {l : Licence} (h : licenceCheck s l = none) :
    l.windowStart ≤ s.clock.time ∧ s.clock.time < l.windowEnd := by
  unfold licenceCheck at h
  split at h
  · cases h
  · rename_i hopen
    simp only [Bool.or_eq_true, Bool.not_eq_true', not_or, Bool.not_eq_false] at hopen
    simpa [Licence.inWindow] using hopen.2

/-- All that a keyed item's checks found when they pass (R96, checks 2 to 6). -/
structure KeyedPass (s : State) (c : Composition) (reel i : Nat) (l : Licence) : Prop where
  set : s.clock.set = true
  licence : s.licence i = some l
  covers : covers l.matchValue l.matchMask c.title = true
  usable : licenceCheck s l = none
  keys : ∀ id ∈ keyIdsFrom c reel, ∃ k, s.findKey id = some k ∧ k.owner = i

/-- Key ids that all resolve, to one owner (R11, R96, checks 3 and 4). -/
theorem owner_of_owners {s : State} {ids : List Id64} {i : Nat} {others : List Nat}
    (hfound : ids.any (fun k => (s.findKey k).isNone) = false) (howners : owners s ids = i :: others)
    (hone : others.any (fun o => o ≠ i) = false) {id : Id64} (hid : id ∈ ids) :
    ∃ k, s.findKey id = some k ∧ k.owner = i := by
  obtain ⟨k, hk⟩ : ∃ k, s.findKey id = some k := by
    have hsome := List.any_eq_false.mp hfound id hid
    exact Option.ne_none_iff_exists'.mp (by simpa using hsome)
  have hmem : k.owner ∈ owners s ids := List.mem_filterMap.mpr ⟨id, hid, by simp [hk]⟩
  rw [howners] at hmem
  obtain h | h := List.mem_cons.mp hmem
  · exact ⟨k, hk, h⟩
  · exact ⟨k, hk, by simpa using List.any_eq_false.mp hone _ h⟩

theorem keyedPass_of_keyedCheck {s : State} {c : Composition} {reel : Nat} {licence : Option Nat}
    (h : keyedCheck s c reel = .ok licence) : ∃ i l, licence = some i ∧ KeyedPass s c reel i l := by
  unfold keyedCheck at h
  dsimp only at h
  split at h
  · cases h
  · rename_i hset
    split at h
    · cases h
    · rename_i hfound
      split at h
      · cases h
      · rename_i i others howners
        split at h
        · cases h
        · rename_i l hl
          split at h
          · cases h
          · rename_i hmatch
            split at h
            · cases h
            · cases h
              obtain ⟨hone, hcovers⟩ := Bool.or_eq_false_iff.mp (Bool.eq_false_iff.mpr hmatch)
              exact ⟨i, l, rfl, by simpa using hset, hl, by simpa using hcovers, ‹_›,
                fun _ hid => owner_of_owners (Bool.eq_false_iff.mpr hfound) howners hone hid⟩

/-- An accepted judgment is that of a keyed item that passes, or of a plain item (R95, R96). -/
theorem judgeAdmission_eq_ok {s : State} {c : Composition} {reel : Nat} {licence : Option Nat}
    (h : judgeAdmission s c reel = .ok licence) :
    (isKeyed c reel = true ∧ ∃ i l, licence = some i ∧ KeyedPass s c reel i l) ∨
      (keyIdsFrom c reel = [] ∧ licence = none) := by
  unfold judgeAdmission at h
  split at h
  · cases h
  · split at h
    · exact .inl ⟨‹_›, keyedPass_of_keyedCheck h⟩
    · rename_i hplain
      cases h
      exact .inr ⟨by simpa [isKeyed] using hplain, rfl⟩

/-- Settles O34: the branches of the judgment that accept, read backwards. -/
theorem admissionFindsOneUsableLicence : Obligations.AdmissionFindsOneUsableLicence := by
  refine fun s c reel => ⟨fun i h => ?_, fun h => ⟨fun r hr => ?_, fun hlogged => ?_⟩⟩
  · obtain ⟨hkeyed, j, l, hj, hpass⟩ | ⟨-, hnone⟩ := judgeAdmission_eq_ok h
    · cases hj
      obtain ⟨hfree, hseq⟩ := State.logFull_eq_false_iff.mp
        (logFull_of_judgeAdmission h (by simp [needsLog, hkeyed]))
      obtain ⟨hopen, hcap⟩ := licenceCheck_eq_none hpass.usable
      obtain ⟨hstart, hend⟩ := inWindow_of_licenceCheck hpass.usable
      exact ⟨hpass.set, hfree, hseq, l, hpass.licence, hopen, hstart, hend, hcap,
        by simpa [covers] using hpass.covers,
        fun r hr id hid h0 => hpass.keys id (mem_keyIdsFrom.mpr ⟨⟨r, hr, hid⟩, h0⟩)⟩
    · cases hnone
  · obtain ⟨-, _, _, hsome, -⟩ | ⟨hempty, -⟩ := judgeAdmission_eq_ok h
    · cases hsome
    · have hzero (id : Id64) (hid : id ∈ [r.pictureKey, r.soundKey, r.subtitleKey]) : id = 0 := by
        by_contra h0
        have hmem := mem_keyIdsFrom.mpr ⟨⟨r, hr, hid⟩, h0⟩
        simp [hempty] at hmem
      exact ⟨hzero _ (by simp), hzero _ (by simp), hzero _ (by simp)⟩
  · exact (State.logFull_eq_false_iff.mp (logFull_of_judgeAdmission h (by simp [needsLog, hlogged]))).1

end Sys2Proof.Machine

/-! ## READ-LOG and RELEASE-LOG (R107 to R109, R200) -/

namespace Sys2Proof.Machine

/-- A condition touches no entry of another kind (R190). -/
theorem mem_withCondition_of_ne {notices : List Notice} {k : NoticeKind} {holds : Bool} {n : Notice}
    (h : n.kind ≠ k) : n ∈ withCondition notices k holds ↔ n ∈ notices := by
  have hof : n.isOf k none = false := by simp [Notice.isOf, h]
  unfold withCondition
  split
  · split
    · rfl
    · simp only [List.mem_append, List.mem_singleton, or_iff_left_iff_imp]
      rintro rfl
      exact absurd rfl h
  · simp [hof]

/-- The part with the oldest `n` log records released (R107, R109). -/
def State.releasedLog (s : State) (n : Nat) : State := { s with log := s.log.drop n }.refreshLogLow

theorem State.releasedLog_eq (s : State) (n : Nat) : s.releasedLog n =
    { s with
      log := s.log.drop n, notices := (s.releasedLog n).notices, attn := (s.releasedLog n).attn } := rfl

theorem State.freeLog_releasedLog (s : State) (n : Nat) :
    (s.releasedLog n).freeLog = 128 - (s.log.length - n) :=
  congrArg (128 - ·) (List.length_drop ..)

/-- LOG-LOW follows the release (R107). -/
theorem State.hasCondition_logLow_releasedLog (s : State) (n : Nat) :
    (s.releasedLog n).hasCondition .logLow = decide (128 - (s.log.length - n) ≤ 16) := by
  rw [← s.freeLog_releasedLog n]
  exact any_withCondition ..

/-- What RELEASE-LOG does with a count in range (R109). -/
theorem doReleaseLog_of_count {s : State} {count : Byte} (oldest : Word) {head : LogRecord}
    (h1 : 1 ≤ count.toNat) (h128 : count.toNat ≤ 128) (hlen : count.toNat ≤ s.log.length)
    (hhead : s.log[0]? = some head) : doReleaseLog count oldest s =
      if head.seq ≠ oldest.toNat then (s, refuse .notFound 5)
      else if (s.log.take count.toNat).any (fun r => !r.closed) then (s, refuse .inUse 5)
      else (s.releasedLog count.toNat,
        okReply (byteOf (128 - (s.log.length - count.toNat)) ::
          leBytes 4 (((s.log[count.toNat]?).map (·.seq)).getD 0))) := by
  have hcount : ¬(count.toNat < 1 ∨ 128 < count.toNat ∨ s.log.length < count.toNat) := by omega
  have hseq : ((s.log.head?.map (·.seq)) ≠ some oldest.toNat) = (head.seq ≠ oldest.toNat) := by
    simp [List.head?_eq_getElem?, hhead]
  have hnext : (s.releasedLog count.toNat).log.head? = s.log[count.toNat]? := List.head?_drop
  simp only [doReleaseLog, if_neg hcount, hseq, ← s.freeLog_releasedLog, ← hnext]
  rfl

/-- Settles O35: READ-LOG replies from the log as it stands; RELEASE-LOG refuses by its first failing check, and
leaves `State.releasedLog` when there is none. -/
theorem logIsReadAndReleasedFromTheHead : Obligations.LogIsReadAndReleasedFromTheHead := by
  intro s tag count ht
  refine ⟨?_, fun oldest head h1 h128 hlen hhead => ?_, fun oldest hcount => ⟨List.replicate 5 0, ?_⟩⟩
  · rintro _ rfl
    rw [exec_of_takes ht rfl]
    rfl
  · rw [exec_of_takes ht rfl, perform, doReleaseLog_of_count oldest h1 h128 hlen hhead]
    refine ⟨fun hseq hclosed => ⟨s.releasedLog count.toNat, ?_, s.releasedLog_eq _,
      s.hasCondition_logLow_releasedLog _, fun n hn => mem_withCondition_of_ne hn⟩,
      fun hseq hopen => ⟨List.replicate 5 0, ?_⟩, fun hseq => ⟨List.replicate 5 0, ?_⟩⟩
    · have hall : (s.log.take count.toNat).any (fun r => !r.closed) = false := by
        simpa using hclosed
      rw [if_neg (not_not.mpr hseq), if_neg (Bool.eq_false_iff.mp hall)]
      rfl
    · have hany : (s.log.take count.toNat).any (fun r => !r.closed) = true := by simpa using hopen
      rw [if_neg (not_not.mpr hseq), if_pos hany]
      rfl
    · rw [if_pos hseq]
      rfl
  · have hbad : count.toNat < 1 ∨ 128 < count.toNat ∨ s.log.length < count.toNat := by omega
    rw [exec_of_takes ht rfl]
    simp only [perform, doReleaseLog, if_pos hbad]
    rfl

end Sys2Proof.Machine

/-! ## A JUMP to another item (R97, R133, R134, R136, R137) -/

namespace Sys2Proof.Machine

/-! ### What releases, close and flush leave of their channel -/

/-- A channel's state, timer, stall count, queue, credit and epoch: what no end of a record touches. -/
def Channel.desk (c : Channel) : ChannelState × FrameTimer × Nat × List Segment × Nat × Byte :=
  (c.state, c.timer, c.stallCount, c.queue, c.granted, c.epoch)

section
variable (s : State) (ch : ChannelId)

theorem State.discardRecord_desk (r : AdmissionRecord) :
    ((s.discardRecord ch r).chan ch).desk = (s.chan ch).desk := by
  rw [s.discardRecord_chan ch r]
  rfl

theorem State.discardFetching_desk : ((s.discardFetching ch).chan ch).desk = (s.chan ch).desk :=
  State.foldl_field (fun t => (t.chan ch).desk) _ (fun t r => t.discardRecord_desk ch r) _ s

theorem State.uncharge_desk (r : AdmissionRecord) :
    ((s.uncharge ch r).chan ch).desk = (s.chan ch).desk := by
  simp [State.uncharge, State.modRecord, Channel.desk]

theorem State.jumpReleases_desk (n : Nat) : ((s.jumpReleases ch n).chan ch).desk = (s.chan ch).desk := by
  have hdiscarded := s.discardFetching_desk ch
  simp only [State.jumpReleases]
  split
  · exact hdiscarded
  · have hfreed := (State.uncharge_desk _ ch ‹_›).trans hdiscarded
    split
    · exact (State.discardRecord_desk ..).trans hfreed
    · exact hfreed

theorem State.closeLeft_desk (n : Nat) : ((s.closeLeft ch n).chan ch).desk = (s.chan ch).desk := by
  unfold State.closeLeft
  split
  · split
    · rw [s.closeRecord_chan ch]
      rfl
    · rfl
  · rfl

/-- Without committed frames the presenting record closes, and with it the last record goes (R137). -/
theorem State.closeLeft_zero_records (h : (s.chan ch).records.length ≤ 1) :
    ((s.closeLeft ch 0).chan ch).records = [] := by
  unfold State.closeLeft Channel.presenting
  match hrecords : (s.chan ch).records with
  | [] => simpa using hrecords
  | [r] => simp [State.closeRecord_chan, Channel.removeRecord, hrecords]
  | _ :: _ :: _ => simp [hrecords] at h

/-- A raised epoch empties the queue and grants its blocks again (R45). -/
theorem State.raiseEpoch_chan : (s.raiseEpoch ch).chan ch =
    { s.chan ch with
      epoch := (s.chan ch).epoch + 1, queue := []
      granted := (s.chan ch).granted + blocksHeld (s.chan ch).queue } := by
  simp only [State.raiseEpoch]
  split <;> simp

/-- Ring and port at a jump (R136, steps 2 and 3). -/
theorem State.jumpFlush_chan (n : Nat) : (s.jumpFlush ch n).chan ch =
    { (s.chan ch).flushAfter n with
      epoch := (s.chan ch).epoch + 1, queue := []
      granted := (s.chan ch).granted + blocksHeld (s.chan ch).queue } := by
  rw [State.jumpFlush, State.raiseEpoch_chan, State.chan_modChan_same]
  rfl

/-! ### The state that the target is admitted in -/

/-- The state in which a jump to another item admits its target: records released and left, ring and port
flushed (R136, R137). -/
def State.jumpCleared (s : State) (ch : ChannelId) (n : Nat) : State :=
  ((s.jumpReleases ch n).closeLeft ch n).jumpFlush ch n

theorem State.jumpCleared_desk (n : Nat) : ((s.jumpCleared ch n).chan ch).desk =
    ((s.chan ch).state, (s.chan ch).timer, (s.chan ch).stallCount, [],
      (s.chan ch).granted + blocksHeld (s.chan ch).queue, (s.chan ch).epoch + 1) := by
  have hleft := (State.closeLeft_desk (s.jumpReleases ch n) ch n).trans (s.jumpReleases_desk ch n)
  simp only [Channel.desk, Prod.mk.injEq] at hleft
  obtain ⟨hstate, htimer, hstall, hqueue, hgranted, hepoch⟩ := hleft
  simp [State.jumpCleared, State.jumpFlush_chan, Channel.desk, Channel.flushAfter, hstate, htimer, hstall,
    hqueue, hgranted, hepoch]

theorem State.jumpCleared_zero_records : ((s.jumpCleared ch 0).chan ch).records = [] := by
  rw [State.jumpCleared, State.jumpFlush_chan]
  exact State.closeLeft_zero_records _ ch (s.jumpReleases_sheds ch 0).2

theorem State.jumpCleared_compositions (n : Nat) : (s.jumpCleared ch n).compositions = s.compositions :=
  State.compositions_of_steady (by simp [State.jumpCleared])

theorem State.jumpAway_of_ok {comp : Composition} {item slot reel n : Nat} {licence : Option Nat}
    (h : judgeAdmission (s.jumpReleases ch n) comp reel = .ok licence) :
    s.jumpAway ch comp item slot reel n =
      .ok ((s.jumpCleared ch n).admitAndFetch ch comp item slot reel licence) := by
  simp only [State.jumpAway, h, State.jumpCleared]

theorem State.jumpAway_of_error {comp : Composition} {item slot reel n : Nat} {status : Status}
    (h : judgeAdmission (s.jumpReleases ch n) comp reel = .error status) :
    s.jumpAway ch comp item slot reel n = .error status := by
  simp only [State.jumpAway, h]

end

/-! ### The checks of JUMP (R134) -/

/-- The conditions on channel, target item and reel under which JUMP goes to another item. -/
structure JumpsAway (s : State) (ch : ChannelId) (i : ShowItem) (comp : Composition) (item reel : Nat) :
    Prop where
  state : (s.chan ch).state ∈ [.cueing, .primed, .playing, .paused, .holding]
  free : isCommitted (s.chan ch).jump = false
  other : ∀ a, (s.chan ch).presenting = some a → a.item ≠ item
  item : (s.chan ch).item item = some i
  composition : s.composition i.slot.toNat = some comp
  reel : reel < comp.reels.length

namespace JumpsAway

variable {s : State} {ch : ChannelId} {i : ShowItem} {comp : Composition}

theorem jump_eq {item reel : Nat} (h : JumpsAway s ch i comp item reel) :
    s.jump ch comp i.slot.toNat item reel =
      (s.jumpAway ch comp item i.slot.toNat reel (s.chan ch).committedFrames).map (fun t =>
        t.modChan ch (fun c => c.jumped item reel (s.chan ch).committedFrames)) := by
  simp only [State.jump]
  split
  · rw [if_neg (h.other _ ‹_›)]
  · rfl

theorem judgesJump {item reel : Nat} (h : JumpsAway s ch i comp item reel) :
    (s.chan ch).state.judgesJump = true := by
  have hmem := h.state
  simp only [List.mem_cons, List.not_mem_nil, or_false] at hmem
  obtain hst | hst | hst | hst | hst := hmem <;> rw [hst] <;> rfl

theorem jumpTarget_eq {item reel : Nat} (h : JumpsAway s ch i comp item reel) :
    s.jumpTarget ch item reel = some (comp, i.slot.toNat) := by
  simp only [State.jumpTarget, h.item, h.composition, if_pos h.reel]

theorem beforeEntry_eq {item reel : Nat} (h : JumpsAway s ch i comp item reel) :
    (s.chan ch).beforeEntry item reel = false := by
  unfold Channel.beforeEntry
  cases hr : (s.chan ch).presenting with
  | none => rfl
  | some r => simp [h.other r hr]

/-- The admission refuses: the reply carries its status. -/
theorem doJump_of_error {item reel : Byte} {status : Status}
    (h : JumpsAway s ch i comp item.toNat reel.toNat)
    (hjudged : judgeAdmission (s.jumpReleases ch (s.chan ch).committedFrames) comp reel.toNat = .error status) :
    doJump ch.number item reel s = (s, refuse status 3) := by
  simp only [doJump, onChannel_number, h.judgesJump, h.free, h.jumpTarget_eq, h.beforeEntry_eq, h.jump_eq,
    s.jumpAway_of_error ch hjudged, Except.map, Bool.not_true, Bool.false_eq_true, if_false]

end JumpsAway

/-! ### The state after an accepted jump (R98, R133, R136, R137) -/

/-- The state after a jump to another item. -/
def State.jumpedAway (s : State) (ch : ChannelId) (comp : Composition) (item slot reel n : Nat)
    (licence : Option Nat) : State :=
  ((s.jumpCleared ch n).admitAndFetch ch comp item slot reel licence).modChan ch (fun c => c.jumped item reel n)

section
variable (s : State) (ch : ChannelId) (comp : Composition) (item slot reel n : Nat) (licence : Option Nat)

/-- The fresh record is the newest and is fetched from the target reel (R98, R136). -/
theorem State.jumpedAway_admission :
    ((s.jumpedAway ch comp item slot reel n licence).chan ch).records =
      ((s.jumpCleared ch n).chan ch).records ++
        [freshRecord (s.jumpCleared ch n) ch comp item slot reel licence] ∧
    ((s.jumpedAway ch comp item slot reel n licence).chan ch).assembly.fetching =
      some (freshRecord (s.jumpCleared ch n) ch comp item slot reel licence).ident ∧
    ((s.jumpedAway ch comp item slot reel n licence).chan ch).assembly.cursor = .start reel := by
  rw [State.jumpedAway, State.chan_modChan_same, State.admitAndFetch_chan]
  exact ⟨rfl, rfl, rfl⟩

/-- The pending jump is set, and CUEING and PRIMED become CUEING; the timer and the stall count stay (R133,
R136). -/
theorem State.jumpedAway_desk :
    ((s.jumpedAway ch comp item slot reel n licence).chan ch).jump =
      some (PendingJump.create n item reel) ∧
    ((s.jumpedAway ch comp item slot reel n licence).chan ch).desk =
      (if (s.chan ch).state ∈ [.cueing, .primed] then .cueing else (s.chan ch).state, (s.chan ch).timer,
        (s.chan ch).stallCount, [], (s.chan ch).granted + blocksHeld (s.chan ch).queue,
        (s.chan ch).epoch + 1) := by
  have hcleared := s.jumpCleared_desk ch n
  simp only [Channel.desk, Prod.mk.injEq] at hcleared
  obtain ⟨hstate, htimer, hstall, hqueue, hgranted, hepoch⟩ := hcleared
  rw [State.jumpedAway, State.chan_modChan_same, State.admitAndFetch_chan]
  refine ⟨rfl, ?_⟩
  simp [Channel.desk, Channel.jumped, hstate, htimer, hstall, hqueue, hgranted, hepoch]

/-- The target's FETCH is sent last, with the new epoch (R47, R136). -/
theorem State.jumpedAway_returns (hc : s.composition slot = some comp) :
    (s.jumpedAway ch comp item slot reel n licence).returns.getLast? =
      some (.fetch ch ((s.chan ch).epoch + 1) item comp.id reel) := by
  have hcleared := s.jumpCleared_desk ch n
  simp only [Channel.desk, Prod.mk.injEq] at hcleared
  obtain ⟨-, -, -, -, -, hepoch⟩ := hcleared
  have hcomp : (s.jumpCleared ch n).composition slot = some comp := by
    simpa only [State.composition, State.compositionSlot, s.jumpCleared_compositions ch n] using hc
  rw [State.jumpedAway, State.modChan_returns, State.admitAndFetch_returns, hepoch, hcomp]
  exact List.getLast?_concat ..

theorem State.jumpedAway_beside :
    (s.jumpedAway ch comp item slot reel n licence).beside ch = s.beside ch := by
  simp [State.jumpedAway, State.jumpCleared]

end

/-- An admission that passes: the jump is accepted. -/
theorem JumpsAway.doJump_of_ok {s : State} {ch : ChannelId} {i : ShowItem} {comp : Composition}
    {item reel : Byte} {licence : Option Nat} (h : JumpsAway s ch i comp item.toNat reel.toNat)
    (hjudged : judgeAdmission (s.jumpReleases ch (s.chan ch).committedFrames) comp reel.toNat = .ok licence) :
    ∃ t, t = s.jumpedAway ch comp item.toNat i.slot.toNat reel.toNat (s.chan ch).committedFrames licence ∧
      doJump ch.number item reel s =
        (t, okReply [byteOf (s.chan ch).committedFrames, (t.chan ch).epoch, (t.chan ch).state.code]) := by
  refine ⟨_, rfl, ?_⟩
  simp only [doJump, onChannel_number, h.judgesJump, h.free, h.jumpTarget_eq, h.beforeEntry_eq, h.jump_eq,
    s.jumpAway_of_ok ch hjudged, Except.map, State.jumpedAway, Bool.not_true, Bool.false_eq_true, if_false]

/-- Settles O42: the judgment on the state after the releases decides between `State.jumpedAway` and a
refusal. -/
theorem jumpToAnotherItemAdmitsIt : Obligations.JumpToAnotherItemAdmitsIt := by
  rintro s tag item reel ch i comp _ ht hstate hfree hother hitem hcomp hreel rfl
  rw [Channel.items_getElem?] at hitem
  have haway : JumpsAway s ch i comp item.toNat reel.toNat := ⟨hstate, hfree, hother, hitem, hcomp, hreel⟩
  refine ⟨fun licence hjudged => ?_, fun status hjudged => ⟨List.replicate 3 0, ?_⟩⟩
  · obtain ⟨t, rfl, hjump⟩ := haway.doJump_of_ok hjudged
    have hk := s.jumpCleared_zero_records ch
    generalize (s.chan ch).committedFrames = k at *
    obtain ⟨hrecords, hfetching, hcursor⟩ :=
      s.jumpedAway_admission ch comp item.toNat i.slot.toNat reel.toNat k licence
    obtain ⟨hpending, hdesk⟩ := s.jumpedAway_desk ch comp item.toNat i.slot.toNat reel.toNat k licence
    have hreturns := s.jumpedAway_returns ch comp item.toNat i.slot.toNat reel.toNat k licence hcomp
    have hbeside := s.jumpedAway_beside ch comp item.toNat i.slot.toNat reel.toNat k licence
    generalize s.jumpedAway ch comp item.toNat i.slot.toNat reel.toNat k licence = t at *
    simp only [Channel.desk, Prod.mk.injEq] at hdesk
    obtain ⟨hst, htimer, hstall, hqueue, hgranted, hepoch⟩ := hdesk
    refine ⟨t, (t.chan ch).state, ?_, hst, rfl, hepoch, hqueue, hgranted, hpending, htimer, hstall,
      ⟨_, by rw [hrecords, List.getLast?_concat], rfl, rfl, rfl, rfl, rfl, rfl, rfl, hfetching, ?_⟩, hcursor,
      hreturns, State.chan_other_of_beside hbeside⟩
    · rw [exec_of_takes ht rfl, perform, hjump, hepoch]
      rfl
    · rintro rfl
      rw [hrecords, hk, List.nil_append]
  · rw [exec_of_takes ht rfl, perform, haway.doJump_of_error hjudged]
    rfl

end Sys2Proof.Machine

/-! ## START, PAUSE and RESUME (R119, R124, R125, R150) -/

namespace Sys2Proof.Machine

section
variable {s : State} {ch : ChannelId}

/-- The slot at the present pointer is READY when it has a frame to present (R112, R113). -/
theorem Channel.isReady_slotAt_present (c : Channel) :
    (c.slotAt c.present).isReady = c.nextReady.isSome := by
  unfold Channel.nextReady
  cases c.slotAt c.present <;> rfl

theorem doStart_of_primed (h : (s.chan ch).state = .primed) : doStart ch.number s =
    (s.modChan ch (fun c => { c with state := .playing, timer := { c.timer with state := .armed, count := 0 } }),
      okReply []) := by
  simp only [doStart, onChannel_number, h]

theorem doStart_of_not_primed (h : (s.chan ch).state ≠ .primed) :
    doStart ch.number s = (s, refuse .wrongState 0) := by
  rw [doStart, onChannel_number]
  split
  · exact absurd ‹_› h
  · rfl

theorem doPause_of_moving (h : (s.chan ch).state ∈ [.playing, .holding]) :
    doPause ch.number s = (s.modChan ch (fun c => { c with state := .paused }), okReply []) := by
  simp only [List.mem_cons, List.not_mem_nil, or_false] at h
  obtain h | h := h <;> simp only [doPause, onChannel_number, h]

theorem doPause_of_still (h : (s.chan ch).state ∉ [.playing, .holding]) :
    doPause ch.number s = (s, refuse .wrongState 0) := by
  simp only [List.mem_cons, List.not_mem_nil, or_false, not_or] at h
  rw [doPause, onChannel_number]
  split
  · exact absurd ‹_› h.1
  · exact absurd ‹_› h.2
  · rfl

/-- RESUME in PAUSED: PLAYING when the show is over or a frame is READY, else HOLDING (R125). -/
theorem doResume_of_paused (h : (s.chan ch).state = .paused) : doResume ch.number s =
    if s.showOver ch || ((s.chan ch).slotAt (s.chan ch).present).isReady then
      (s.modChan ch (fun c => { c with state := .playing, stallCount := 0 }), okReply [4])
    else (s.modChan ch (fun c => { c with state := .holding }), okReply [6]) := by
  simp only [doResume, onChannel_number, h, State.resumesPlaying, Channel.isReady_slotAt_present]
  rfl

/-- RESUME in SUSPENDED: the latch is judged before the resume depth (R150). -/
theorem doResume_of_suspended (h : (s.chan ch).state = .suspended) : doResume ch.number s =
    if (s.chan ch).latch then (s, refuse .stallLatched 1)
    else if (s.chan ch).readyCount < (s.chan ch).config.resume then
      (s, .reply (refusal .notReady ([0, byteOf (s.chan ch).readyCount] ++ leBytes 2 (s.chan ch).config.resume)))
    else (s.modChan ch (fun c => { c with state := .playing }), okReply [4]) := by
  simp only [doResume, onChannel_number, h]
  rfl

theorem doResume_of_other (h : (s.chan ch).state ∉ [.paused, .suspended]) :
    doResume ch.number s = (s, refuse .wrongState 1) := by
  simp only [List.mem_cons, List.not_mem_nil, or_false, not_or] at h
  rw [doResume, onChannel_number]
  dsimp only
  split
  · exact absurd ‹_› h.1
  · exact absurd ‹_› h.2
  · rfl

end

/-- Settles O38: each request by the channel state, in the branches of its action. -/
theorem startPauseAndResume : Obligations.StartPauseAndResume := by
  intro s tag ch ht
  have hstart : exec (.start tag ch.number) s = _ := exec_of_takes ht rfl
  have hpause : exec (.pause tag ch.number) s = _ := exec_of_takes ht rfl
  have hresume : exec (.resume tag ch.number) s = _ := exec_of_takes ht rfl
  simp only [perform] at hstart hpause hresume
  refine ⟨fun h => ?_, fun h => ?_, fun h => ?_, fun h => ?_, fun h hgo => ?_, fun h hover hslot => ?_,
    fun h hlatch => ?_, fun h hlatch hready => ?_, fun h hlatch hready => ?_, fun h => ?_⟩
  · rw [hstart, doStart_of_primed h]; rfl
  · rw [hstart, doStart_of_not_primed h]; rfl
  · rw [hpause, doPause_of_moving h]; rfl
  · rw [hpause, doPause_of_still h]; rfl
  · rw [hresume, doResume_of_paused h, if_pos (Bool.or_eq_true_iff.mpr hgo)]; rfl
  · rw [hresume, doResume_of_paused h, hover, hslot]; rfl
  · rw [hresume, doResume_of_suspended h, hlatch]; rfl
  · rw [hresume, doResume_of_suspended h, hlatch, if_neg Bool.false_ne_true,
      if_pos (show (s.chan ch).readyCount < _ from hready)]; rfl
  · rw [hresume, doResume_of_suspended h, hlatch, if_neg Bool.false_ne_true,
      if_neg (show ¬(s.chan ch).readyCount < _ from Nat.not_lt.mpr hready)]; rfl
  · rw [hresume, doResume_of_other h]; rfl

end Sys2Proof.Machine

/-! ## What reaches the ports (R49, R162)

`State.ports` adds the waiting return-path messages to `State.bench`: the showing counter and the licences reach
neither. -/

namespace Sys2Proof.Machine

/-- The ports, the unpacker's segment in work and the waiting messages. -/
def State.ports (s : State) :
    (ForwardPath × Option (List Byte) × Option Work × ChannelId × List PortEvent) × List ReturnMessage :=
  (s.bench, s.returns)

section
variable (s : State) (ch : ChannelId)

@[simp] theorem State.modChan_ports (f : Channel → Channel) : (s.modChan ch f).ports = s.ports := by
  simp [State.ports]
@[simp] theorem State.raise_ports (k : NoticeKind) (c : Option ChannelId) (d : NoticeDetail) :
    (s.raise k c d).ports = s.ports := rfl
@[simp] theorem State.refreshLogLow_ports : s.refreshLogLow.ports = s.ports := rfl
@[simp] theorem State.modLog_ports (q : Option Nat) (f : LogRecord → LogRecord) :
    (s.modLog q f).ports = s.ports := by
  unfold State.modLog; split <;> rfl
@[simp] theorem State.modLicence_ports (i : Nat) (f : Licence → Licence) : (s.modLicence i f).ports = s.ports := by
  unfold State.modLicence; split <;> rfl
@[simp] theorem State.revokeNow_ports (i : Nat) : (s.revokeNow i).ports = s.ports := by
  unfold State.revokeNow; split <;> rfl
@[simp] theorem State.lastUnpin_ports (i : Nat) : (s.lastUnpin i).ports = s.ports := by
  unfold State.lastUnpin; (repeat' split) <;> simp
@[simp] theorem State.unpin_ports (i : Nat) : (s.unpin i).ports = s.ports := by
  simp only [State.unpin]; (repeat' split) <;> simp
@[simp] theorem State.releaseReservation_ports (r : AdmissionRecord) :
    (s.releaseReservation r).ports = s.ports := by
  unfold State.releaseReservation; (repeat' split) <;> simp
@[simp] theorem State.dropRecord_ports (r : AdmissionRecord) : (s.dropRecord ch r).ports = s.ports := by
  simp only [State.dropRecord]; split <;> simp
@[simp] theorem State.closeRecord_ports (r : AdmissionRecord) (o : LogOutcome) :
    (s.closeRecord ch r o).ports = s.ports := by simp [State.closeRecord]
@[simp] theorem State.discardRecord_ports (r : AdmissionRecord) : (s.discardRecord ch r).ports = s.ports := by
  unfold State.discardRecord
  split
  · rw [State.dropRecord_ports, State.refreshLogLow_ports]; rfl
  · exact s.dropRecord_ports ch r
@[simp] theorem State.endRecord_ports (o : LogOutcome) (r : AdmissionRecord) :
    (s.endRecord ch o r).ports = s.ports := by
  unfold State.endRecord; split <;> simp
@[simp] theorem State.modRecord_ports (n : Nat) (f : AdmissionRecord → AdmissionRecord) :
    (s.modRecord ch n f).ports = s.ports := s.modChan_ports ch _
@[simp] theorem State.writeCounts_ports (r : AdmissionRecord) (a b c : Nat) :
    (s.writeCounts ch r a b c).ports = s.ports := by simp [State.writeCounts]
@[simp] theorem State.reachCountPoint_ports (r : AdmissionRecord) : (s.reachCountPoint ch r).ports = s.ports := by
  simp only [State.reachCountPoint]; (repeat' split) <;> simp
@[simp] theorem State.countPresentation_ports (n : Nat) (damaged : Bool) :
    (s.countPresentation ch n damaged).ports = s.ports := by
  simp only [State.countPresentation]; (repeat' split) <;> simp

variable {s} {t : State}

/-- What the ports hold, field by field. -/
theorem State.ports_eq_iff : t.ports = s.ports ↔ t.path = s.path ∧ t.returnOut = s.returnOut ∧ t.work = s.work ∧
    t.lastServed = s.lastServed ∧ t.subtitlePort = s.subtitlePort ∧ t.returns = s.returns := by
  simp [State.ports, State.bench, and_assoc]

theorem State.bench_of_ports (h : t.ports = s.ports) : t.bench = s.bench := congrArg Prod.fst h

theorem State.bench_eq_iff : t.bench = s.bench ↔ t.path = s.path ∧ t.returnOut = s.returnOut ∧ t.work = s.work ∧
    t.lastServed = s.lastServed ∧ t.subtitlePort = s.subtitlePort := by
  simp [State.bench]

end

/-- What an operation on a channel's show can differ in: everything but clock and reset causes, link, masks,
compositions, queue of commands, forward path and the messages sent last. -/
theorem State.eq_of_fixed {s t : State} (hsteady : t.steady = s.steady) (hpath : t.path = s.path)
    (hout : t.returnOut = s.returnOut) (hserved : t.lastServed = s.lastServed) : t = { s with
      chanA := t.chanA, chanB := t.chanB, returns := t.returns, licences := t.licences, keys := t.keys
      log := t.log, nextSeq := t.nextSeq, notices := t.notices, attn := t.attn, work := t.work
      subtitlePort := t.subtitlePort } := by
  cases s
  cases t
  simp only [State.steady, Prod.mk.injEq] at hsteady
  obtain ⟨rfl, rfl, rfl, rfl, rfl, rfl, rfl⟩ := hsteady
  subst hpath hout hserved
  rfl

end Sys2Proof.Machine

/-! ## The state that a deadline acts on (R19, R21, R113)

`State.atDeadline` is the part when a channel's deadline comes: the missing edges made, the PRESENTING slot
free. One lemma per channel state says what DEADLINE does with it. -/

namespace Sys2Proof.Machine

theorem State.modChan_modChan (s : State) (ch : ChannelId) (f g : Channel → Channel) :
    (s.modChan ch f).modChan ch g = s.modChan ch (fun c => g (f c)) := by cases ch <;> rfl

/-- Two changes of a channel agree when they agree on the channel as it is. -/
theorem State.modChan_congr {s : State} {ch : ChannelId} {f g : Channel → Channel}
    (h : f (s.chan ch) = g (s.chan ch)) : s.modChan ch f = s.modChan ch g := by
  simp only [State.modChan, h]

/-- A channel at its deadline, its missing edges made (notes/assumptions/25.md). -/
def Channel.edgesMade (c : Channel) : Channel :=
  match c.timer.state with
  | .running => c.runToDeadline
  | .stopped | .armed => c

/-- The part that a channel's deadline acts on. -/
def State.atDeadline (s : State) (ch : ChannelId) : State :=
  s.modChan ch (fun c => c.edgesMade.freePresenting)

/-- The period of a deadline that presents no slot: the running one, or that of the presenting record's item
(R21). -/
def State.keptPeriod (s : State) (ch : ChannelId) : Option Nat :=
  match (s.chan ch).timer.period with
  | some n => some n
  | none => (s.chan ch).presenting.bind (fun r => s.itemPeriod ch r.item)

theorem Channel.edgesMade_eq (c : Channel) :
    c.edgesMade = { c with timer := c.edgesMade.timer, sound := c.routerAtDeadline } := by
  unfold Channel.edgesMade Channel.routerAtDeadline
  cases c.timer.state <;> rfl

theorem Channel.edgesMade_period (c : Channel) : c.edgesMade.timer.period = c.timer.period := by
  unfold Channel.edgesMade
  cases c.timer.state <;> rfl

section
variable {s : State} {ch : ChannelId}

/-- The channel that a deadline acts on. -/
theorem State.atDeadline_chan : (s.atDeadline ch).chan ch = { s.chan ch with
    slots := (s.chan ch).slots.map (fun x => if x.isPresenting then .free else x)
    timer := (s.chan ch).edgesMade.timer, sound := (s.chan ch).routerAtDeadline } := by
  rw [State.atDeadline, State.chan_modChan_same, Channel.edgesMade_eq]
  rfl

theorem State.atDeadline_spec : AtDeadline s (s.atDeadline ch) ch where
  ledger := State.modChan_ledger (by rw [Channel.edgesMade_eq]; rfl)
  compositions := State.modChan_compositions ..
  chan := ⟨_, _, State.atDeadline_chan⟩

@[simp] theorem State.emit_beside (j : Nat) : (s.modChan ch (fun c => c.emit j)).beside ch = s.beside ch :=
  State.modChan_beside s ch _ fun _ => rfl

@[simp] theorem State.atDeadline_beside : (s.atDeadline ch).beside ch = s.beside ch :=
  State.modChan_beside s ch _ (fun c => by rw [Channel.edgesMade_eq]; rfl)

theorem State.keptPeriod_atDeadline : (s.atDeadline ch).keptPeriod ch = s.keptPeriod ch := by
  have hitem (n : Nat) : (s.atDeadline ch).itemPeriod ch n = s.itemPeriod ch n := by
    rw [State.itemPeriod, State.atDeadline_spec.itemComposition, State.atDeadline_chan]
    rfl
  unfold State.keptPeriod
  simp only [hitem]
  simp only [State.atDeadline_chan, Channel.edgesMade_period]
  rfl

/-- DEADLINE in ARMED or RUNNING is a deadline on the state with its missing edges made. -/
theorem State.reachDeadline_eq (hrun : (s.chan ch).timer.state ≠ .stopped) :
    s.reachDeadline ch = (s.modChan ch Channel.edgesMade).deadlineEdge ch := by
  unfold State.reachDeadline
  split
  · exact absurd ‹_› hrun
  · rw [State.modChan_of_eq (by simp only [Channel.edgesMade, *])]
  · rw [State.modChan_congr (g := Channel.edgesMade) (by simp only [Channel.edgesMade, *])]

theorem State.edgesMade_freePresenting :
    (s.modChan ch Channel.edgesMade).freePresenting ch = s.atDeadline ch :=
  s.modChan_modChan ch ..

theorem Channel.edgesMade_state (c : Channel) : c.edgesMade.state = c.state := by
  rw [Channel.edgesMade_eq]

theorem State.reachDeadline_of_playing (hrun : (s.chan ch).timer.state ≠ .stopped)
    (h : (s.chan ch).state = .playing) : s.reachDeadline ch =
      ((s.atDeadline ch).playingDeadline ch (s.chan ch).isPresenting).modChan ch (fun c => c.emit 0) := by
  have hpresenting : ((s.modChan ch Channel.edgesMade).chan ch).isPresenting = (s.chan ch).isPresenting := by
    rw [State.chan_modChan_same, Channel.edgesMade_eq]
    rfl
  rw [State.reachDeadline_eq hrun, State.deadlineEdge, State.deadline_of_playing
    (by rw [State.chan_modChan_same, Channel.edgesMade_state, h]), State.edgesMade_freePresenting, hpresenting]

theorem State.reachDeadline_of_holding (hrun : (s.chan ch).timer.state ≠ .stopped)
    (h : (s.chan ch).state = .holding) : s.reachDeadline ch =
      ((s.atDeadline ch).holdingDeadline ch).modChan ch (fun c => c.emit 0) := by
  rw [State.reachDeadline_eq hrun, State.deadlineEdge, State.deadline_of_holding
    (by rw [State.chan_modChan_same, Channel.edgesMade_state, h]), State.edgesMade_freePresenting]

theorem State.reachDeadline_of_paused (hrun : (s.chan ch).timer.state ≠ .stopped)
    (h : (s.chan ch).state = .paused) : s.reachDeadline ch =
      ((s.atDeadline ch).pausedDeadline ch).modChan ch (fun c => c.emit 0) := by
  have hst : ((s.modChan ch Channel.edgesMade).chan ch).state = .paused := by
    rw [State.chan_modChan_same, Channel.edgesMade_state, h]
  rw [State.reachDeadline_eq hrun, State.deadlineEdge]
  simp only [State.deadline, hst, State.edgesMade_freePresenting]

theorem State.reachDeadline_of_suspended (hrun : (s.chan ch).timer.state ≠ .stopped)
    (h : (s.chan ch).state = .suspended) : s.reachDeadline ch =
      ((s.atDeadline ch).suspendedDeadline ch).modChan ch (fun c => c.emit 0) := by
  have hst : ((s.modChan ch Channel.edgesMade).chan ch).state = .suspended := by
    rw [State.chan_modChan_same, Channel.edgesMade_state, h]
  rw [State.reachDeadline_eq hrun, State.deadlineEdge]
  simp only [State.deadline, hst, State.edgesMade_freePresenting]

end

end Sys2Proof.Machine

/-! ## Deadlines that present no slot (R123, R127, R147) -/

namespace Sys2Proof.Machine

/-- A channel after a deadline without a block: the picture message sent, every lane in its decay, and the edge
of sample 0 of the period that begins (R19, R121, R173). -/
def Channel.withoutBlock (c : Channel) (m : PictureMessage) (p : Option Nat) : Channel :=
  { c.sendPicture m with
    timer := FrameTimer.begin p, sound := c.sound.beginQuiet.edge 0 (p.getD 0) }

section
variable {s : State} {ch : ChannelId}

theorem State.pausedDeadline_emit : (s.pausedDeadline ch).modChan ch (fun c => c.emit 0) =
    s.modChan ch (fun c => c.withoutBlock (if c.lit then .repeated else .black) (s.keptPeriod ch)) := by
  simp only [State.pausedDeadline, State.keepPeriod, State.modChan_modChan]
  rfl

theorem State.suspendedDeadline_emit : (s.suspendedDeadline ch).modChan ch (fun c => c.emit 0) =
    s.modChan ch (fun c => c.withoutBlock .black (s.keptPeriod ch)) := by
  simp only [State.suspendedDeadline, State.keepPeriod, State.modChan_modChan]
  rfl

/-- The period does not depend on the channel's state. -/
theorem State.keptPeriod_of_state (st : ChannelState) :
    (s.modChan ch (fun c => { c with state := st })).keptPeriod ch = s.keptPeriod ch := by cases ch <;> rfl

/-- In PLAYING the deadline after the last frame of an item with its pause-after flag pauses (R120, R127). -/
theorem State.playingDeadline_of_pauseAfter (hjump : (s.chan ch).jump = none) (hend : s.atItemEnd ch = true)
    (hflag : (s.chan ch).pauseAfterSet = true) (hrecords : (s.chan ch).records ≠ []) :
    s.playingDeadline ch true = (s.modChan ch (fun c => { c with state := .paused })).pausedDeadline ch := by
  have hsome : (s.chan ch).records.isEmpty = false := by simpa using hrecords
  simp only [State.playingDeadline, hjump, hend, hflag, hsome, Option.isNone_none, Bool.and_self, Bool.not_false,
    if_true]

/-- A change of the channel at its deadline is one change of the channel that the row found. -/
theorem State.atDeadline_modChan (f : Channel → Channel) : (s.atDeadline ch).modChan ch f =
    s.setChan ch (f { s.chan ch with
      slots := (s.chan ch).slots.map (fun x => if x.isPresenting then .free else x)
      timer := (s.chan ch).edgesMade.timer, sound := (s.chan ch).routerAtDeadline }) := by
  rw [← State.atDeadline_chan]
  exact (s.modChan_modChan ch _ f).trans (by rw [State.atDeadline, State.chan_modChan_same]; rfl)

end

/-- Settles O45: in all three cases the deadline is `Channel.withoutBlock`. -/
theorem deadlinesThatPresentNothing : Obligations.DeadlinesThatPresentNothing := by
  intro s ch p hp hrun hperiod hstate
  have hkept : (s.atDeadline ch).keptPeriod ch = p := State.keptPeriod_atDeadline.trans hperiod.symm
  rw [exec_deadline hp]
  obtain h | h | ⟨h, hjump, hpresenting, hend, hflag, hrecords⟩ := hstate
  · rw [State.reachDeadline_of_paused hrun h, State.pausedDeadline_emit, hkept, State.atDeadline_modChan]
    simp [Channel.withoutBlock, Channel.sendPicture, FrameTimer.begin, h]
  · rw [State.reachDeadline_of_suspended hrun h, State.suspendedDeadline_emit, hkept, State.atDeadline_modChan]
    simp [Channel.withoutBlock, Channel.sendPicture, FrameTimer.begin, h]
  · obtain ⟨hjump', hrecords', -⟩ := (State.atDeadline_spec (s := s) (ch := ch)).kept
    rw [State.reachDeadline_of_playing hrun h, Channel.isPresenting, hpresenting,
      State.playingDeadline_of_pauseAfter (hjump'.trans hjump) (State.atDeadline_spec.atItemEnd.trans hend)
        (State.atDeadline_spec.pauseAfterSet.trans hflag) (hrecords'.symm ▸ hrecords),
      State.pausedDeadline_emit, State.keptPeriod_of_state, hkept, State.modChan_modChan, State.atDeadline_modChan]
    simp [Channel.withoutBlock, Channel.sendPicture, FrameTimer.begin, h]

end Sys2Proof.Machine

/-! ## The end of a show at a deadline (R120, R128, R162, R163, R173, R174) -/

namespace Sys2Proof.Machine

section
variable {s : State} {ch : ChannelId}

theorem State.endShow_chan : (s.endShow ch).chan ch = { s.chan ch with
    state := .ended, timer := FrameTimer.reset, picture := .black, lit := false
    subs := (s.chan ch).subs.released, sound := (s.chan ch).sound.endShow } := by
  simp [State.endShow, Subtitles.endShow, Channel.sendPicture]

/-- Each SHOWN cue is cleared (R163). -/
theorem State.endShow_subtitlePort :
    (s.endShow ch).subtitlePort = s.subtitlePort ++ (s.chan ch).clearEvents ch := by
  simp [State.endShow, State.putSubs, Subtitles.endShow, Channel.sendPicture, Channel.clearEvents, ShownCue.clear]

theorem State.endShow_pends : (s.endShow ch).pends .showEnded (some ch) := State.pends_raise ..

/-- The end of a show sends nothing on the return path (R128). -/
theorem State.endShow_rest : (s.endShow ch).returns = s.returns ∧ (s.endShow ch).work = s.work ∧
    (s.endShow ch).path = s.path ∧ (s.endShow ch).returnOut = s.returnOut ∧
    (s.endShow ch).lastServed = s.lastServed := by
  simp [State.endShow, State.putSubs]

/-- In PLAYING the deadline of a show that is over ends it (R120). -/
theorem State.playingDeadline_of_over (hjump : (s.chan ch).jump = none) (hover : s.showOver ch = true)
    (presented : Bool) : s.playingDeadline ch presented = s.endShow ch := by
  have hover' := hover
  simp only [State.showOver, Bool.and_eq_true] at hover'
  obtain ⟨⟨-, hrecords⟩, -⟩ := hover'
  simp only [State.playingDeadline, hjump, hrecords, hover, Option.isNone_none, Bool.not_true, Bool.and_false,
    Bool.true_and, Bool.false_eq_true, if_false, if_true]

end

/-- Settles O47: the deadline is `State.endShow` on the state at the deadline. -/
theorem finishedShowsEndAtTheDeadline : Obligations.FinishedShowsEndAtTheDeadline := by
  intro s ch hp h hrun hjump hover
  have hat := State.atDeadline_spec (s := s) (ch := ch)
  obtain ⟨hjump', -⟩ := hat.kept
  refine ⟨_, by rw [exec_deadline hp, State.reachDeadline_of_playing hrun h,
    State.playingDeadline_of_over (hjump'.trans hjump) (hat.showOver.trans hover)], ?_, ?_, ?_, ?_, ?_⟩
  · rw [State.chan_modChan_same, State.endShow_chan, State.atDeadline_chan]
    rfl
  · rw [State.modChan_subtitlePort, State.endShow_subtitlePort, State.atDeadline_chan, State.atDeadline,
      State.modChan_subtitlePort]
    rfl
  · exact State.endShow_pends.of_notices (State.modChan_notices ..)
  · exact State.chan_other_of_beside (by simp)
  · refine (State.eq_of_fixed (s := s) ?_ ?_ ?_ ?_).trans ?_
    all_goals simp [State.endShow_rest, State.atDeadline]

end Sys2Proof.Machine

/-! ## CUE (R116, R117, R46, R98) -/

namespace Sys2Proof.Machine

section
variable (s : State) (ch : ChannelId) (comp : Composition) (item slot reel : Nat) (licence : Option Nat)

/-- RESTART grants the whole allotment to an empty queue under a new epoch (R46). -/
theorem State.restartIngest_chan : (s.restartIngest ch).chan ch = { s.chan ch with
    epoch := (s.chan ch).epoch + 1, restartEpoch := (s.chan ch).epoch + 1, queue := [], granted := 512
    stale := 0 } := by
  simp [State.restartIngest, Config.allotment]

theorem State.restartIngest_returns : (s.restartIngest ch).returns =
    s.returns ++ [.restart ch ((s.chan ch).epoch + 1) 512] := by
  have habandoned : (s.abandonWork ch).returns = s.returns := by
    unfold State.abandonWork; (repeat' split) <;> rfl
  simp [State.restartIngest, State.sendReturn, habandoned, Config.allotment]

/-- Ring and port of an accepted CUE: what its admission finds (R117, steps 1 and 2). -/
def State.cueCleared (s : State) (ch : ChannelId) : State :=
  (s.modChan ch (fun c => c.fullFlush)).restartIngest ch

theorem State.cueCleared_chan : (s.cueCleared ch).chan ch = { s.chan ch with
    slots := (s.chan ch).slots.map (fun _ => .free), present := (s.chan ch).take
    epoch := (s.chan ch).epoch + 1, restartEpoch := (s.chan ch).epoch + 1, queue := [], granted := 512
    stale := 0 } := by
  rw [State.cueCleared, State.restartIngest_chan, State.chan_modChan_same]
  rfl

theorem State.cue_eq : s.cue ch comp item slot reel licence =
    ((s.cueCleared ch).admitAndFetch ch comp item slot reel licence).modChan ch (fun c => c.cued item reel) := rfl

/-- The record that CUE admits: what the flush and the restart leave alone is all that it reads (R98). -/
theorem freshRecord_cueCleared : freshRecord (s.cueCleared ch) ch comp item slot reel licence =
    freshRecord s ch comp item slot reel licence := by
  have hlicence : (s.cueCleared ch).licence = s.licence := by
    funext i
    exact State.licence_of_licences (by simp [State.cueCleared]) i
  simp only [freshRecord, admissionPercent, hlicence, State.cueCleared_chan]
  simp [State.cueCleared]

theorem State.cue_chan : (s.cue ch comp item slot reel licence).chan ch = { s.chan ch with
    state := .cueing, epoch := (s.chan ch).epoch + 1, restartEpoch := (s.chan ch).epoch + 1
    queue := [], granted := 512, stale := 0, stallCount := 0, latch := false, refusal := false
    slots := (s.chan ch).slots.map (fun _ => .free), present := (s.chan ch).take
    records := (s.chan ch).records ++ [freshRecord s ch comp item slot reel licence]
    nextIdent := (s.chan ch).nextIdent + 1, noNext := false, lastRecord := none
    assembly := Assembly.mk (some (freshRecord s ch comp item slot reel licence).ident) (.start reel) false
      UnpackCounts.zero
    position := some { pos := { item := item, reel := reel, frame := 0 }, presented := false }
    subs := (s.chan ch).subs.cue, sound := (s.chan ch).sound.cue (s.chan ch).config.sampleRate } := by
  rw [State.cue_eq, State.chan_modChan_same, State.admitAndFetch_chan, freshRecord_cueCleared,
    State.cueCleared_chan]
  rfl

theorem State.cue_returns : (s.cue ch comp item slot reel licence).returns = s.returns ++
    [.restart ch ((s.chan ch).epoch + 1) 512,
      .fetch ch ((s.chan ch).epoch + 1) item (((s.composition slot).map (·.id)).getD 0) reel] := by
  have hcomp : (s.cueCleared ch).composition slot = s.composition slot := by
    simp only [State.composition, State.compositionSlot,
      State.compositions_of_steady (s := s.cueCleared ch) (t := s) (by simp [State.cueCleared])]
  rw [State.cue_eq, State.modChan_returns, State.admitAndFetch_returns, hcomp, State.cueCleared_chan,
    State.cueCleared, State.restartIngest_returns, State.modChan_returns, State.chan_modChan_same,
    List.append_assoc]
  rfl

/-- Flush and restart leave what an admission reads beside its channel (R46, R112). -/
theorem State.cueCleared_fixed : (s.cueCleared ch).licences = s.licences ∧ (s.cueCleared ch).log = s.log ∧
    (s.cueCleared ch).nextSeq = s.nextSeq ∧ (s.cueCleared ch).keys = s.keys ∧
    (s.cueCleared ch).steady = s.steady := by
  simp [State.cueCleared]

/-- The licence that an admission names is reserved and pinned (R74, R98). -/
theorem State.admitAndFetch_licence (j : Nat) : (s.admitAndFetch ch comp item slot reel licence).licence j =
    if licence = some j then (s.licence j).map Licence.reserveAndPin else s.licence j :=
  (State.licence_of_books ((State.fetchNewest_books ..).trans (s.openAdmission_books ..)) j).trans
    (s.licence_enrol ch (freshRecord s ch comp item slot reel licence) j)

theorem State.admitAndFetch_nextSeq : (s.admitAndFetch ch comp item slot reel licence).nextSeq =
    if needsLog comp reel then s.nextSeq + 1 else s.nextSeq := by
  simp only [State.admitAndFetch, State.fetchNewest_nextSeq, State.openAdmission, State.modChan_nextSeq]
  cases licence <;> cases needsLog comp reel <;> simp [State.takeLog]

theorem State.cue_licence (j : Nat) : (s.cue ch comp item slot reel licence).licence j =
    if licence = some j then (s.licence j).map Licence.reserveAndPin else s.licence j := by
  obtain ⟨hlicences, -⟩ := s.cueCleared_fixed ch
  rw [State.cue_eq, State.licence_of_licences (State.modChan_licences ..), State.admitAndFetch_licence,
    State.licence_of_licences hlicences]

/-- The log record of an accepted CUE, when one is needed (R98, R106). -/
theorem State.cue_log : (s.cue ch comp item slot reel licence).log =
    s.log ++ if needsLog comp reel then [freshLogRecord s ch comp reel licence] else [] := by
  obtain ⟨hlicences, hlog, hseq, -, hsteady⟩ := s.cueCleared_fixed ch
  have hlicence : (s.cueCleared ch).licence = s.licence := funext (State.licence_of_licences hlicences)
  have hrecord : freshLogRecord (s.cueCleared ch) ch comp reel licence =
      freshLogRecord s ch comp reel licence := by
    simp only [freshLogRecord, hlicence, hseq, State.clock_of_steady hsteady]
  rw [State.cue_eq, State.modChan_log, State.admitAndFetch, State.fetchNewest_log, State.openAdmission_log,
    hrecord, hlog]

theorem State.cue_nextSeq : (s.cue ch comp item slot reel licence).nextSeq =
    if needsLog comp reel then s.nextSeq + 1 else s.nextSeq := by
  obtain ⟨-, -, hseq, -⟩ := s.cueCleared_fixed ch
  rw [State.cue_eq, State.modChan_nextSeq, State.admitAndFetch_nextSeq, hseq]

/-- CUE leaves keys, forward path, subtitle port and the messages sent last (R117). -/
theorem State.cue_fixed : (s.cue ch comp item slot reel licence).steady = s.steady ∧
    (s.cue ch comp item slot reel licence).keys = s.keys ∧
    (s.cue ch comp item slot reel licence).path = s.path ∧
    (s.cue ch comp item slot reel licence).returnOut = s.returnOut ∧
    (s.cue ch comp item slot reel licence).lastServed = s.lastServed ∧
    (s.cue ch comp item slot reel licence).subtitlePort = s.subtitlePort := by
  obtain ⟨-, -, -, hkeys, hsteady⟩ := s.cueCleared_fixed ch
  obtain ⟨hpath, hout, -, hserved, hport⟩ :=
    State.bench_eq_iff.mp ((s.cueCleared ch).admitAndFetch_bench ch comp item slot reel licence)
  have habandon (u : State) : (u.abandonWork ch).path = u.path ∧ (u.abandonWork ch).returnOut = u.returnOut ∧
      (u.abandonWork ch).lastServed = u.lastServed ∧ (u.abandonWork ch).subtitlePort = u.subtitlePort := by
    unfold State.abandonWork
    (repeat' split) <;> exact ⟨rfl, rfl, rfl, rfl⟩
  rw [State.cue_eq]
  simp only [State.modChan_steady, State.modChan_keys, State.modChan_path, State.modChan_returnOut,
    State.modChan_lastServed, State.modChan_subtitlePort, State.admitAndFetch_steady, State.admitAndFetch_keys,
    hpath, hout, hserved, hport, hkeys, hsteady, true_and]
  simp [State.cueCleared, State.restartIngest, State.sendReturn, habandon]

variable {s ch comp reel licence} {n : Nat} {itemByte reelByte : Byte} {i : ShowItem}

/-- What CUE starts: the item and reel of the request, or the first item and its entry reel (R116). -/
theorem State.cueTarget_eq (hn : n = if itemByte = 255 then 0 else itemByte.toNat)
    (hitem : (s.chan ch).items[n]? = some i) (hcomp : s.composition i.slot.toNat = some comp)
    (hreel : reel = if reelByte = 255 then i.entryReel.toNat else reelByte.toNat)
    (hlt : reel < comp.reels.length) :
    s.cueTarget ch itemByte reelByte = some (n, comp, i.slot.toNat, reel) := by
  rw [Channel.items_getElem?] at hitem
  simp only [State.cueTarget, ← hn, hitem, hcomp, ← hreel, if_pos hlt]

theorem doCue_of_target (hst : (s.chan ch).state ∈ [.loaded, .ended])
    (htarget : s.cueTarget ch itemByte reelByte = some (n, comp, slot, reel))
    (hjudge : judgeAdmission s comp reel = .ok licence) : doCue ch.number itemByte reelByte s =
      (s.cue ch comp n slot reel licence, okReply [byteOf n, byteOf reel, (s.chan ch).epoch + 1]) := by
  simp only [List.mem_cons, List.not_mem_nil, or_false] at hst
  obtain h | h := hst <;> simp only [doCue, onChannel_number, h, htarget, hjudge, State.cue_chan]

end

/-- Settles O37: the CUE is `State.cue`, whose parts the lemmas above give. -/
theorem cueStartsAShow : Obligations.CueStartsAShow := by
  intro s tag item reel ch n r i comp licence ht hst hn hitem hcomp hr hlt hjudge
  obtain ⟨hsteady, hkeys, hpath, hout, hserved, hport⟩ := s.cue_fixed ch comp n i.slot.toNat r licence
  refine ⟨s.cue ch comp n i.slot.toNat r licence, freshRecord s ch comp n i.slot.toNat r licence, ?_,
    s.cue_chan ch comp n _ r licence, rfl, rfl, rfl, rfl, rfl, rfl, rfl, rfl, rfl, rfl, ?_,
    s.cue_licence ch comp n _ r licence, ?_, State.chan_other_of_beside (s.cue_beside ..),
    (State.eq_of_fixed hsteady hpath hout hserved).trans (by rw [hkeys, hport])⟩
  · rw [exec_of_takes ht rfl, perform,
      doCue_of_target i.slot.toNat hst (State.cueTarget_eq hn hitem hcomp hr hlt) hjudge]
    rfl
  · rw [State.cue_returns, hcomp]
    rfl
  · rw [State.cue_log, State.cue_nextSeq]
    simp only [freshRecord]
    split
    · exact ⟨_, rfl, rfl, rfl, rfl, rfl, rfl, rfl⟩
    · exact ⟨List.append_nil _, rfl, rfl⟩

end Sys2Proof.Machine

/-! ## STOP (R129, R103, R105) -/

namespace Sys2Proof.Machine

section
variable (s : State) (ch : ChannelId) (o : LogOutcome)

/-- A log record after the records of a list end: gone when one that holds it has presented nothing, closed when
another holds it (R103, R105). -/
def LogRecord.ending (now : Nat) (o : LogOutcome) (records : List AdmissionRecord) (g : LogRecord) :
    Option LogRecord :=
  if records.any (fun a => a.logSeq = some g.seq && a.presented = 0) then none
  else if records.any (fun a => a.logSeq = some g.seq) then some (g.closedAt now o)
  else some g

/-- The first of two records to end, when it has presented nothing, takes its log record away. -/
theorem LogRecord.ending_cons_of_zero {now : Nat} {r : AdmissionRecord} (h : r.presented = 0)
    (rest : List AdmissionRecord) (g : LogRecord) : g.ending now o (r :: rest) =
      if r.logSeq = some g.seq then none else g.ending now o rest := by
  by_cases hg : r.logSeq = some g.seq <;> simp [LogRecord.ending, h, hg]

/-- The first record to end, when it has presented a frame, closes its log record. -/
theorem LogRecord.ending_cons_of_pos {now : Nat} {r : AdmissionRecord} (h : r.presented ≠ 0)
    (rest : List AdmissionRecord) (g : LogRecord) : g.ending now o (r :: rest) =
      LogRecord.ending now o rest (if r.logSeq = some g.seq then g.closedAt now o else g) := by
  by_cases hg : r.logSeq = some g.seq
  · simp [LogRecord.ending, LogRecord.closedAt, h, hg]
  · simp [LogRecord.ending, h, hg]

theorem State.discardRecord_log (r : AdmissionRecord) : (s.discardRecord ch r).log =
    s.log.filterMap (fun g => if r.logSeq = some g.seq then none else some g) := by
  unfold State.discardRecord
  split
  · rename_i n hn
    rw [State.dropRecord_log, ← List.filterMap_eq_filter]
    refine List.filterMap_congr fun g _ => ?_
    by_cases hg : g.seq = n <;> simp [hn, hg, Option.guard, eq_comm (a := n)]
  · rename_i hn
    simp [hn]

/-- Records that end one by one take their log records with them or close them. -/
theorem State.foldl_endRecord_log (l : List AdmissionRecord) :
    (l.foldl (fun st r => st.endRecord ch o r) s).log = s.log.filterMap (LogRecord.ending s.clock.time o l) := by
  induction l generalizing s with
  | nil =>
    have hkeep : LogRecord.ending s.clock.time o [] = some := funext fun _ => rfl
    rw [hkeep, List.filterMap_some]
    rfl
  | cons r rest ih =>
    rw [List.foldl_cons, ih, State.clock_of_steady (s.endRecord_steady ch o r), State.endRecord]
    split
    · rw [State.discardRecord_log, List.filterMap_filterMap]
      refine List.filterMap_congr fun g _ => ?_
      rw [LogRecord.ending_cons_of_zero o ‹_›]
      split <;> rfl
    · rw [State.closeRecord_log, List.filterMap_map]
      exact List.filterMap_congr fun g _ => (LogRecord.ending_cons_of_pos o ‹_› rest g).symm

/-- What a channel can lose with records that end: the records, the picture memory and the item in assembly. -/
def Channel.Drops (c d : Channel) : Prop :=
  d = { c with records := d.records, lastGood := d.lastGood, assembly := d.assembly } ∧
    d.assembly.idle = c.assembly.idle

theorem Channel.removeRecord_drops (c : Channel) (n : Nat) : c.Drops (c.removeRecord n) := by
  refine ⟨rfl, ?_⟩
  simp only [Channel.removeRecord]
  split <;> rfl

theorem Channel.Drops.trans {c d e : Channel} (h : c.Drops d) (h' : d.Drops e) : c.Drops e := by
  obtain ⟨heq, hidle⟩ := h
  obtain ⟨heq', hidle'⟩ := h'
  refine ⟨heq'.trans ?_, hidle'.trans hidle⟩
  rw [heq]

theorem State.foldl_endRecord_drops (l : List AdmissionRecord) :
    (s.chan ch).Drops ((l.foldl (fun st r => st.endRecord ch o r) s).chan ch) := by
  induction l generalizing s with
  | nil => exact ⟨rfl, rfl⟩
  | cons r rest ih =>
    refine Channel.Drops.trans ?_ (ih (s.endRecord ch o r))
    exact s.endRecord_chan ch o r ▸ (s.chan ch).removeRecord_drops r.ident

/-- The part after the first step of STOP: every record of the channel ended (R129). -/
def State.recordsEnded (s : State) (ch : ChannelId) : State :=
  (s.chan ch).records.foldl (fun st r => st.endRecord ch (s.chan ch).state.stopOutcome r) s

theorem State.recordsEnded_records : ((s.recordsEnded ch).chan ch).records = [] := by
  obtain ⟨-, hended⟩ := foldl_removeRecord
    (fun t => t.endRecord_chan ch (s.chan ch).state.stopOutcome) (s.chan ch).records s
  rw [State.recordsEnded, hended]
  exact List.filter_eq_nil_iff.mpr fun x hx => by simpa using ⟨x, hx, rfl⟩

theorem State.recordsEnded_chan : (s.recordsEnded ch).chan ch = { s.chan ch with
    records := [], lastGood := ((s.recordsEnded ch).chan ch).lastGood
    assembly := ((s.recordsEnded ch).chan ch).assembly } ∧
    ((s.recordsEnded ch).chan ch).assembly.idle = (s.chan ch).assembly.idle := by
  obtain ⟨heq, hidle⟩ := s.foldl_endRecord_drops ch (s.chan ch).state.stopOutcome (s.chan ch).records
  exact ⟨heq.trans (by rw [← State.recordsEnded, State.recordsEnded_records]), hidle⟩

theorem State.recordsEnded_ports : (s.recordsEnded ch).ports = s.ports :=
  State.foldl_field State.ports _ (fun t r => t.endRecord_ports ch _ r) _ s

theorem State.raiseEpoch_returns : (s.raiseEpoch ch).returns =
    if 0 < blocksHeld (s.chan ch).queue then addCredit ch (blocksHeld (s.chan ch).queue) s.returns
    else s.returns := by
  have habandoned : (s.abandonWork ch).returns = s.returns := by
    unfold State.abandonWork; (repeat' split) <;> rfl
  simp only [State.raiseEpoch]
  split <;> simp [State.sendCredit, habandoned]

/-- A raised epoch leaves the forward path, the message on its way and the subtitle port. -/
theorem State.raiseEpoch_fixed : (s.raiseEpoch ch).path = s.path ∧ (s.raiseEpoch ch).returnOut = s.returnOut ∧
    (s.raiseEpoch ch).lastServed = s.lastServed ∧ (s.raiseEpoch ch).subtitlePort = s.subtitlePort := by
  have habandoned : (s.abandonWork ch).path = s.path ∧ (s.abandonWork ch).returnOut = s.returnOut ∧
      (s.abandonWork ch).lastServed = s.lastServed ∧ (s.abandonWork ch).subtitlePort = s.subtitlePort := by
    unfold State.abandonWork
    (repeat' split) <;> exact ⟨rfl, rfl, rfl, rfl⟩
  simp only [State.raiseEpoch]
  split <;> simp [State.sendCredit, habandoned]

/-- The part before STOP's own effects on the channel: records ended, epoch raised, HALT sent (R129). -/
def State.halted (s : State) (ch : ChannelId) : State :=
  ((s.recordsEnded ch).raiseEpoch ch).sendReturn (.halt ch (((s.recordsEnded ch).raiseEpoch ch).chan ch).epoch)

theorem State.stop_eq : s.stop ch = ((((s.halted ch).modChan ch (fun c => c.stopped)).putSubs ch
    (((s.halted ch).chan ch).subs.endShow ch)).raise .showEnded (some ch)
      (.showEnded .stopped ((s.halted ch).chan ch).reportedPosition)) := by
  simp only [State.stop, State.putSubs_chan_same, State.chan_modChan_same]
  rfl

theorem State.halted_chan : (s.halted ch).chan ch = { s.chan ch with
    records := [], lastGood := ((s.recordsEnded ch).chan ch).lastGood
    assembly := ((s.recordsEnded ch).chan ch).assembly, epoch := (s.chan ch).epoch + 1, queue := []
    granted := (s.chan ch).granted + blocksHeld (s.chan ch).queue } := by
  obtain ⟨hended, -⟩ := s.recordsEnded_chan ch
  rw [State.halted, State.sendReturn_chan, State.raiseEpoch_chan, hended]

theorem State.halted_returns : (s.halted ch).returns = (if 0 < blocksHeld (s.chan ch).queue then
    addCredit ch (blocksHeld (s.chan ch).queue) s.returns else s.returns) ++
      [.halt ch ((s.chan ch).epoch + 1)] := by
  obtain ⟨hended, -⟩ := s.recordsEnded_chan ch
  obtain ⟨-, -, -, -, -, hreturns⟩ := State.ports_eq_iff.mp (s.recordsEnded_ports ch)
  simp only [State.halted, State.sendReturn, State.raiseEpoch_returns, State.raiseEpoch_chan, hreturns]
  rw [hended]

theorem State.stop_chan : ∃ lastGood, (s.stop ch).chan ch = { s.chan ch with
    state := .ended, records := [], timer := FrameTimer.reset
    slots := (s.chan ch).slots.map (fun _ => .free), present := (s.chan ch).take
    epoch := (s.chan ch).epoch + 1, queue := []
    granted := (s.chan ch).granted + blocksHeld (s.chan ch).queue
    picture := .black, lit := false, lastGood := lastGood
    stallCount := 0, latch := false, jump := none, assembly := (s.chan ch).assembly.idle
    subs := (s.chan ch).subs.released, sound := (s.chan ch).sound.stop } := by
  obtain ⟨-, hidle⟩ := s.recordsEnded_chan ch
  refine ⟨((s.recordsEnded ch).chan ch).lastGood, ?_⟩
  rw [State.stop_eq, State.raise_chan, State.putSubs_chan_same, State.chan_modChan_same, State.halted_chan,
    ← hidle]
  rfl

theorem State.stop_log : (s.stop ch).log =
    s.log.filterMap (LogRecord.ending s.clock.time (s.chan ch).state.stopOutcome (s.chan ch).records) := by
  rw [State.stop_eq, State.raise_log, State.putSubs_log, State.modChan_log, State.halted, State.sendReturn_log,
    State.raiseEpoch_log]
  exact s.foldl_endRecord_log ch _ _

/-- Each SHOWN cue is cleared (R163); of the return path only what `State.halted` sends waits. -/
theorem State.stop_ports : (s.stop ch).path = s.path ∧ (s.stop ch).returnOut = s.returnOut ∧
    (s.stop ch).lastServed = s.lastServed ∧
    (s.stop ch).subtitlePort = s.subtitlePort ++ (s.chan ch).clearEvents ch ∧
    (s.stop ch).returns = (s.halted ch).returns := by
  obtain ⟨hpath, hout, -, hserved, hport, -⟩ := State.ports_eq_iff.mp (s.recordsEnded_ports ch)
  obtain ⟨hpath', hout', hserved', hport'⟩ := (s.recordsEnded ch).raiseEpoch_fixed ch
  rw [State.stop_eq, State.halted_chan]
  refine ⟨?_, ?_, ?_, ?_, ?_⟩
  all_goals simp [State.putSubs, Subtitles.endShow, State.halted, State.sendReturn, Channel.clearEvents,
    ShownCue.clear, hpath, hout, hserved, hport, hpath', hout', hserved', hport']

theorem State.stop_pends : (s.stop ch).pends .showEnded (some ch) := by
  rw [State.stop_eq]
  exact State.pends_raise ..

variable {s ch}

theorem doStop_of_accepts (h : (s.chan ch).state.acceptsStop = true) :
    doStop ch.number s = (s.stop ch, okReply []) := by
  rw [doStop, onChannel_number, if_pos h]

end

/-- Settles O40: the STOP is `State.stop`, whose parts the lemmas above give. -/
theorem stopEndsTheShow : Obligations.StopEndsTheShow := by
  intro s tag ch ht hst
  have haccepts : (s.chan ch).state.acceptsStop = true := by
    simp only [List.mem_cons, List.not_mem_nil, or_false] at hst
    obtain h | h | h | h | h | h := hst <;> rw [h] <;> rfl
  obtain ⟨lastGood, hchan⟩ := s.stop_chan ch
  obtain ⟨hpath, hout, hserved, hport, hreturns⟩ := s.stop_ports ch
  have hoff : (s.chan ch).state.stopOutcome =
      if (s.chan ch).state = .suspended then .suspendedStopped else .stopped := by
    cases (s.chan ch).state <;> rfl
  refine ⟨s.stop ch, ?_, ?_, ?_, hport, hreturns.trans (s.halted_returns ch), s.stop_pends ch,
    State.chan_other_of_beside (s.stop_beside ch),
    (State.eq_of_fixed (s.stop_steady ch) hpath hout hserved).trans (by rw [State.stop_nextSeq])⟩
  · rw [exec_of_takes ht rfl, perform, doStop_of_accepts haccepts]
    rfl
  · rw [hchan]
    rfl
  · rw [State.stop_log, ← hoff]
    rfl

end Sys2Proof.Machine

/-! ## The deadline that presents a frame (R121, R122, R139, R140, R146) -/

namespace Sys2Proof.Machine

/-! ### What the showing counter writes of a channel -/

/-- What the showing counter writes of a channel: its records and their names, the item in assembly, the picture
memory and the marks of the next item (R93, R94, R99, R103). -/
def Channel.Counts (c d : Channel) : Prop :=
  d = { c with
    records := d.records, nextIdent := d.nextIdent, assembly := d.assembly, lastGood := d.lastGood
    noNext := d.noNext, refusal := d.refusal }

theorem Channel.Counts.refl (c : Channel) : c.Counts c := rfl

theorem Channel.Counts.trans {c d e : Channel} (h : c.Counts d) (h' : d.Counts e) : c.Counts e := by
  unfold Channel.Counts at *
  rw [h] at h'
  exact h'

/-- What a channel shows, and its queue, are not the showing counter's. -/
theorem Channel.Counts.kept {c d : Channel} (h : c.Counts d) : d.slots = c.slots ∧ d.present = c.present ∧
    d.take = c.take ∧ d.state = c.state ∧ d.stallCount = c.stallCount ∧ d.jump = c.jump ∧
    d.position = c.position ∧ d.timer = c.timer ∧ d.picture = c.picture ∧ d.lit = c.lit ∧ d.sound = c.sound ∧
    d.subs = c.subs ∧ d.queue = c.queue ∧ d.epoch = c.epoch := by
  rw [Channel.Counts] at h
  rw [h]
  exact ⟨rfl, rfl, rfl, rfl, rfl, rfl, rfl, rfl, rfl, rfl, rfl, rfl, rfl, rfl⟩

section
variable (s : State) (ch : ChannelId)

theorem State.modRecord_counts (n : Nat) (f : AdmissionRecord → AdmissionRecord) :
    (s.chan ch).Counts ((s.modRecord ch n f).chan ch) := by
  rw [State.modRecord, State.chan_modChan_same]
  rfl

theorem State.writeCounts_counts (r : AdmissionRecord) (presented held damaged : Nat) :
    (s.chan ch).Counts ((s.writeCounts ch r presented held damaged).chan ch) := by
  rw [State.writeCounts, State.modLog_chan]
  exact s.modRecord_counts ch _ _

theorem State.reachCountPoint_counts (r : AdmissionRecord) :
    (s.chan ch).Counts ((s.reachCountPoint ch r).chan ch) := by
  rw [State.reachCountPoint_eq, State.raise_chan, State.modLog_chan, State.chargeRecord_chan]
  rfl

theorem State.countPresentation_counts (n : Nat) (damaged : Bool) :
    (s.chan ch).Counts ((s.countPresentation ch n damaged).chan ch) := by
  unfold State.countPresentation
  split
  · exact .refl _
  · rename_i r _
    have hwrite (held damaged' : Nat) := s.writeCounts_counts ch r (bump32 r.presented) held damaged'
    have hcount (u : State) := u.reachCountPoint_counts ch r
    dsimp only
    split <;> split
    · exact ((hwrite ..).trans (by rw [State.modLog_chan]; rfl)).trans (hcount _)
    · exact (hwrite ..).trans (hcount _)
    · rw [State.modLog_chan]
      exact hwrite ..
    · exact hwrite ..

theorem State.nextItemOccasion_counts : (s.chan ch).Counts ((s.nextItemOccasion ch).chan ch) := by
  obtain h | h | ⟨item, st, h⟩ | ⟨c, item, slot, reel, licence, h⟩ := s.nextItemOccasion_cases ch
  · rw [h]
    rfl
  · rw [h, State.reportNoNext, State.chan_modChan_same]
    rfl
  · rw [h, State.refuseNext, State.raise_chan, State.chan_modChan_same]
    rfl
  · rw [h, State.admitAndFetch_chan]
    rfl

theorem State.closeRecord_counts (r : AdmissionRecord) (o : LogOutcome) :
    (s.chan ch).Counts ((s.closeRecord ch r o).chan ch) := by
  rw [State.closeRecord_chan]
  rfl

theorem State.closeAtFrame_counts (f : Frame) (lastFrame committed knownEnd : Bool) :
    (s.chan ch).Counts ((s.closeAtFrame ch f lastFrame committed knownEnd).chan ch) := by
  cases hr : (s.chan ch).record f.record with
  | none => simp only [State.closeAtFrame, hr, Channel.Counts.refl]
  | some r =>
    rw [State.closeAtFrame_eq hr]
    split
    · exact (s.closeRecord_counts ch r _).trans (State.nextItemOccasion_counts _ ch)
    · exact .refl _

theorem State.closeAtFrame_bench (f : Frame) (lastFrame committed knownEnd : Bool) :
    (s.closeAtFrame ch f lastFrame committed knownEnd).bench = s.bench := by
  cases hr : (s.chan ch).record f.record with
  | none => simp only [State.closeAtFrame, hr]
  | some r =>
    rw [State.closeAtFrame_eq hr]
    split
    · exact (State.nextItemOccasion_bench _ ch).trans (State.bench_of_ports (s.closeRecord_ports ch r _))
    · rfl

/-! ### The hand-offs of a presented slot (R121, R122) -/

theorem Channel.showPicture_of_good (c : Channel) {f : Frame} (h : f.picture.damage = none) :
    (c.showPicture f).picture = .new f.picture.bytes ∧ (c.showPicture f).lit = true := by
  simp [Channel.showPicture, Channel.sendPicture, h]

/-- A damaged picture repeats the record's last good one, and is BLACK without one (R122). -/
theorem Channel.showPicture_of_damaged (c : Channel) {f : Frame} (h : f.picture.damage ≠ none) :
    (c.showPicture f).picture = (if c.lastGood = some f.record then .repeated else .black) ∧
      (c.showPicture f).lit = decide (c.lastGood = some f.record) := by
  have hsome : f.picture.damage.isNone = false := by simpa [Option.isSome_iff_ne_none] using h
  simp only [Channel.showPicture, hsome, Bool.false_eq_true, if_false]
  split <;> simp [Channel.sendPicture, *]

theorem Channel.giveSound_eq (c : Channel) (f : Frame) (channels : Nat) (target knownEnd : Bool) :
    c.giveSound f channels target knownEnd =
      { c with sound := (c.giveSound f channels target knownEnd).sound } := by
  unfold Channel.giveSound
  (repeat' split) <;> rfl

theorem Channel.giveSound_of_good (c : Channel) {f : Frame} {p : Part} (hp : f.sound = some p)
    (hgood : p.damage = none) (channels : Nat) (target knownEnd : Bool) :
    (c.giveSound f channels target knownEnd).sound =
      c.sound.beginBlock { bytes := p.bytes, channels := channels, knownEnd := knownEnd } target := by
  simp [Channel.giveSound, hp, hgood]

theorem Channel.giveSound_of_bad (c : Channel) {f : Frame} (h : ∀ p, f.sound = some p → p.damage ≠ none)
    (channels : Nat) (target knownEnd : Bool) :
    (c.giveSound f channels target knownEnd).sound = c.sound.beginQuiet := by
  unfold Channel.giveSound
  split
  · rename_i p hp
    rw [if_neg (by simpa using h p hp)]
  · rfl

/-- A channel with a frame handed to picture link, sound router and subtitle scheduler (R121). -/
def Channel.handed (c : Channel) (ch : ChannelId) (f : Frame) (comp : Composition) (target knownEnd : Bool) :
    Channel :=
  { c with
    slots := c.slots.set c.present (.presenting f), present := ringAdd c.present 1
    picture := (c.showPicture f).picture, lit := (c.showPicture f).lit, lastGood := (c.showPicture f).lastGood
    sound := (c.giveSound f comp.sourceChannels.toNat target knownEnd).sound
    subs := (c.subs.present ch comp c.lastPresented f.pos target).subs
    position := some { pos := f.pos, presented := true }, lastRecord := some f.record
    timer := FrameTimer.begin (some (samplesPerFrame c.config.sampleRate comp.rate)) }

/-- The part of a presentation before its count. -/
def State.handed (s : State) (ch : ChannelId) (f : Frame) (comp : Composition) (target knownEnd : Bool) : State :=
  let outputs := s.modChan ch (fun c =>
    ((c.presentSlot f).showPicture f).giveSound f comp.sourceChannels.toNat target knownEnd)
  let cued := outputs.putSubs ch ((outputs.chan ch).subs.present ch comp (s.chan ch).lastPresented f.pos target)
  (cued.modChan ch (fun c =>
    { c with
      position := some { pos := f.pos, presented := true }
      lastRecord := some f.record
      timer := FrameTimer.begin (some (samplesPerFrame c.config.sampleRate comp.rate)) })).raiseDamage ch f

variable {f : Frame} {comp : Composition} (target committed knownEnd : Bool)

theorem State.present_eq (hcomp : s.itemComposition ch f.pos.item = some comp) :
    s.present ch f target committed knownEnd =
      ((s.handed ch f comp target knownEnd).countPresentation ch f.record f.damaged).closeAtFrame ch f
        (comp.isLastFrame f.pos.reel f.pos.frame) committed knownEnd := by
  simp only [State.present, hcomp]
  rfl

theorem Channel.outputs_eq (c : Channel) :
    ((c.presentSlot f).showPicture f).giveSound f comp.sourceChannels.toNat target knownEnd = { c with
      slots := c.slots.set c.present (.presenting f), present := ringAdd c.present 1
      picture := (c.showPicture f).picture, lit := (c.showPicture f).lit
      lastGood := (c.showPicture f).lastGood
      sound := (c.giveSound f comp.sourceChannels.toNat target knownEnd).sound } := by
  have hpicture : (c.presentSlot f).showPicture f = { c.presentSlot f with
      picture := (c.showPicture f).picture, lit := (c.showPicture f).lit
      lastGood := (c.showPicture f).lastGood } := by
    by_cases hgood : f.picture.damage.isNone = true
    · simp [Channel.showPicture, Channel.presentSlot, Channel.sendPicture, hgood]
    · by_cases hlast : c.lastGood = some f.record <;>
        simp [Channel.showPicture, Channel.presentSlot, Channel.sendPicture, hgood, hlast]
  rw [Channel.giveSound_eq, hpicture]
  congr 1
  simp only [Channel.giveSound, Channel.presentSlot]
  (repeat' split) <;> rfl

theorem State.handed_chan :
    (s.handed ch f comp target knownEnd).chan ch = (s.chan ch).handed ch f comp target knownEnd := by
  simp only [State.handed, State.raiseDamage_chan, State.chan_modChan_same, State.putSubs_chan_same,
    Channel.outputs_eq]
  rfl

/-- The port takes the scheduler's events of the frame (R160). -/
theorem State.handed_bench : (s.handed ch f comp target knownEnd).bench = { s with
    subtitlePort := s.subtitlePort ++
      ((s.chan ch).subs.present ch comp (s.chan ch).lastPresented f.pos target).events }.bench := by
  have hdamage (u : State) : (u.raiseDamage ch f).bench = u.bench := by
    unfold State.raiseDamage
    split <;> rfl
  simp only [State.handed, hdamage, State.modChan_bench, State.putSubs_bench, State.chan_modChan_same,
    Channel.outputs_eq]
  simp [State.bench]

end

/-! ### The channel that a presented slot finds -/

/-- A channel at the deadline that presents its next slot: the missing edges made, the PRESENTING slot free, the
hold over, the pending jump one frame on (R19, R113, R133, R145). -/
def Channel.toPresent (c : Channel) : Channel :=
  { c with
    state := .playing, stallCount := if c.state = .holding then 0 else c.stallCount
    slots := c.slots.map (fun x => if x.isPresenting then .free else x)
    timer := c.edgesMade.timer, sound := c.routerAtDeadline
    jump := c.jump.bind PendingJump.afterFrame }

section
variable {s : State} {ch : ChannelId} {f : Frame} {comp : Composition}

theorem State.presentNext_toPresent {w : State}
    (hw : w.modChan ch (fun c => { c with jump := (s.chan ch).jump.bind PendingJump.afterFrame }) =
      s.modChan ch Channel.toPresent) (hjump : (w.chan ch).jump = (s.chan ch).jump) :
    w.presentNext ch f = (s.modChan ch Channel.toPresent).present ch f (isTargetWait (s.chan ch).jump)
      (isCommitted (s.chan ch).jump) (isLastCommitted (s.chan ch).jump) := by
  simp only [State.presentNext, hjump, hw]

/-- The deadline of a channel that presents its next slot (R120, R121, R145). -/
theorem State.reachDeadline_presents (hrun : (s.chan ch).timer.state ≠ .stopped) (hstate : s.presentsNext ch)
    (hf : (s.chan ch).slotAt (s.chan ch).present = .ready f) : s.reachDeadline ch =
      ((s.modChan ch Channel.toPresent).present ch f (isTargetWait (s.chan ch).jump)
        (isCommitted (s.chan ch).jump) (isLastCommitted (s.chan ch).jump)).modChan ch (fun c => c.emit 0) := by
  have hat := State.atDeadline_spec (s := s) (ch := ch)
  obtain ⟨hjump, -⟩ := hat.kept
  obtain ⟨h, hgo⟩ | ⟨h, hrecovers⟩ := hstate
  · rw [State.reachDeadline_of_playing hrun h, hat.playing (presented := (s.chan ch).isPresenting) hf hgo,
      State.presentNext_toPresent (s := s) _ hjump]
    refine (s.modChan_modChan ch ..).trans (State.modChan_congr ?_)
    rw [Channel.edgesMade_eq]
    simp [Channel.freePresenting, Channel.toPresent, h]
  · rw [State.reachDeadline_of_holding hrun h, hat.holding hf hrecovers,
      State.presentNext_toPresent (s := s) _ (by rw [State.chan_modChan_same]; exact hjump)]
    rw [State.atDeadline, State.modChan_modChan, State.modChan_modChan]
    refine State.modChan_congr ?_
    rw [Channel.edgesMade_eq]
    simp [Channel.freePresenting, Channel.toPresent, h]

/-- The state in which a presented slot is counted, and the state after. -/
theorem exec_deadline_handed (hp : s.powered = true) (hrun : (s.chan ch).timer.state ≠ .stopped)
    (hstate : s.presentsNext ch) (hf : (s.chan ch).slotAt (s.chan ch).present = .ready f)
    (hcomp : s.itemComposition ch f.pos.item = some comp) : ∃ u v : State,
      exec (.deadline ch) s = .next (v.modChan ch (fun c => c.emit 0)) ∧
      u.chan ch = (s.chan ch).toPresent.handed ch f comp (isTargetWait (s.chan ch).jump)
        (isLastCommitted (s.chan ch).jump) ∧
      (u.chan ch).Counts (v.chan ch) ∧ v.beside ch = s.beside ch ∧ v.steady = s.steady ∧ v.bench = { s with
        subtitlePort := s.subtitlePort ++ ((s.chan ch).subs.present ch comp (s.chan ch).lastPresented f.pos
          (isTargetWait (s.chan ch).jump)).events }.bench := by
  have hcomp' : (s.modChan ch Channel.toPresent).itemComposition ch f.pos.item = some comp := by
    rw [← hcomp]
    simp [State.itemComposition, Channel.item, State.composition, State.compositionSlot, Channel.toPresent]
  refine ⟨(s.modChan ch Channel.toPresent).handed ch f comp (isTargetWait (s.chan ch).jump)
    (isLastCommitted (s.chan ch).jump), _, (exec_deadline hp ch).trans (by
      rw [State.reachDeadline_presents hrun hstate hf, State.present_eq _ _ _ _ _ hcomp']), ?_, ?_, ?_, ?_, ?_⟩
  · rw [State.handed_chan, State.chan_modChan_same]
  · exact (State.countPresentation_counts _ ch _ _).trans (State.closeAtFrame_counts _ ch _ _ _ _)
  · rw [← State.present_eq _ _ _ _ _ hcomp', State.present_beside]
    exact State.modChan_beside s ch _ fun _ => rfl
  · rw [← State.present_eq _ _ _ _ _ hcomp', State.present_steady, State.modChan_steady]
  · rw [State.closeAtFrame_bench, State.bench_of_ports (State.countPresentation_ports _ ch _ _), State.handed_bench,
      State.chan_modChan_same]
    simp [State.bench, Channel.toPresent, Channel.lastPresented]

/-- With the last committed frame the left record closes JUMPED-AWAY (R104, R139). -/
theorem exec_deadline_jumpedAway {t : State} {a : AdmissionRecord} (hp : s.powered = true)
    (hrun : (s.chan ch).timer.state ≠ .stopped) (hstate : s.presentsNext ch)
    (hf : (s.chan ch).slotAt (s.chan ch).present = .ready f)
    (hcomp : s.itemComposition ch f.pos.item = some comp) (ht : exec (.deadline ch) s = .next t)
    (hlast : isLastCommitted (s.chan ch).jump = true) (hnames : (s.chan ch).namesLaw)
    (ha : (s.chan ch).record f.record = some a) (hleft : a.chargeable = false) :
    (∀ r ∈ (t.chan ch).records, r.ident ≠ f.record) ∧
      ∀ n, a.logSeq = some n → n < s.nextSeq → ∀ g ∈ t.log, g.seq = n →
        g.closed = true ∧ g.outcome = some .jumpedAway := by
  obtain ⟨hmem, hident⟩ := Channel.record_eq_some ha
  have hold : f.record < (s.chan ch).nextIdent := hident ▸ hnames.2 a hmem
  obtain ⟨v, hcounted, hexec⟩ := exec_deadline_counts hp hrun hstate hf hcomp ha rfl rfl
  rw [AdmissionRecord.closesAt, hleft, hlast, if_neg Bool.false_ne_true, if_pos rfl, ht] at hexec
  cases hexec
  obtain ⟨later, next, hnext⟩ := State.nextItemOccasion_appended (v.closeRecord ch
    (a.presentedAt _ _ a.chargesNow a) (v.closingOutcome (a.presentedAt _ _ a.chargesNow a))) ch
  refine ⟨fun r hr => ?_, fun n hn hlt g hg hseq => ?_⟩
  · rw [State.chan_modChan_same] at hr
    obtain hr | hr := List.mem_append.mp (hnext.records ▸ hr)
    · rw [hcounted.closed_records, List.mem_filter] at hr
      simpa [hident] using hr.2
    · have hfresh := hnext.ident r hr
      rw [State.closeRecord_chan] at hfresh
      exact Nat.ne_of_gt (hfresh.trans hcounted.nextIdent ▸ hold)
  · rw [State.modChan_log, hnext.log] at hg
    obtain hg | hg := List.mem_append.mp hg
    · rw [hcounted.closed_log, List.mem_map] at hg
      obtain ⟨g', -, rfl⟩ := hg
      by_cases hg' : a.logSeq = some g'.seq
      · rw [if_pos hg', hleft]
        exact ⟨rfl, rfl⟩
      · rw [if_neg hg'] at hseq
        exact absurd (hn.trans (congrArg some hseq.symm)) hg'
    · have hfresh := hnext.seq g hg
      rw [State.closeRecord_nextSeq, hcounted.nextSeq] at hfresh
      omega

end

/-- Settles O43: the frame is handed to the channel's outputs, and what the showing counter then writes is none
of them. -/
theorem playingDeadlinesPresentTheNextFrame : Obligations.PlayingDeadlinesPresentTheNextFrame := by
  intro s ch f comp hp hrun hstate hf hcomp
  obtain ⟨u, v, hexec, hu, hcounts, hbeside, hsteady, hbench⟩ := exec_deadline_handed hp hrun hstate hf hcomp
  obtain ⟨hslots, hpresent, htake, hst, hstall, hjump, hposition, htimer, hpicture, hlit, hsound, hsubs, hqueue,
    hepoch⟩ := hcounts.kept
  obtain ⟨hpath, hout, hwork, hserved, hport⟩ := State.bench_eq_iff.mp hbench
  rw [hu] at hslots hpresent htake hst hstall hjump hposition htimer hpicture hlit hsound hsubs hqueue hepoch
  refine ⟨_, (s.chan ch).config.sampleRate / comp.frameRate.toNat, (s.chan ch).subs.present ch comp
    (s.chan ch).lastPresented f.pos (isTargetWait (s.chan ch).jump), hexec, rfl, ?_⟩
  rw [State.chan_modChan_same]
  refine ⟨hslots, hpresent, htake, hst, hstall, hjump.trans ?_, hposition, htimer, fun hgood => ?_,
    fun hdamage hlast => ?_, fun hdamage hlast => ?_, fun p hpart hgood => ?_, fun hbad => ?_, rfl, hsubs,
    (State.modChan_subtitlePort ..).trans hport, fun hlast hnames a ha hleft => ?_, hqueue, hepoch,
    State.chan_other_of_beside ((State.emit_beside 0).trans hbeside), ?_⟩
  · show (s.chan ch).jump.bind PendingJump.afterFrame = _
    match (s.chan ch).jump with
    | none => rfl
    | some (.committed ..) => rfl
    | some (.targetWait ..) => rfl
  · obtain ⟨hp', hl'⟩ := (s.chan ch).toPresent.showPicture_of_good hgood
    exact ⟨hpicture.trans hp', hlit.trans hl'⟩
  · obtain ⟨hp', hl'⟩ := (s.chan ch).toPresent.showPicture_of_damaged hdamage
    exact ⟨hpicture.trans (hp'.trans (if_pos hlast)), hlit.trans (hl'.trans (decide_eq_true hlast))⟩
  · obtain ⟨hp', hl'⟩ := (s.chan ch).toPresent.showPicture_of_damaged hdamage
    exact ⟨hpicture.trans (hp'.trans (if_neg hlast)), hlit.trans (hl'.trans (decide_eq_false hlast))⟩
  · simp only [Channel.emit, hsound, htimer]
    simp only [Channel.handed, Channel.giveSound_of_good _ hpart hgood]
    rfl
  · simp only [Channel.emit, hsound, htimer]
    simp only [Channel.handed, Channel.giveSound_of_bad _ hbad]
    rfl
  · have hclose := exec_deadline_jumpedAway hp hrun hstate hf hcomp hexec hlast hnames ha hleft
    rwa [State.chan_modChan_same] at hclose
  · exact (State.eq_of_fixed ((State.modChan_steady ..).trans hsteady) ((State.modChan_path ..).trans hpath)
      ((State.modChan_returnOut ..).trans hout) ((State.modChan_lastServed ..).trans hserved)).trans
        (by rw [State.modChan_work, hwork])

end Sys2Proof.Machine

/-! ## A suspension that its latch holds (R129, R131, R147, R149, R150) -/

namespace Sys2Proof.Machine

/-! ### Link events that start no request

`State.Still` is all that the receiver, a message on the link and the reply of a request do to channels, pending
notices and the execution place. -/

/-- Channels and composition table as they were, no notice gone, the execution place not emptied. -/
def State.Still (s t : State) : Prop :=
  t.stage = s.stage ∧ (∀ k c, s.pends k c → t.pends k c) ∧
    (s.link.executing.isSome = true → t.link.executing.isSome = true)

namespace State.Still

theorem refl (s : State) : s.Still s := ⟨rfl, fun _ _ => id, id⟩

theorem trans {s t u : State} (h : s.Still t) (h' : t.Still u) : s.Still u :=
  ⟨h'.1.trans h.1, fun k c hk => h'.2.1 k c (h.2.1 k c hk), fun he => h'.2.2 (h.2.2 he)⟩

/-- A change of the link that keeps the execution place. -/
theorem modLink {f : CommandLink → CommandLink} (s : State)
    (h : (f s.link).executing.isSome = s.link.executing.isSome) : s.Still (s.modLink f) :=
  ⟨rfl, fun _ _ => id, fun he => h.trans he⟩

end State.Still

section
variable (s : State)

theorem State.setReceiver_still (rx : LinkState) (held : List Byte) (stray : StrayRun) :
    s.Still (s.setReceiver rx held stray) := .modLink s rfl

theorem State.raiseLinkFault_still (reason : LinkFaultReason) : s.Still (s.raiseLinkFault reason) :=
  ⟨rfl, fun _ _ h => h.raise .., id⟩

theorem State.sendMessage_still (tag kind : Byte) (body : List Byte) :
    s.Still (s.sendMessage tag kind body) := by
  unfold State.sendMessage
  split
  · exact .modLink s rfl
  · exact s.raiseLinkFault_still _

theorem State.linkFault_still (reason : LinkFaultReason) : s.Still (s.linkFault reason) :=
  (s.raiseLinkFault_still reason).trans (State.sendMessage_still ..)

theorem State.huntByte_still (b : Byte) : s.Still (s.huntByte b) := by
  simp only [State.huntByte]
  split
  · split
    · exact (s.setReceiver_still ..).trans (State.linkFault_still ..)
    · exact s.setReceiver_still ..
  · exact s.setReceiver_still ..

theorem State.lengthByte_still (b : Byte) : s.Still (s.lengthByte b) := by
  have hsearch (u : State) (b0 b1 : Byte) : u.Still (u.searchLength b0 b1) := by
    unfold State.searchLength
    (repeat' split) <;> exact u.setReceiver_still ..
  simp only [State.lengthByte]
  split
  · exact s.setReceiver_still ..
  · split
    · exact (s.linkFault_still _).trans (hsearch ..)
    · exact s.setReceiver_still ..

theorem holdFrame_still (f : CommandFrame) : s.Still (holdFrame f s) := by
  unfold holdFrame
  split
  · exact .modLink s rfl
  · exact s.sendMessage_still ..

/-- An answer keeps its request in the execution place (R182). -/
theorem State.answer_still (tag kind : Byte) (a : Answer) : s.Still (s.answer tag kind a) ∧
    (s.answer tag kind a).link.executing.isSome = true := by
  cases a <;> exact ⟨⟨rfl, fun _ _ => id, fun _ => rfl⟩, rfl⟩

theorem State.reply_still (tag kind replyKind : Byte) (stage : ExecStage) (body : List Byte) :
    s.Still (s.reply tag kind replyKind stage body) ∧
      (s.reply tag kind replyKind stage body).link.executing.isSome = true :=
  ⟨⟨rfl, fun _ _ => id, fun _ => rfl⟩, rfl⟩

/-- A frame that enters execution holds the place, after at most one request's action (R182, R183). -/
theorem executeFrame_cases (f : CommandFrame) : (executeFrame f s).link.executing.isSome = true ∧
    (s.Still (executeFrame f s) ∨ ∃ r, (perform r s).1.Still (executeFrame f s)) := by
  unfold executeFrame
  split
  · exact ⟨(s.reply_still ..).2, .inl (s.reply_still ..).1⟩
  · split
    · exact ⟨(s.answer_still ..).2, .inl (s.answer_still ..).1⟩
    · split
      · exact ⟨(s.answer_still ..).2, .inl (s.answer_still ..).1⟩
      · rename_i r _
        simp only [enterRequest, if_neg ‹_›]
        exact ⟨(State.answer_still ..).2, .inr ⟨r, (State.answer_still ..).1⟩⟩

end

/-! ### The ways out of a latched suspension -/

/-- SUSPENDED with the stall latch set (R147). -/
def State.latched (s : State) (ch : ChannelId) : Prop :=
  (s.chan ch).state = .suspended ∧ (s.chan ch).latch = true

/-- A channel as STOP leaves it: ENDED without record, jump and latch, the timer STOPPED, the picture BLACK
(R129). -/
def Channel.stoppedDark (c : Channel) : Prop :=
  c.state = .ended ∧ c.records = [] ∧ c.jump = none ∧ c.latch = false ∧ c.timer.state = .stopped ∧
    c.picture = .black

/-- Where one step can bring a latched channel: SUSPENDED yet, ENDED by STOP, or reset. -/
def State.heldOrEnded (t : State) (ch : ChannelId) : Prop :=
  (t.chan ch).state = .suspended ∨ ((t.chan ch).stoppedDark ∧ t.pends .showEnded (some ch)) ∨
    t.chan ch = Channel.reset

/-- A latched channel within a step: latched yet, or its one request is in execution. -/
def State.guarded (s : State) (ch : ChannelId) : Prop :=
  s.latched ch ∨ s.heldOrEnded ch ∧ s.link.executing.isSome = true

section
variable {s t : State} {ch : ChannelId}

theorem State.latched.of_stage (h : s.latched ch) (ht : t.stage = s.stage) : t.latched ch := by
  unfold State.latched
  rw [State.chan_of_stage ht ch]
  exact h

theorem State.latched.heldOrEnded (h : s.latched ch) : s.heldOrEnded ch := .inl h.1

theorem State.guarded.heldOrEnded (h : s.guarded ch) : s.heldOrEnded ch := by
  obtain h | ⟨h, -⟩ := h
  · exact h.heldOrEnded
  · exact h

theorem State.heldOrEnded.of_chan (h : s.latched ch) (ht : t.chan ch = s.chan ch) : t.heldOrEnded ch :=
  .inl (ht ▸ h.1)

theorem State.heldOrEnded.of_still (h : s.heldOrEnded ch) (ht : s.Still t) : t.heldOrEnded ch := by
  obtain ⟨hstage, hpends, -⟩ := ht
  unfold State.heldOrEnded
  rw [State.chan_of_stage hstage ch]
  exact h.imp_right (.imp_left (.imp_right (hpends _ _)))

theorem State.guarded.of_still (h : s.guarded ch) (ht : s.Still t) : t.guarded ch := by
  obtain h | ⟨h, he⟩ := h
  · exact .inl (h.of_stage ht.1)
  · exact .inr ⟨h.of_still ht, ht.2.2 he⟩

/-! ### Requests -/

theorem channelOf_eq_some {n : Byte} (h : channelOf n = some ch) : n = ch.number := by
  unfold channelOf at h
  split at h
  · cases h
    assumption
  · split at h
    · cases h
      assumption
    · cases h

theorem eq_other_of_ne {c : ChannelId} (h : c ≠ ch) : ch = c.other := by
  cases c <;> cases ch
  · exact absurd rfl h
  · rfl
  · rfl
  · exact absurd rfl h

/-- A request on no channel's number changes nothing (R183). -/
theorem perform_of_badChannel {r : Request} {n : Byte} (s : State) (hn : channelByte r = some n)
    (hch : channelOf n = none) : (perform r s).1 = s := by
  have hnone (k : Nat) (act : ChannelId → State × Answer) : (onChannel n k s act).1 = s := by
    simp only [onChannel, hch]
  cases r with
  | loadShow m items =>
    cases hn
    exact (doLoadShow_cases n items s).resolve_right fun ⟨c, hc, _⟩ => nomatch hc.symm.trans hch
  | setRoute m lanes =>
    cases hn
    simp only [perform, doSetRoute]
    split
    · rfl
    · exact hnone ..
  | configureChannel | setTracks | setStyle | setSubtitleOffset | channelReport | clearShow | cue | start
  | pause | resume | stop | jump | acknowledgeSuspension =>
    cases hn
    exact hnone ..
  | _ => cases hn

/-- Of the requests on a latched channel only STOP changes its state (R115, R129, R149, R150). -/
theorem perform_of_latched {r : Request} (h : s.latched ch) (hn : channelByte r = some ch.number) :
    r = .stop ch.number ∨ ((perform r s).1.chan ch).state = .suspended := by
  obtain ⟨hst, hlatch⟩ := h
  have hset (f : Channel → Channel) (hf : ∀ c, (f c).state = c.state) :
      ((s.modChan ch f).chan ch).state = .suspended := by
    rw [State.chan_modChan_same, hf, hst]
  cases r with
  | stop =>
    cases hn
    exact .inl rfl
  | channelReport =>
    cases hn
    exact .inr (by simpa only [perform, doChannelReport, onChannel_number] using hst)
  | setTracks | setStyle | setSubtitleOffset =>
    cases hn
    right
    simp only [perform, doSetTracks, doSetStyle, doSetSubtitleOffset, onChannel_number]
    split
    · exact hst
    · exact hset _ fun _ => rfl
  | configureChannel =>
    cases hn
    right
    simp only [perform, doConfigureChannel, onChannel_number]
    iterate 2 (split; · exact hst)
    exact hset _ fun _ => rfl
  | setRoute =>
    cases hn
    right
    simp only [perform, doSetRoute, onChannel_number]
    iterate 2 (split; · exact hst)
    exact hset _ fun _ => rfl
  | acknowledgeSuspension =>
    cases hn
    right
    simp only [perform, doAcknowledge, onChannel_number, hst]
    exact hset _ fun _ => rfl
  | resume =>
    cases hn
    right
    rw [perform, doResume_of_suspended hst, hlatch]
    exact hst
  | loadShow =>
    cases hn
    right
    simp only [perform, doLoadShow, channelOf_number, hst, ChannelState.acceptsLoadShow]
    exact hst
  | clearShow | cue | start | pause =>
    cases hn
    right
    simp only [perform, doClearShow, doCue, doStart, doPause, onChannel_number, hst]
  | jump =>
    cases hn
    right
    simp only [perform, doJump, onChannel_number, hst, ChannelState.judgesJump]
    exact hst
  | _ => cases hn

/-- No request but an acknowledgement and a STOP moves a latched channel (R129, R149, R150). -/
theorem perform_heldOrEnded (r : Request) (h : s.latched ch) : (perform r s).1.heldOrEnded ch := by
  cases hn : channelByte r with
  | none => exact .of_chan h (perform_chan_of_none s hn ch)
  | some n =>
    cases hc : channelOf n with
    | none => exact .of_chan h (by rw [perform_of_badChannel s hn hc])
    | some c =>
      by_cases hch : c = ch
      · subst hch
        obtain rfl : n = c.number := channelOf_eq_some hc
        obtain rfl | hst := perform_of_latched h hn
        · obtain ⟨lastGood, hchan⟩ := s.stop_chan c
          rw [perform, doStop_of_accepts (by rw [h.1]; rfl)]
          refine .inr (.inl ⟨?_, s.stop_pends c⟩)
          rw [hchan]
          exact ⟨rfl, rfl, rfl, rfl, rfl, rfl⟩
        · exact .inl hst
      · obtain rfl : ch = c.other := eq_other_of_ne hch
        exact .of_chan h (perform_chan_other s hn hc)

theorem executeFrame_guarded (f : CommandFrame) (h : s.latched ch) : (executeFrame f s).guarded ch := by
  obtain ⟨hexecuting, hstill | ⟨r, hstill⟩⟩ := executeFrame_cases s f
  · exact .inr ⟨h.heldOrEnded.of_still hstill, hexecuting⟩
  · exact .inr ⟨(perform_heldOrEnded r h).of_still hstill, hexecuting⟩

/-- Once a request is in execution, a further frame waits (R182). -/
theorem placeFrame_guarded (f : CommandFrame) (h : s.guarded ch) : (placeFrame f s).guarded ch := by
  unfold placeFrame
  split
  · rename_i hnone
    obtain h | ⟨-, he⟩ := h
    · exact executeFrame_guarded f h
    · simp [hnone] at he
  · exact h.of_still (holdFrame_still s f)

theorem State.takeLinkByte_guarded (b : Byte) (h : s.guarded ch) : (s.takeLinkByte b).guarded ch := by
  unfold State.takeLinkByte
  split
  · exact h.of_still (s.huntByte_still b)
  · exact h.of_still (s.lengthByte_still b)
  · simp only [State.frameByte]
    split
    · exact h.of_still (s.setReceiver_still ..)
    · split
      · exact placeFrame_guarded _ (h.of_still (s.setReceiver_still ..))
      · exact h.of_still ((s.setReceiver_still ..).trans (State.linkFault_still ..))

theorem State.takeLinkBytes_guarded (bytes : List Byte) (h : s.guarded ch) :
    (s.takeLinkBytes bytes).guarded ch := by
  induction bytes generalizing s with
  | nil => exact h
  | cons b rest ih => exact ih (State.takeLinkByte_guarded b h)

theorem submit_heldOrEnded (tag : Byte) (r : Request) (h : s.latched ch) : (submit tag r s).heldOrEnded ch := by
  unfold submit
  split
  · unfold enterRequest
    split
    · exact h.heldOrEnded.of_still (s.answer_still ..).1
    · exact (perform_heldOrEnded r h).of_still (State.answer_still ..).1
  · exact h.heldOrEnded.of_still (holdFrame_still s _)

theorem State.startUp_heldOrEnded (kind : ResetKind) : (s.startUp kind).heldOrEnded ch := by
  refine .inr (.inr ?_)
  have hstage := s.startUp_stage kind
  cases ch
  · exact congrArg (·.2.1) hstage
  · exact congrArg (·.2.2) hstage

/-- The reply sent empties the place, and the frame that waits is the step's one request. -/
theorem State.replySent_heldOrEnded (h : s.latched ch) : s.replySent.heldOrEnded ch := by
  unfold State.replySent
  split
  · split
    · split
      · simp only [State.emptyPlace]
        split
        · refine (executeFrame_guarded _ (h.of_stage ?_)).heldOrEnded
          rfl
        · refine (h.of_stage ?_).heldOrEnded
          rfl
      · exact State.startUp_heldOrEnded _
      · exact h.heldOrEnded
    · exact h.heldOrEnded
  · exact h.heldOrEnded

/-! ### Segments -/

theorem Channel.Sheds.state_eq {c d : Channel} (h : c.Sheds d) : d.state = c.state :=
  (Channel.footing_eq_iff.mp h.1).1

theorem State.judgePriming_of_suspended (h : (s.chan ch).state = .suspended) (completed : Bool) :
    ((s.judgePriming ch completed).chan ch).state = .suspended := by
  rw [State.judgePriming_chan]
  simp [Channel.primes, h]

/-- The finish of an operation primes a CUEING channel alone (R118). -/
theorem State.afterPlacement_of_suspended (h : (s.chan ch).state = .suspended) (completed readied : Bool) :
    ((s.afterPlacement ch completed readied).chan ch).state = .suspended := by
  have hreturned : ((s.finishHead ch).chan ch).state = .suspended := (s.finishHead_sheds ch).state_eq.trans h
  have hreported := (State.reportComplete_sheds (s.finishHead ch) ch).state_eq.trans hreturned
  have hjudged (u : State) (hu : (u.chan ch).state = .suspended) :
      (State.chan (if readied || completed then u.judgePriming ch completed else u) ch).state = .suspended := by
    split
    · exact State.judgePriming_of_suspended hu completed
    · exact hu
  simp only [State.afterPlacement]
  split
  · obtain ⟨-, -, -, hst, -⟩ := (State.nextItemOccasion_counts _ ch).kept
    exact hst.trans (hjudged _ hreported)
  · exact hjudged _ hreturned

theorem Channel.Builds.state_eq {c d : Channel} (h : c.Builds d) : d.state = c.state := by
  rw [Channel.Builds] at h
  rw [h]

theorem State.unpack_of_suspended (h : (s.chan ch).state = .suspended) (comp : Composition) (record : Nat)
    (key : KeyChoice) (g : Segment) : ((s.unpack ch comp record key g).chan ch).state = .suspended := by
  have hclosed : ((s.modChan ch (fun c => c.closeBefore comp record g)).chan ch).state = .suspended := by
    rw [State.chan_modChan_same]
    exact ((s.chan ch).closeBefore_closes comp record g).builds.state_eq.trans h
  simp only [State.unpack]
  split
  · split
    · exact State.judgePriming_of_suspended hclosed _
    · exact hclosed
  · exact State.afterPlacement_of_suspended
      ((State.placeSegment_builds ..).state_eq.trans hclosed) _ _

/-- An operation of another channel leaves this one, and its own leaves it SUSPENDED. -/
theorem State.heldOrEnded.of_beside {c : ChannelId} (h : s.latched ch) (hbeside : t.beside c = s.beside c)
    (hown : c = ch → (t.chan ch).state = .suspended) : t.heldOrEnded ch := by
  by_cases hc : c = ch
  · exact .inl (hown hc)
  · obtain rfl := eq_other_of_ne hc
    exact .of_chan h (State.chan_other_of_beside hbeside)

theorem State.finishSegment_heldOrEnded (h : s.latched ch) : s.finishSegment.heldOrEnded ch := by
  simp only [State.finishSegment]
  split
  · exact h.heldOrEnded
  · rename_i w _
    have hfreed : State.chan { s with work := none } ch = s.chan ch := State.chan_of_stage rfl ch
    have hst : (State.chan { s with work := none } ch).state = .suspended := hfreed ▸ h.1
    have hdiscard : (State.discardOrder { s with work := none } w.channel).heldOrEnded ch := by
      refine .of_beside (s := { s with work := none }) ⟨hst, hfreed ▸ h.2⟩ (State.discardOrder_beside _ _) ?_
      rintro rfl
      exact (State.discardOrder_sheds _ _).state_eq.trans hst
    split
    · exact .inl hst
    · split
      · exact hdiscard
      · split
        · refine .of_beside (s := { s with work := none }) ⟨hst, hfreed ▸ h.2⟩ (State.unpack_beside ..) ?_
          rintro rfl
          exact State.unpack_of_suspended hst ..
        · exact hdiscard

theorem State.latched.of_sheds {c : ChannelId} (h : s.latched ch) (hbeside : t.beside c = s.beside c)
    (hown : (s.chan c).Sheds (t.chan c)) : t.latched ch := by
  obtain ⟨hst, hlatch⟩ := h
  by_cases hc : c = ch
  · subst hc
    obtain ⟨hstate, -, hkept, -⟩ := Channel.footing_eq_iff.mp hown.1
    exact ⟨hstate.trans hst, hkept.trans hlatch⟩
  · obtain rfl := eq_other_of_ne hc
    unfold State.latched
    rw [State.chan_other_of_beside hbeside]
    exact ⟨hst, hlatch⟩

theorem State.takePathByte_latched (b : Byte) (h : s.latched ch) : (s.takePathByte b).latched ch := by
  have hpath (p : ForwardPath) : (s.setPath p).latched ch := h.of_stage rfl
  have harrive (u : State) (c : ChannelId) (g : Segment) (hu : u.latched ch) : (u.arrive c g).latched ch :=
    hu.of_sheds (u.arrive_beside c g) (u.arrive_sheds c g)
  simp only [State.takePathByte]
  split
  · exact hpath _
  · split
    · exact hpath _
    · split
      · exact h.of_stage rfl
      · split
        · exact harrive _ _ _ (hpath _)
        · exact hpath _
  · split
    · exact hpath _
    · exact harrive _ _ _ (hpath _)

theorem State.takePathBytes_latched (bytes : List Byte) (h : s.latched ch) :
    (s.takePathBytes bytes).latched ch := by
  induction bytes generalizing s with
  | nil => exact h
  | cons b rest ih => exact ih (State.takePathByte_latched b h)

theorem State.takeSegment_latched (h : s.latched ch) : s.takeSegment.latched ch := by
  unfold State.takeSegment
  split
  · exact h
  · split
    · exact h
    · exact h.of_sheds (s.serve_beside _) (s.serve_sheds _)

/-! ### Deadlines and edges -/

theorem State.reachDeadline_of_latched (h : (s.chan ch).state = .suspended) :
    ((s.reachDeadline ch).chan ch).state = .suspended := by
  by_cases hrun : (s.chan ch).timer.state = .stopped
  · simp only [State.reachDeadline, hrun, h]
  · rw [State.reachDeadline_of_suspended hrun h, State.suspendedDeadline_emit, State.chan_modChan_same,
      State.atDeadline_chan]
    exact h

theorem State.sampleEdge_of_latched (h : (s.chan ch).state = .suspended) :
    ((s.sampleEdge ch).chan ch).state = .suspended := by
  cases htimer : (s.chan ch).timer.state with
  | stopped =>
    rw [State.sampleEdge_of_stopped htimer, State.chan_modChan_same]
    exact h
  | armed =>
    rw [State.sampleEdge_eq_reachDeadline (.inl htimer)]
    exact State.reachDeadline_of_latched h
  | running =>
    by_cases hlast : (s.chan ch).timer.period = some ((s.chan ch).timer.count + 1)
    · rw [State.sampleEdge_eq_reachDeadline (.inr ⟨htimer, hlast⟩)]
      exact State.reachDeadline_of_latched h
    · rw [State.sampleEdge_of_running htimer hlast, State.chan_modChan_same]
      exact h

/-! ### Steps -/

theorem exec_heldOrEnded {c : Instr} (h : s.latched ch) (hexec : exec c s = .next t) : t.heldOrEnded ch := by
  have hkept {u : State} (hu : u.stage = s.stage) : u.heldOrEnded ch := (h.of_stage hu).heldOrEnded
  have hwhen {after : State} (hw : whenPowered s after = .next t) (hafter : after.heldOrEnded ch) :
      t.heldOrEnded ch := of_whenPowered (P := fun t => t.heldOrEnded ch) hw h.heldOrEnded hafter
  cases hc : requestOf c with
  | some p => exact hwhen ((exec_of_requestOf s hc).symm.trans hexec) (submit_heldOrEnded p.1 p.2 h)
  | none =>
    cases c with
    | commandFrameCompleted bytes | frameFault bytes | syncFound bytes =>
      exact hwhen hexec (State.takeLinkBytes_guarded bytes (.inl h)).heldOrEnded
    | segmentHeader bytes | segmentArrival bytes | markerFound bytes =>
      exact hwhen hexec (State.takePathBytes_latched bytes h).heldOrEnded
    | replySent => exact hwhen hexec (State.replySent_heldOrEnded h)
    | partialFrameTimeout => exact hwhen hexec (hkept s.linkSilence_stage)
    | retainedLoss | mainPowerUp =>
      cases hexec
      exact State.startUp_heldOrEnded _
    | pin => exact hwhen hexec (State.startUp_heldOrEnded _)
    | mainPowerDown =>
      cases hexec
      exact .inr (.inr (by cases ch <;> rfl))
    | returnMessageSend => exact hwhen hexec (hkept s.sendNextReturn_stage)
    | segmentTake => exact hwhen hexec (State.takeSegment_latched h).heldOrEnded
    | segmentFinish => exact hwhen hexec (State.finishSegment_heldOrEnded h)
    | deadline c =>
      refine hwhen hexec (.of_beside h (s.reachDeadline_beside c) ?_)
      rintro rfl
      exact State.reachDeadline_of_latched h.1
    | boothClockTick =>
      cases hexec
      exact hkept s.clockTick_stage
    | licenceUnwrapComplete passes => exact hwhen hexec (hkept (s.unwrapComplete_stage passes))
    | sampleClockEdge c =>
      refine hwhen hexec (.of_beside h (s.sampleEdge_beside c) ?_)
      rintro rfl
      exact State.sampleEdge_of_latched h.1
    | outgoingMessageSent => exact hwhen hexec (hkept s.messageSent_stage)
    | subtitlePortSend => exact hwhen hexec (hkept rfl)
    | _ => simp [requestOf] at hc

end

/-- Settles O49: a step performs at most one request, and of the requests only STOP takes a latched channel out
of SUSPENDED. -/
theorem latchedSuspensionHolds : Obligations.LatchedSuspensionHolds := by
  intro s t ch hst hlatch h
  have hdone : t.heldOrEnded ch := by
    unfold step at h
    split at h
    · cases h
      exact .inl hst
    · rename_i c rest _
      refine exec_heldOrEnded (s := { s with pending := rest }) (State.latched.of_stage ⟨hst, hlatch⟩ ?_) h
      rfl
  obtain h | ⟨⟨h1, h2, h3, h4, h5, h6⟩, hpends⟩ | h := hdone
  · exact .inl h
  · exact .inr (.inl ⟨h1, h2, h3, h4, h5, h6, hpends⟩)
  · exact .inr (.inr h)

end Sys2Proof.Machine

/-! ## A JUMP within the presenting record's item (R133 to R136, R138) -/

namespace Sys2Proof.Machine

/-! ### The presenting record is left alone on its channel -/

/-- Records ended one by one take at most the records, the picture memory and the item in assembly. -/
theorem foldl_removeRecord_drops {ch : ChannelId} {op : State → AdmissionRecord → State}
    (hop : ∀ s r, (op s r).chan ch = (s.chan ch).removeRecord r.ident) (l : List AdmissionRecord)
    (s : State) : (s.chan ch).Drops ((l.foldl op s).chan ch) := by
  induction l generalizing s with
  | nil => exact ⟨rfl, rfl⟩
  | cons r rest ih => exact (hop s r ▸ (s.chan ch).removeRecord_drops r.ident).trans (ih (op s r))

/-- A fetch begun afresh keeps of the assembly state what an idle one keeps (R51, R67). -/
theorem Assembly.begun_of_idle {a b : Assembly} (h : a.idle = b.idle) (ident reel : Nat) :
    { a with fetching := some ident, cursor := .start reel, complete := false } =
      { b with fetching := some ident, cursor := .start reel, complete := false } :=
  congrArg (fun x : Assembly => { x with fetching := some ident, cursor := .start reel }) h

section
variable (s : State) (ch : ChannelId)

/-- Under distinct names the discard of the fetching record leaves the presenting one (R138). -/
theorem State.discardFetching_records {a : AdmissionRecord} (hnames : (s.chan ch).namesLaw)
    (ha : (s.chan ch).presenting = some a) : ((s.discardFetching ch).chan ch).records = [a] := by
  obtain ⟨rest, hrest⟩ : ∃ rest, (s.chan ch).records = a :: rest := by
    simpa [Channel.presenting, List.head?_eq_some_iff] using ha
  have hfresh : a.ident ∉ rest.map (·.ident) := by
    have hnodup := hnames.1
    rw [hrest, List.map_cons] at hnodup
    exact (List.nodup_cons.mp hnodup).1
  have hkept : rest.all (fun r => a.ident ≠ r.ident) = true := by
    simp only [List.all_eq_true, decide_eq_true_eq]
    exact fun r hr he => hfresh (he ▸ List.mem_map_of_mem hr)
  have hgone : rest.filter (fun x => rest.all (fun r => x.ident ≠ r.ident)) = [] :=
    List.filter_eq_nil_iff.mpr fun x hx => by simpa using ⟨x, hx, rfl⟩
  obtain ⟨-, hrecords⟩ := foldl_removeRecord (fun t r => t.discardRecord_chan ch r) (s.chan ch).records.tail s
  rw [State.discardFetching, hrecords, hrest, List.tail_cons, List.filter_cons, if_pos hkept, hgone]

theorem State.discardFetching_chan {a : AdmissionRecord} (hnames : (s.chan ch).namesLaw)
    (ha : (s.chan ch).presenting = some a) : (s.discardFetching ch).chan ch = { s.chan ch with
      records := [a], lastGood := ((s.discardFetching ch).chan ch).lastGood
      assembly := ((s.discardFetching ch).chan ch).assembly } ∧
    ((s.discardFetching ch).chan ch).assembly.idle = (s.chan ch).assembly.idle := by
  obtain ⟨heq, hidle⟩ := foldl_removeRecord_drops (fun t r => t.discardRecord_chan ch r)
    (s.chan ch).records.tail s
  exact ⟨heq.trans (by rw [← State.discardFetching, s.discardFetching_records ch hnames ha]), hidle⟩

theorem State.discardFetching_ports : (s.discardFetching ch).ports = s.ports :=
  State.foldl_field State.ports _ (fun t r => t.discardRecord_ports ch r) _ s

/-! ### The FETCH from the target reel -/

theorem State.beginFetch_chan (r : AdmissionRecord) (reel : Nat) :
    (s.beginFetch ch r reel).chan ch = { s.chan ch with
      assembly := { (s.chan ch).assembly with
        fetching := some r.ident, cursor := .start reel, complete := false }
      noNext := false } := by
  simp [State.beginFetch]

theorem State.beginFetch_returns (r : AdmissionRecord) (reel : Nat) : (s.beginFetch ch r reel).returns =
    s.returns ++ [.fetch ch (s.chan ch).epoch r.item (((s.composition r.slot).map (·.id)).getD 0) reel] := by
  simp [State.beginFetch, State.sendFetch, State.sendReturn]

/-! ### The state after the jump -/

/-- The channel state that an accepted jump leaves (R136, step 7). -/
def Channel.stateAfterJump (c : Channel) : ChannelState :=
  if c.state ∈ [.cueing, .primed] then .cueing else c.state

theorem Channel.jumped_state (c : Channel) (item reel n : Nat) :
    (c.jumped item reel n).state = c.stateAfterJump := by
  simp [Channel.jumped, Channel.stateAfterJump]

/-- The jump sets the position to its target where it leaves CUEING, or PLAYING before the first edge (R136,
step 7). -/
theorem Channel.jumped_position (c : Channel) (item reel n : Nat) : (c.jumped item reel n).position =
    if c.stateAfterJump = .cueing ∨ (c.stateAfterJump = .playing ∧ c.timer.state = .armed) then
      some { pos := { item := item, reel := reel, frame := 0 }, presented := false }
    else c.position := by
  cases hst : c.state <;> simp [Channel.jumped, Channel.notBegun, Channel.stateAfterJump, hst]

/-- Pending jump, refusal mark, position, state and subtitles (R133, R136 steps 5 to 8). -/
theorem Channel.jumped_eq (c : Channel) (item reel n : Nat) : c.jumped item reel n = { c with
    jump := some (PendingJump.create n item reel), refusal := false
    position := (c.jumped item reel n).position, state := c.stateAfterJump, subs := c.subs.jumpPoint } := by
  rw [← c.jumped_state item reel n]
  rfl

/-- The state after a jump within the item of the presenting record `a`. -/
def State.jumpedWithin (s : State) (ch : ChannelId) (a : AdmissionRecord) (reel n : Nat) : State :=
  (s.jumpWithin ch a reel n).modChan ch (fun c => c.jumped a.item reel n)

/-- The queue's CREDIT, then the FETCH with the new epoch (R45, R47, R136). -/
theorem State.jumpWithin_returns {a : AdmissionRecord} (hnames : (s.chan ch).namesLaw)
    (ha : (s.chan ch).presenting = some a) (reel n : Nat) : (s.jumpWithin ch a reel n).returns =
      (if 0 < blocksHeld (s.chan ch).queue then addCredit ch (blocksHeld (s.chan ch).queue) s.returns
        else s.returns) ++
      [.fetch ch ((s.chan ch).epoch + 1) a.item (((s.composition a.slot).map (·.id)).getD 0) reel] := by
  obtain ⟨hchan, -⟩ := s.discardFetching_chan ch hnames ha
  obtain ⟨-, -, -, -, -, hreturns⟩ := State.ports_eq_iff.mp (s.discardFetching_ports ch)
  have hcompositions : ((s.discardFetching ch).jumpFlush ch n).compositions = s.compositions :=
    State.compositions_of_steady (by simp)
  have hflushed : ((s.discardFetching ch).jumpFlush ch n).returns =
      if 0 < blocksHeld (s.chan ch).queue then addCredit ch (blocksHeld (s.chan ch).queue) s.returns
        else s.returns := by
    rw [State.jumpFlush, State.raiseEpoch_returns, State.modChan_returns, State.chan_modChan_same, hreturns,
      hchan]
    rfl
  rw [State.jumpWithin, State.beginFetch_returns, hflushed, State.jumpFlush_chan, hchan]
  simp only [State.composition, State.compositionSlot, hcompositions]

/-- The channel after a jump within the presenting record's item (R133, R136, R138). -/
theorem State.jumpedWithin_chan {a : AdmissionRecord} (hnames : (s.chan ch).namesLaw)
    (ha : (s.chan ch).presenting = some a) (reel n : Nat) :
    ∃ lastGood, (s.jumpedWithin ch a reel n).chan ch = { (s.chan ch).flushAfter n with
      state := (s.chan ch).stateAfterJump, records := [a], refusal := false, noNext := false
      jump := some (PendingJump.create n a.item reel)
      epoch := (s.chan ch).epoch + 1, queue := []
      granted := (s.chan ch).granted + blocksHeld (s.chan ch).queue
      assembly := { (s.chan ch).assembly with
        fetching := some a.ident, cursor := .start reel, complete := false }
      lastGood := lastGood
      position :=
        if (s.chan ch).stateAfterJump = .cueing ∨
            ((s.chan ch).stateAfterJump = .playing ∧ (s.chan ch).timer.state = .armed) then
          some { pos := { item := a.item, reel := reel, frame := 0 }, presented := false }
        else (s.chan ch).position
      subs := (s.chan ch).subs.jumpPoint } := by
  obtain ⟨hchan, hidle⟩ := s.discardFetching_chan ch hnames ha
  refine ⟨((s.discardFetching ch).chan ch).lastGood, ?_⟩
  rw [State.jumpedWithin, State.chan_modChan_same, Channel.jumped_eq, Channel.jumped_position, State.jumpWithin,
    State.beginFetch_chan, State.jumpFlush_chan, ← Assembly.begun_of_idle hidle, hchan]
  rfl

end

/-! ### The checks of JUMP (R134) -/

/-- The conditions on channel, target item and reel under which JUMP stays within the item of the presenting
record `a`. -/
structure JumpsWithin (s : State) (ch : ChannelId) (a : AdmissionRecord) (i : ShowItem) (comp : Composition)
    (reel : Nat) : Prop where
  state : (s.chan ch).state ∈ [.cueing, .primed, .playing, .paused, .holding]
  free : isCommitted (s.chan ch).jump = false
  presenting : (s.chan ch).presenting = some a
  item : (s.chan ch).item a.item = some i
  composition : s.composition i.slot.toNat = some comp
  entry : a.entryReel ≤ reel
  reel : reel < comp.reels.length

namespace JumpsWithin

variable {s : State} {ch : ChannelId} {a : AdmissionRecord} {i : ShowItem} {comp : Composition} {r : Nat}

theorem judgesJump (h : JumpsWithin s ch a i comp r) : (s.chan ch).state.judgesJump = true := by
  have hmem := h.state
  cases hst : (s.chan ch).state <;> simp [hst, ChannelState.judgesJump] at hmem ⊢

theorem jumpTarget_eq (h : JumpsWithin s ch a i comp r) :
    s.jumpTarget ch a.item r = some (comp, i.slot.toNat) := by
  simp only [State.jumpTarget, h.item, h.composition, if_pos h.reel]

theorem beforeEntry_eq (h : JumpsWithin s ch a i comp r) : (s.chan ch).beforeEntry a.item r = false := by
  simp [Channel.beforeEntry, h.presenting, h.entry]

theorem jump_eq (h : JumpsWithin s ch a i comp r) :
    s.jump ch comp i.slot.toNat a.item r = .ok (s.jumpedWithin ch a r (s.chan ch).committedFrames) := by
  simp only [State.jump, h.presenting, State.jumpedWithin, if_true]

/-- The jump needs no admission: it is accepted. -/
theorem doJump_eq {item reel : Byte} (h : JumpsWithin s ch a i comp reel.toNat) (hitem : a.item = item.toNat) :
    ∃ t, t = s.jumpedWithin ch a reel.toNat (s.chan ch).committedFrames ∧ doJump ch.number item reel s =
      (t, okReply [byteOf (s.chan ch).committedFrames, (t.chan ch).epoch, (t.chan ch).state.code]) := by
  refine ⟨_, rfl, ?_⟩
  simp only [doJump, onChannel_number, ← hitem, h.judgesJump, h.free, h.jumpTarget_eq, h.beforeEntry_eq,
    h.jump_eq, Bool.not_true, Bool.false_eq_true, if_false]

end JumpsWithin

/-- Settles O41: the checks pass without an admission, and the state after them is `State.jumpedWithin`. -/
theorem jumpWithinTheItemKeepsItsRecord : Obligations.JumpWithinTheItemKeepsItsRecord := by
  intro s tag item reel ch a i comp ht hstate hfree ha hitem hi hcomp hreel hentry hnames
  rw [Channel.items_getElem?, ← hitem] at hi
  have hwithin : JumpsWithin s ch a i comp reel.toNat := ⟨hstate, hfree, ha, hi, hcomp, hentry, hreel⟩
  obtain ⟨t, rfl, hjump⟩ := hwithin.doJump_eq hitem
  obtain ⟨lastGood, hchan⟩ := s.jumpedWithin_chan ch hnames ha reel.toNat (s.chan ch).committedFrames
  refine ⟨s.jumpedWithin ch a reel.toNat (s.chan ch).committedFrames, _, _, rfl, rfl, ?_, ?_, ?_, ?_, ?_⟩
  · rw [exec_of_takes ht rfl, perform, hjump, hchan]
    rfl
  · rw [hchan, hitem]
    rfl
  · rw [State.jumpedWithin, State.modChan_returns, s.jumpWithin_returns ch hnames ha, hitem]
  · rw [hchan, hitem]
    rfl
  · exact State.chan_other_of_beside (by simp [State.jumpedWithin])

end Sys2Proof.Machine

/-! ## ACKNOWLEDGE-SUSPENSION (R149) -/

namespace Sys2Proof.Machine

section
variable {s : State} {ch : ChannelId}

theorem doAcknowledge_of_suspended (h : (s.chan ch).state = .suspended) : doAcknowledge ch.number s =
    (s.modChan ch (fun c => { c with latch := false, stallCount := 0 }),
      okReply (byteOf (s.chan ch).readyCount :: leBytes 2 (s.chan ch).config.resume)) := by
  simp only [doAcknowledge, onChannel_number, h]

theorem doAcknowledge_of_not_suspended (h : (s.chan ch).state ≠ .suspended) :
    doAcknowledge ch.number s = (s, refuse .wrongState 3) := by
  rw [doAcknowledge, onChannel_number]
  split
  · exact absurd ‹_› h
  · rfl

theorem doAcknowledge_of_badChannel {n : Byte} (h : channelOf n = none) :
    doAcknowledge n s = (s, refuse .badValue 3) := by
  simp only [doAcknowledge, onChannel, h]

end

/-- Settles O39: the three branches of the request's action. -/
theorem acknowledgeClearsTheLatch : Obligations.AcknowledgeClearsTheLatch := by
  intro s tag ht
  have hexec (n : Byte) : exec (.acknowledgeSuspension tag n) s = _ := exec_of_takes ht rfl
  simp only [perform] at hexec
  refine ⟨fun n h0 h1 => ⟨[0, 0, 0], ?_⟩, fun ch => ⟨fun h => ?_, fun h => ⟨[0, 0, 0], ?_⟩⟩⟩
  · rw [hexec, doAcknowledge_of_badChannel (channelOf_eq_none h0 h1)]; rfl
  · rw [hexec, doAcknowledge_of_suspended h]; rfl
  · rw [hexec, doAcknowledge_of_not_suspended h]; rfl

end Sys2Proof.Machine

/-! ## Underrun, hold and suspension (R101, R143 to R147) -/

namespace Sys2Proof.Machine

/-! ### The freed slot is no READY one (R113) -/

theorem Slot.isReady_freed (x : Slot) : (if x.isPresenting then Slot.free else x).isReady = x.isReady := by
  cases x <;> rfl

theorem Channel.isReady_slotAt_freePresenting (c : Channel) (i : Nat) :
    (c.freePresenting.slotAt i).isReady = (c.slotAt i).isReady := by
  simp only [Channel.slotAt, Channel.freePresenting, List.getD_eq_getElem?_getD, List.getElem?_map]
  cases c.slots[i]? with
  | none => rfl
  | some x => exact x.isReady_freed

theorem Channel.readyCount_freePresenting (c : Channel) : c.freePresenting.readyCount = c.readyCount := by
  simp only [Channel.readyCount, Channel.freePresenting, List.countP_map]
  exact List.countP_congr fun x _ => Bool.eq_iff_iff.mp x.isReady_freed

/-! ### The deadlines that stall (R120, R144, R145) -/

/-- The channel's next deadline stalls, with the given stall count: in PLAYING without a READY slot at the present
pointer, under a pending jump or when neither pause nor end of the show is due; in HOLDING without recovery
(R144, R145). -/
def State.stalls (s : State) (ch : ChannelId) (count : Nat) : Prop :=
  (s.chan ch).state = .playing ∧ ((s.chan ch).jump.isSome = true ∨ s.showOver ch = false ∧
      (s.atItemEnd ch = false ∨ (s.chan ch).pauseAfterSet = false ∨
        (s.chan ch).slots.any Slot.isPresenting = false ∨ (s.chan ch).records = [])) ∧
      ((s.chan ch).slotAt (s.chan ch).present).isReady = false ∧ count = 1 ∨
    (s.chan ch).state = .holding ∧ (s.chan ch).readyCount < (s.chan ch).config.resume ∧
      ((s.chan ch).assembly.complete = true → (s.chan ch).readyCount = 0) ∧
      (s.chan ch).stallCount < 250 ∧ count = (s.chan ch).stallCount + 1

/-- A channel at a deadline that stalls: the missing edges made, the PRESENTING slot free, the stall counted
(R19, R113, R144, R145). -/
def Channel.stalled (c : Channel) (count : Nat) : Channel :=
  { c with
    state := .holding, stallCount := count
    slots := c.slots.map (fun x => if x.isPresenting then .free else x)
    timer := c.edgesMade.timer, sound := c.routerAtDeadline }

/-- The deadline of a counted stall: it suspends at the stall limit, and holds below (R144, R145). -/
def State.stall (s : State) (ch : ChannelId) : State :=
  if (s.chan ch).config.stallLimit ≤ (s.chan ch).stallCount then s.suspend ch else s.heldDeadline ch

section
variable {s : State} {ch : ChannelId}

theorem AtDeadline.nextReady_eq_none {v : State} (h : AtDeadline s v ch)
    (hslot : ((s.chan ch).slotAt (s.chan ch).present).isReady = false) : (v.chan ch).nextReady = none := by
  obtain ⟨timer, sound, hchan⟩ := h.chan
  have hfreed : ((v.chan ch).slotAt (v.chan ch).present).isReady = false := by
    rw [hchan]
    exact (Channel.isReady_slotAt_freePresenting ..).trans hslot
  rwa [Channel.isReady_slotAt_present, Option.isSome_eq_false_iff, Option.isNone_iff_eq_none] at hfreed

theorem AtDeadline.recovers_eq {v : State} (h : AtDeadline s v ch) :
    (v.chan ch).recovers = (s.chan ch).recovers := by
  obtain ⟨timer, sound, hchan⟩ := h.chan
  have hready : (v.chan ch).readyCount = (s.chan ch).readyCount := by
    rw [hchan]
    exact Channel.readyCount_freePresenting _
  simp only [Channel.recovers, hready]
  rw [hchan]
  rfl

/-- In PLAYING, without a frame to present, a deadline at which neither pause nor end of the show is due is an
underrun (R120). -/
theorem State.playingDeadline_of_none {presented : Bool} (hnone : (s.chan ch).nextReady = none)
    (hgo : (s.chan ch).jump.isSome = true ∨ s.showOver ch = false ∧ (s.atItemEnd ch = false ∨
      (s.chan ch).pauseAfterSet = false ∨ presented = false ∨ (s.chan ch).records = [])) :
    s.playingDeadline ch presented = s.underrun ch := by
  unfold State.playingDeadline
  obtain hjump | ⟨hover, hend | hflag | hslot | hrecords⟩ := hgo
  · simp [Option.isNone_eq_false_iff.mpr hjump, hnone]
  · simp [hover, hend, hnone]
  · simp [hover, hflag, hnone]
  · simp [hover, hslot, hnone]
  · simp [hover, hrecords, hnone]

theorem State.underrun_eq : s.underrun ch =
    ((s.raise .underrun (some ch) (.underrun (s.chan ch).reportedPosition (s.awaited ch))).modChan ch
      (fun c => { c with stallCount := 1, state := .holding })).stall ch := by
  simp only [State.underrun, State.stall, State.chan_modChan_same, State.raise_chan]

/-- A held deadline without recovery; a count below 250 rises by 1 (R145). -/
theorem State.holdingDeadline_of_stuck (hstuck : (s.chan ch).recovers = false)
    (hcount : (s.chan ch).stallCount < 250) : s.holdingDeadline ch =
      (s.modChan ch (fun c => { c with stallCount := (s.chan ch).stallCount + 1 })).stall ch := by
  have hmin : min 250 ((s.chan ch).stallCount + 1) = (s.chan ch).stallCount + 1 := by omega
  have hrise : s.modChan ch (fun c => { c with stallCount := min 250 (c.stallCount + 1) }) =
      s.modChan ch (fun c => { c with stallCount := (s.chan ch).stallCount + 1 }) :=
    State.modChan_congr (by rw [hmin])
  simp only [State.holdingDeadline, hstuck, Bool.false_eq_true, if_false, State.holdOn, hrise, State.stall]

/-- The part at a deadline that stalls, before hold or suspension: UNDERRUN is raised in PLAYING, and beside the
channel and the notices nothing has changed. -/
structure Stalled (s w : State) (ch : ChannelId) (count : Nat) : Prop where
  chan : w.chan ch = (s.chan ch).stalled count
  beside : w.beside ch = s.beside ch
  compositions : w.compositions = s.compositions
  log : w.log = s.log
  subtitlePort : w.subtitlePort = s.subtitlePort
  licences : w.licences = s.licences
  keys : w.keys = s.keys
  underrun : (s.chan ch).state = .playing → w.pends .underrun (some ch)

theorem State.reachDeadline_stalls {count : Nat} (hrun : (s.chan ch).timer.state ≠ .stopped)
    (h : s.stalls ch count) : ∃ w, Stalled s w ch count ∧
      s.reachDeadline ch = (w.stall ch).modChan ch (fun c => c.emit 0) := by
  have hat := State.atDeadline_spec (s := s) (ch := ch)
  obtain ⟨hjump, hrecords, -⟩ := hat.kept
  obtain ⟨hplaying, hgo, hslot, rfl⟩ | ⟨hholding, hready, hcomplete, hcount, rfl⟩ := h
  · refine ⟨_, ⟨?chan, ?beside, ?_, ?_, ?_, ?_, ?_, fun _ => ?underrun⟩, by
      rw [State.reachDeadline_of_playing hrun hplaying, State.playingDeadline_of_none (hat.nextReady_eq_none hslot)
        (by rwa [hjump, hrecords, hat.showOver, hat.atItemEnd, hat.pauseAfterSet]), State.underrun_eq]⟩
    case chan =>
      rw [State.chan_modChan_same, State.raise_chan, State.atDeadline_chan]
      rfl
    case underrun => exact (State.pends_raise ..).of_notices (State.modChan_notices ..)
    case beside => simp
    all_goals simp [State.atDeadline]
  · have hstuck : (s.chan ch).recovers = false := by
      simp only [Channel.recovers, Bool.or_eq_false_iff, Bool.and_eq_false_imp, decide_eq_false_iff_not]
      exact ⟨by omega, fun hdone => by have := hcomplete hdone; omega⟩
    have hstall : ((s.atDeadline ch).chan ch).stallCount = (s.chan ch).stallCount := by
      rw [State.atDeadline_chan]
    refine ⟨_, ⟨?chan, ?beside, ?_, ?_, ?_, ?_, ?_, fun h => nomatch hholding.symm.trans h⟩, by
      rw [State.reachDeadline_of_holding hrun hholding, State.holdingDeadline_of_stuck (hat.recovers_eq.trans hstuck)
        (hstall ▸ hcount)]⟩
    case chan => rw [State.chan_modChan_same, State.atDeadline_chan, Channel.stalled, ← hholding]
    case beside => simp
    all_goals simp [State.atDeadline]

theorem Stalled.keptPeriod {w : State} {count : Nat} (h : Stalled s w ch count) :
    w.keptPeriod ch = s.keptPeriod ch := by
  have hitem (n : Nat) : w.itemPeriod ch n = s.itemPeriod ch n := by
    simp only [State.itemPeriod, State.itemComposition, State.composition, State.compositionSlot, h.compositions]
    rw [h.chan]
    rfl
  unfold State.keptPeriod
  simp only [hitem]
  simp only [h.chan, Channel.stalled, Channel.edgesMade_period]
  rfl

/-! ### The suspending deadline (R145, R147, R163, R175) -/

/-- A channel suspended at a deadline: BLACK, no cue shown, its lanes silenced, and the edge of sample 0 of the
period that begins (R147). -/
def Channel.suspendedAt (c : Channel) (p : Option Nat) : Channel :=
  { c with
    state := .suspended, latch := true, picture := .black, lit := false, timer := FrameTimer.begin p
    subs := { c.subs with shown := [] }, sound := c.sound.suspend.edge 0 (p.getD 0) }

theorem Subtitles.clearAll_eq (x : Subtitles) : x.clearAll ch =
    ⟨{ x with shown := [] }, (byTrack x.shown).map (fun q => q.clear ch), []⟩ := by
  simp [Subtitles.clearAll, Subtitles.clearWhere]

theorem State.suspend_emit_chan : ((s.suspend ch).modChan ch (fun c => c.emit 0)).chan ch =
    (s.chan ch).suspendedAt (s.keptPeriod ch) := by
  simp only [State.suspend, State.keepPeriod, State.chan_modChan_same, State.raise_chan, State.putSubs_chan_same,
    Subtitles.clearAll_eq]
  rfl

/-- Each SHOWN cue is cleared (R163). -/
theorem State.suspend_subtitlePort :
    (s.suspend ch).subtitlePort = s.subtitlePort ++ (s.chan ch).clearEvents ch := by
  simp [State.suspend, State.keepPeriod, State.putSubs, Subtitles.clearAll_eq, Channel.sendPicture,
    Channel.clearEvents, ShownCue.clear]

theorem State.suspend_pends : (s.suspend ch).pends .suspended (some ch) := State.pends_raise ..

theorem State.putSubs_notices {x : SubsResult} (h : x.drops = []) : (s.putSubs ch x).notices = s.notices := by
  rw [State.putSubs, h]
  exact State.modChan_notices ..

theorem State.pends.suspend {k : NoticeKind} {c : Option ChannelId} (h : s.pends k c) :
    (s.suspend ch).pends k c := by
  refine State.pends.raise (h.of_notices ((State.putSubs_notices ?_).trans ?_)) ..
  · rw [Subtitles.clearAll_eq]
  · simp

/-! ### The held deadline (R101, R144, R145) -/

theorem State.countHeld_of_open {a : AdmissionRecord} (hlast : (s.chan ch).lastRecord = some a.ident)
    (hopen : (s.chan ch).record a.ident = some a) :
    s.countHeld ch = s.writeCounts ch a a.presented (bump32 a.held) a.damaged := by
  simp only [State.countHeld, hlast, Option.bind_some, hopen]

theorem State.countHeld_of_closed (h : ∀ r ∈ (s.chan ch).records, (s.chan ch).lastRecord ≠ some r.ident) :
    s.countHeld ch = s := by
  have hnone : (s.chan ch).lastRecord.bind (s.chan ch).record = none := by
    cases hlast : (s.chan ch).lastRecord with
    | none => rfl
    | some n =>
      simp only [Option.bind_some, Channel.record, List.find?_eq_none, decide_eq_true_eq]
      exact fun r hr hn => h r hr (hlast.trans (congrArg some hn.symm))
  simp only [State.countHeld, hnone]

theorem State.countHeld_counts : (s.chan ch).Counts ((s.countHeld ch).chan ch) := by
  unfold State.countHeld
  split
  · exact .refl _
  · exact s.writeCounts_counts ch ..

theorem State.countHeld_ports : (s.countHeld ch).ports = s.ports := by
  unfold State.countHeld
  split
  · rfl
  · exact State.writeCounts_ports ..

theorem State.pausedDeadline_chan : (s.pausedDeadline ch).chan ch =
    { (s.chan ch).holdPicture.quiet with timer := FrameTimer.begin (s.keptPeriod ch) } := by
  simp only [State.pausedDeadline, State.keepPeriod, State.chan_modChan_same]
  rfl

/-- A held deadline shows what a paused one does (R123, R145). -/
theorem State.heldDeadline_eq : s.heldDeadline ch = (s.pausedDeadline ch).countHeld ch := rfl

theorem Channel.Counts.emit {c d : Channel} (h : c.Counts d) (j : Nat) : (c.emit j).Counts (d.emit j) := by
  unfold Channel.Counts at *
  rw [h]
  rfl

/-- The counts are all that a held deadline adds (R101). -/
theorem State.heldDeadline_emit_counts :
    ((s.chan ch).withoutBlock (if (s.chan ch).lit then .repeated else .black) (s.keptPeriod ch)).Counts
      (((s.heldDeadline ch).modChan ch (fun c => c.emit 0)).chan ch) := by
  have hpaused := congrArg (State.chan · ch) (State.pausedDeadline_emit (s := s) (ch := ch))
  simp only [State.chan_modChan_same] at hpaused ⊢
  rw [← hpaused]
  exact State.countHeld_counts.emit 0

theorem State.heldDeadline_subtitlePort : (s.heldDeadline ch).subtitlePort = s.subtitlePort := by
  obtain ⟨-, -, -, -, hport, -⟩ := State.ports_eq_iff.mp (s.pausedDeadline ch).countHeld_ports
  rw [State.heldDeadline_eq, hport]
  simp [State.pausedDeadline, State.keepPeriod]

theorem State.heldDeadline_of_open {a : AdmissionRecord} (hlast : (s.chan ch).lastRecord = some a.ident)
    (hopen : (s.chan ch).record a.ident = some a) :
    ((s.heldDeadline ch).chan ch).records = (s.chan ch).records.map (fun r => if r.ident = a.ident then
      { r with presented := a.presented, held := bump32 a.held, damaged := a.damaged } else r) ∧
    (s.heldDeadline ch).log = s.log.map (fun g => if a.logSeq = some g.seq then
      { g with presented := a.presented, held := bump32 a.held, damaged := a.damaged } else g) := by
  rw [State.heldDeadline_eq, State.countHeld_of_open (by rw [State.pausedDeadline_chan]; exact hlast)
    (by rw [State.pausedDeadline_chan]; exact hopen), State.writeCounts, State.modLog_chan, State.modLog_log,
    State.modRecord_log, State.pausedDeadline_log, State.modRecord, State.chan_modChan_same,
    State.pausedDeadline_chan]
  exact ⟨rfl, rfl⟩

theorem State.heldDeadline_of_closed (h : ∀ r ∈ (s.chan ch).records, (s.chan ch).lastRecord ≠ some r.ident) :
    ((s.heldDeadline ch).chan ch).records = (s.chan ch).records ∧ (s.heldDeadline ch).log = s.log := by
  rw [State.heldDeadline_eq, State.countHeld_of_closed (by rw [State.pausedDeadline_chan]; exact h),
    State.pausedDeadline_chan, State.pausedDeadline_log]
  exact ⟨rfl, rfl⟩

namespace Stalled

variable {w : State} {count : Nat} (h : Stalled s w ch count)
include h

theorem stall_of_limit (hlimit : (s.chan ch).config.stallLimit ≤ count) : w.stall ch = w.suspend ch := by
  rw [State.stall, h.chan]
  exact if_pos hlimit

theorem stall_of_below (hlimit : ¬(s.chan ch).config.stallLimit ≤ count) : w.stall ch = w.heldDeadline ch := by
  rw [State.stall, h.chan]
  exact if_neg hlimit

theorem suspend_chan : ((w.suspend ch).modChan ch (fun c => c.emit 0)).chan ch =
    ((s.chan ch).stalled count).suspendedAt (s.keptPeriod ch) := by
  rw [State.suspend_emit_chan, h.chan, h.keptPeriod]

theorem held_counts : (((s.chan ch).stalled count).withoutBlock (if (s.chan ch).lit then .repeated else .black)
    (s.keptPeriod ch)).Counts (((w.heldDeadline ch).modChan ch (fun c => c.emit 0)).chan ch) := by
  have hcounts := State.heldDeadline_emit_counts (s := w) (ch := ch)
  rw [h.keptPeriod, h.chan] at hcounts
  exact hcounts

/-- What both deadlines leave of the part (R178). -/
theorem stall_rest : (w.stall ch).beside ch = s.beside ch ∧ (w.stall ch).licences = s.licences ∧
    (w.stall ch).keys = s.keys := by
  unfold State.stall
  split
  all_goals simp [h.beside, h.licences, h.keys]

end Stalled

end

/-- Settles O46: the deadline is `State.stall` on a state that `Stalled` describes, and suspends or holds. -/
theorem underrunsHoldAndSuspend : Obligations.UnderrunsHoldAndSuspend := by
  intro s ch count hp hrun hstalls
  obtain ⟨w, hw, hreach⟩ := State.reachDeadline_stalls hrun hstalls
  obtain ⟨hbeside, hlicences, hkeys⟩ := hw.stall_rest
  have hother := State.chan_other_of_beside ((State.emit_beside 0).trans hbeside)
  refine ⟨_, (exec_deadline hp ch).trans (congrArg _ hreach), ?_⟩
  by_cases hlimit : (s.chan ch).config.stallLimit ≤ count
  · rw [hw.stall_of_limit hlimit] at hother hlicences hkeys ⊢
    rw [hw.suspend_chan]
    refine ⟨rfl, rfl, rfl, rfl, fun hplaying => ?_, fun hlt => absurd hlimit (Nat.not_le.mpr hlt),
      fun _ => ⟨rfl, rfl, rfl, rfl, rfl, ?_, rfl, ?_⟩, rfl, fun a hlt => absurd hlimit (Nat.not_le.mpr hlt),
      fun _ => ⟨rfl, ?_⟩, hother, (State.modChan_licences ..).trans hlicences, (State.modChan_keys ..).trans hkeys⟩
    · exact (hw.underrun hplaying).suspend.of_notices (State.modChan_notices ..)
    · rw [State.modChan_subtitlePort, State.suspend_subtitlePort, hw.subtitlePort, hw.chan]
      rfl
    · exact State.suspend_pends.of_notices (State.modChan_notices ..)
    · rw [State.modChan_log, State.suspend_log, hw.log]
  · have hchan := hw.held_counts
    rw [hw.stall_of_below hlimit] at hother hlicences hkeys ⊢
    have hrecords : (((w.heldDeadline ch).modChan ch (fun c => c.emit 0)).chan ch).records =
        ((w.heldDeadline ch).chan ch).records := by
      rw [State.chan_modChan_same]
      rfl
    rw [hchan, hrecords, State.modChan_log, State.modChan_subtitlePort, State.modChan_notices,
      State.heldDeadline_notices, State.heldDeadline_subtitlePort, hw.subtitlePort]
    refine ⟨rfl, rfl, rfl, rfl, fun hplaying => hw.underrun hplaying, fun _ => ⟨rfl, rfl, rfl, ?_, rfl, rfl, rfl⟩,
      fun h => absurd h hlimit, rfl, fun a _ hlast hopen => ?_, fun hclosed => ?_, hother,
      (State.modChan_licences ..).trans hlicences, (State.modChan_keys ..).trans hkeys⟩
    · cases (s.chan ch).lit <;> rfl
    · have hcount := State.heldDeadline_of_open (s := w) (a := a) (by rwa [hw.chan]) (by rwa [hw.chan])
      rwa [hw.chan, hw.log] at hcount
    · have hcount := State.heldDeadline_of_closed (s := w) (ch := ch)
        (by rw [hw.chan]; exact hclosed.resolve_left hlimit)
      rwa [hw.chan, hw.log] at hcount

end Sys2Proof.Machine

/-! ## The subtitle scheduler at a deadline (R26, R27, R160, R161)

`Subtitles.Shows` is what a schedule changes of a scheduler, `SubsResult.Grows` what it makes of a result: each is
said once of one PENDING cue and then holds of all of them. -/

namespace Sys2Proof.Machine

/-! ### Cues cleared, contexts released -/

theorem mem_byTrack {shown : List ShownCue} {q : ShownCue} (hq : q ∈ shown) (ht : q.cue.track ≤ 3) :
    q ∈ byTrack shown :=
  List.mem_flatten.mpr ⟨shown.filter (fun k => k.cue.track = q.cue.track),
    List.mem_map.mpr ⟨q.cue.track, List.mem_range.mpr (by omega), rfl⟩, by simp [hq]⟩

/-- A SHOWN cue that satisfies the test is cleared with a CLEAR event (R160). -/
theorem Subtitles.clearWhere_events {x : Subtitles} (ch : ChannelId) {test : ShownCue → Bool} {q : ShownCue}
    (hq : q ∈ x.shown) (htest : test q = true) (ht : q.cue.track ≤ 3) :
    .clear ch q.cue.track q.cue.number false ∈ (x.clearWhere ch test).events :=
  List.mem_map.mpr ⟨q, mem_byTrack (List.mem_filter.mpr ⟨hq, htest⟩) ht, rfl⟩

/-- The releases of contexts one by one leave none of their serials (R160). -/
theorem Subtitles.foldl_release (l : List Context) (x : Subtitles) :
    l.foldl (fun st c => st.release c) x = { x with
      contexts := x.contexts.filter (fun k => l.all (fun c => k.serial ≠ c.serial))
      pendingCues := x.pendingCues.filter (fun q => l.all (fun c => q.context ≠ c.serial))
      shown := x.shown.filter (fun q => l.all (fun c => q.cue.context ≠ c.serial)) } := by
  induction l generalizing x with
  | nil => simp
  | cons c rest ih =>
    rw [List.foldl_cons, ih]
    simp [Subtitles.release, List.filter_filter, Bool.and_comm]

/-! ### What a schedule changes -/

/-- Only the PENDING cues and the SHOWN cues differ. -/
def Subtitles.Shows (x y : Subtitles) : Prop :=
  y = { x with pendingCues := y.pendingCues, shown := y.shown }

theorem Subtitles.Shows.refl (x : Subtitles) : x.Shows x := rfl

theorem Subtitles.Shows.trans {x y z : Subtitles} (h : x.Shows y) (h' : y.Shows z) : x.Shows z := by
  unfold Subtitles.Shows at *
  rw [h] at h'
  exact h'

section
variable {x y : Subtitles} (h : x.Shows y)
include h

theorem Subtitles.Shows.contexts : y.contexts = x.contexts := (congrArg Subtitles.contexts h :)
theorem Subtitles.Shows.jumpMark : y.jumpMark = x.jumpMark := (congrArg Subtitles.jumpMark h :)
theorem Subtitles.Shows.styles : y.styles = x.styles := (congrArg Subtitles.styles h :)
theorem Subtitles.Shows.offsets : y.offsets = x.offsets := (congrArg Subtitles.offsets h :)
theorem Subtitles.Shows.bank0 : y.bank0 = x.bank0 := (congrArg Subtitles.bank0 h :)
theorem Subtitles.Shows.bank1 : y.bank1 = x.bank1 := (congrArg Subtitles.bank1 h :)

theorem Subtitles.Shows.styleOf (n : Nat) : y.styleOf n = x.styleOf n := by
  simp only [Subtitles.styleOf, h.styles]

theorem Subtitles.Shows.bank (n : Nat) : y.bank n = x.bank n := by
  simp only [Subtitles.bank, h.bank0, h.bank1]

theorem Subtitles.Shows.matching (item reel : Nat) : y.matching item reel = x.matching item reel := by
  simp only [Subtitles.matching, h.contexts, h.jumpMark]

end

theorem Subtitles.clearWhere_shows (x : Subtitles) (ch : ChannelId) (test : ShownCue → Bool) :
    x.Shows (x.clearWhere ch test).subs := rfl

/-- The scheduler has only shown and dropped cues since, and no event and no drop is lost. -/
structure SubsResult.Grows (x y : SubsResult) : Prop where
  subs : x.subs.Shows y.subs
  events : x.events ⊆ y.events
  drops : x.drops ⊆ y.drops

theorem SubsResult.Grows.refl (x : SubsResult) : x.Grows x := ⟨.refl _, List.Subset.refl _, List.Subset.refl _⟩

theorem SubsResult.Grows.trans {x y z : SubsResult} (h : x.Grows y) (h' : y.Grows z) : x.Grows z :=
  ⟨h.subs.trans h'.subs, List.Subset.trans h.events h'.events, List.Subset.trans h.drops h'.drops⟩

/-! ### One PENDING cue -/

/-- The effective interval of a cue of a context under the scheduler's settings (R26, R157, R159). -/
def Subtitles.intervalOf (x : Subtitles) (comp : Composition) (c : Context) (q : Cue) : Interval :=
  effectiveInterval q.ri q.ro (x.offsets.getD q.track 0) (x.styleOf q.style).minimum (comp.duration c.reel)

theorem Subtitles.Shows.intervalOf {x y : Subtitles} (h : x.Shows y) (comp : Composition) (c : Context)
    (q : Cue) : y.intervalOf comp c q = x.intervalOf comp c q := by
  simp only [Subtitles.intervalOf, h.offsets, h.styleOf]

theorem Subtitles.Shows.showEvent {x y : Subtitles} (h : x.Shows y) (ch : ChannelId) (comp : Composition)
    (c : Context) (q : Cue) (ei eo p : Nat) :
    showEvent y ch comp c q ei eo p = showEvent x ch comp c q ei eo p := by
  simp only [Machine.showEvent, h.styleOf, h.bank]

/-- An interval is not empty (R26). -/
theorem Subtitles.intervalOf_lt {x : Subtitles} {comp : Composition} {c : Context} {q : Cue} {ei eo : Nat}
    {stretched : Bool} (h : x.intervalOf comp c q = .span ei eo stretched) : ei < eo := by
  obtain ⟨-, -, ⟨-, heo, -⟩ | ⟨-, hlt, -⟩⟩ := effectiveInterval_eq_span h
  · omega
  · exact hlt

section
variable (ch : ChannelId) {comp : Composition} {c : Context} {p : Nat} {x : SubsResult} {q : Cue}

theorem stepPending_of_beyondReel (h : x.subs.intervalOf comp c q = .beyondReel) :
    stepPending ch comp c p x q =
      { x with subs := x.subs.unpend q, drops := x.drops ++ [q.fault .beyondReel c.item c.reel] } := by
  unfold Subtitles.intervalOf at h
  simp only [stepPending, h]

variable {ei eo : Nat} {stretched : Bool} (h : x.subs.intervalOf comp c q = .span ei eo stretched)
include h

theorem stepPending_of_missed (hp : eo ≤ p) : stepPending ch comp c p x q =
    { x with subs := x.subs.unpend q, drops := x.drops ++ [q.fault .missed c.item c.reel] } := by
  unfold Subtitles.intervalOf at h
  simp only [stepPending, h, if_pos hp]

theorem stepPending_of_early (hp : p < ei) : stepPending ch comp c p x q = x := by
  have hlt := Subtitles.intervalOf_lt h
  unfold Subtitles.intervalOf at h
  simp only [stepPending, h, if_neg (show ¬eo ≤ p by omega), if_pos hp]

theorem stepPending_of_due (hei : ei ≤ p) (heo : p < eo) :
    stepPending ch comp c p x q = x.showCue ch comp c q ei eo p stretched := by
  unfold Subtitles.intervalOf at h
  simp only [stepPending, h, if_neg (Nat.not_le.mpr heo), if_neg (Nat.not_lt.mpr hei)]

end

section
variable (ch : ChannelId) (comp : Composition) (c : Context) (p : Nat)

/-- All that a deadline can make of a PENDING cue (R161): it is dropped, it waits before its interval, or it is
shown within it. -/
theorem stepPending_cases (x : SubsResult) (q : Cue) :
    (∃ reason, stepPending ch comp c p x q =
      { x with subs := x.subs.unpend q, drops := x.drops ++ [q.fault reason c.item c.reel] }) ∨
    stepPending ch comp c p x q = x ∨
    ∃ ei eo stretched, p < eo ∧ stepPending ch comp c p x q = x.showCue ch comp c q ei eo p stretched := by
  cases h : x.subs.intervalOf comp c q with
  | beyondReel => exact .inl ⟨_, stepPending_of_beyondReel ch h⟩
  | span ei eo stretched =>
    by_cases heo : eo ≤ p
    · exact .inl ⟨_, stepPending_of_missed ch h heo⟩
    · by_cases hei : p < ei
      · exact .inr (.inl (stepPending_of_early ch h hei))
      · exact .inr (.inr ⟨ei, eo, stretched, by omega, stepPending_of_due ch h (by omega) (by omega)⟩)

theorem stepPending_grows (x : SubsResult) (q : Cue) : x.Grows (stepPending ch comp c p x q) := by
  obtain ⟨reason, h⟩ | h | ⟨ei, eo, stretched, -, h⟩ := stepPending_cases ch comp c p x q
  · rw [h]
    exact ⟨rfl, List.Subset.refl _, List.subset_append_left ..⟩
  · rw [h]
    exact .refl x
  · rw [h]
    exact ⟨rfl, List.subset_append_of_subset_left _ (List.subset_append_left ..),
      List.subset_append_of_subset_left _ (List.subset_append_left ..)⟩

/-- A cue is SHOWN after its deadline when it was before, or when it is the cue at hand with its end still to
come. -/
theorem stepPending_shown {x : SubsResult} {q : Cue} {k : ShownCue}
    (hk : k ∈ (stepPending ch comp c p x q).subs.shown) : k ∈ x.subs.shown ∨ k.cue = q ∧ p < k.eo := by
  obtain ⟨reason, h⟩ | h | ⟨ei, eo, stretched, heo, h⟩ := stepPending_cases ch comp c p x q
  · rw [h] at hk
    exact .inl hk
  · rw [h] at hk
    exact .inl hk
  · rw [h] at hk
    obtain hk | hk := List.mem_append.mp hk
    · exact .inl (List.mem_of_mem_filter hk)
    · obtain rfl := List.mem_singleton.mp hk
      exact .inr ⟨rfl, heo⟩

/-- Whether a PENDING cue waits at frame p: its interval is yet to begin (R161). -/
def Subtitles.waits (x : Subtitles) (comp : Composition) (c : Context) (p : Nat) (q : Cue) : Bool :=
  match x.intervalOf comp c q with
  | .beyondReel => false
  | .span ei _ _ => p < ei

theorem Subtitles.Shows.waits {x y : Subtitles} (h : x.Shows y) :
    y.waits comp c p = x.waits comp c p := by
  funext q
  simp only [Subtitles.waits, h.intervalOf]

/-- A cue at its deadline stays PENDING only when it waits. -/
theorem stepPending_pendingCues (x : SubsResult) (q : Cue) :
    (stepPending ch comp c p x q).subs.pendingCues =
      if x.subs.waits comp c p q then x.subs.pendingCues else x.subs.pendingCues.erase q := by
  cases h : x.subs.intervalOf comp c q with
  | beyondReel =>
    rw [stepPending_of_beyondReel ch h]
    simp only [Subtitles.waits, h, Subtitles.unpend, Bool.false_eq_true, if_false]
  | span ei eo stretched =>
    have hlt := Subtitles.intervalOf_lt h
    simp only [Subtitles.waits, h, decide_eq_true_eq]
    by_cases hei : p < ei
    · rw [stepPending_of_early ch h hei, if_pos hei]
    · rw [if_neg hei]
      by_cases heo : eo ≤ p
      · rw [stepPending_of_missed ch h heo]
        rfl
      · rw [stepPending_of_due ch h (by omega) (by omega)]
        rfl

/-! ### All PENDING cues of a context -/

variable (l : List Cue)

theorem foldl_stepPending_grows (x : SubsResult) : x.Grows (l.foldl (stepPending ch comp c p) x) :=
  List.foldlRecOn l _ (.refl x) fun _ hy q _ => hy.trans (stepPending_grows ch comp c p _ q)

theorem foldl_stepPending_shown {x : SubsResult} {k : ShownCue}
    (hk : k ∈ (l.foldl (stepPending ch comp c p) x).subs.shown) :
    k ∈ x.subs.shown ∨ k.cue ∈ l ∧ p < k.eo := by
  induction l generalizing x with
  | nil => exact .inl hk
  | cons q rest ih =>
    obtain hk | ⟨hmem, heo⟩ := ih hk
    · exact (stepPending_shown ch comp c p hk).imp_right fun ⟨he, heo⟩ => ⟨he ▸ List.mem_cons_self, heo⟩
    · exact .inr ⟨List.mem_cons_of_mem q hmem, heo⟩

/-- The cues that do not wait are no longer PENDING. -/
theorem foldl_stepPending_pendingCues (x : SubsResult) :
    (l.foldl (stepPending ch comp c p) x).subs.pendingCues =
      x.subs.pendingCues.diff (l.filter (fun q => !x.subs.waits comp c p q)) := by
  induction l generalizing x with
  | nil => rfl
  | cons q rest ih =>
    rw [List.foldl_cons, ih, (stepPending_grows ch comp c p x q).subs.waits, stepPending_pendingCues]
    cases h : x.subs.waits comp c p q <;> simp [h, List.diff_cons]

variable {l} in
/-- Each cue of the list has its turn, with nothing but shown and dropped cues before and after. -/
theorem foldl_stepPending_turn (x : SubsResult) {q : Cue} (hq : q ∈ l) : ∃ z, x.Grows z ∧
    (stepPending ch comp c p z q).Grows (l.foldl (stepPending ch comp c p) x) := by
  obtain ⟨before, after, rfl⟩ := List.append_of_mem hq
  refine ⟨before.foldl (stepPending ch comp c p) x, foldl_stepPending_grows .., ?_⟩
  rw [List.foldl_append, List.foldl_cons]
  exact foldl_stepPending_grows ..

end

/-! ### The schedule of a frame -/

theorem Subtitles.mem_dueOrder {x : Subtitles} {c : Context} {q : Cue} :
    q ∈ x.dueOrder c ↔ q ∈ x.pendingCues ∧ q.context = c.serial ∧ q.track ≤ 3 := by
  simp only [Subtitles.dueOrder, List.mem_flatten, List.mem_map, List.mem_range]
  constructor
  · rintro ⟨_, ⟨t, ht, rfl⟩, hq⟩
    simp only [List.mem_filter, Bool.and_eq_true, decide_eq_true_eq] at hq
    obtain ⟨hq, hc, rfl⟩ := hq
    exact ⟨hq, hc, by omega⟩
  · rintro ⟨hq, hc, ht⟩
    exact ⟨_, ⟨q.track, by omega, rfl⟩, by simp [hq, hc]⟩

/-- Every copy of a PENDING cue of the context has its turn. -/
theorem Subtitles.count_dueOrder {x : Subtitles} {c : Context} {q : Cue} (hc : q.context = c.serial)
    (ht : q.track ≤ 3) : (x.dueOrder c).count q = x.pendingCues.count q := by
  have htrack (t : Nat) : (x.pendingCues.filter (fun k => k.context = c.serial && k.track = t)).count q =
      if q.track = t then x.pendingCues.count q else 0 := by
    split
    · exact List.count_filter (by simp [*])
    · exact List.count_eq_zero.mpr (by simp [*])
  have hfour : q.track = 0 ∨ q.track = 1 ∨ q.track = 2 ∨ q.track = 3 := by omega
  have hrange : List.range 4 = [0, 1, 2, 3] := rfl
  simp only [Subtitles.dueOrder, hrange, List.map_cons, List.map_nil, List.flatten_cons, List.flatten_nil,
    List.append_nil, List.count_append, htrack]
  obtain h | h | h | h := hfour <;> simp [h]

section
variable {x : Subtitles} (ch : ChannelId) (comp : Composition) {item reel : Nat} (p : Nat) {c : Context}

theorem Subtitles.schedule_of_matching (h : x.matching item reel = some c) :
    x.schedule ch comp item reel p =
      (x.dueOrder c).foldl (stepPending ch comp c p) (x.clearWhere ch (fun q => q.eo ≤ p)) := by
  simp only [Subtitles.schedule, h]

theorem Subtitles.schedule_of_none (h : x.matching item reel = none) :
    x.schedule ch comp item reel p = x.clearWhere ch (fun q => q.eo ≤ p) := by
  simp only [Subtitles.schedule, h]

variable (x item reel)

theorem Subtitles.schedule_grows :
    (x.clearWhere ch (fun q => q.eo ≤ p)).Grows (x.schedule ch comp item reel p) := by
  cases h : x.matching item reel with
  | none => exact x.schedule_of_none ch comp p h ▸ .refl _
  | some c => exact x.schedule_of_matching ch comp p h ▸ foldl_stepPending_grows ..

/-- A schedule changes nothing of a scheduler but its cues (R160, R161). -/
theorem Subtitles.schedule_shows : x.Shows (x.schedule ch comp item reel p).subs :=
  (x.clearWhere_shows ch _).trans (x.schedule_grows ch comp item reel p).subs

variable {x item reel}

/-- A cue SHOWN after a schedule ends after its frame, and was shown before or is of the matching context. -/
theorem Subtitles.schedule_shown {q : ShownCue} (hq : q ∈ (x.schedule ch comp item reel p).subs.shown) :
    p < q.eo ∧ (q ∈ x.shown ∨ ∃ c, x.matching item reel = some c ∧ q.cue.context = c.serial) := by
  have hkept (hq : q ∈ (x.clearWhere ch (fun q => q.eo ≤ p)).subs.shown) : p < q.eo ∧ q ∈ x.shown := by
    simpa [Subtitles.clearWhere, and_comm] using hq
  cases h : x.matching item reel with
  | none =>
    rw [x.schedule_of_none ch comp p h] at hq
    exact (hkept hq).imp_right .inl
  | some c =>
    rw [x.schedule_of_matching ch comp p h] at hq
    obtain hq | ⟨hmem, heo⟩ := foldl_stepPending_shown ch comp c p _ hq
    · exact (hkept hq).imp_right .inl
    · exact ⟨heo, .inr ⟨c, rfl, (Subtitles.mem_dueOrder.mp hmem).2.1⟩⟩

/-- A schedule adds no PENDING cue. -/
theorem Subtitles.schedule_pendingCues :
    (x.schedule ch comp item reel p).subs.pendingCues ⊆ x.pendingCues := by
  cases h : x.matching item reel with
  | none => exact x.schedule_of_none ch comp p h ▸ List.Subset.refl _
  | some c =>
    rw [x.schedule_of_matching ch comp p h, foldl_stepPending_pendingCues]
    exact (List.diff_sublist ..).subset

end

end Sys2Proof.Machine

/-! ## The subtitle laws (R152, R156, R161)

The laws of SHOWN cues and banks are laws of the scheduler: each of its operations keeps them, and the rest of the
part leaves the scheduler as it is. -/

namespace Sys2Proof.Machine

/-- At most 8 cues SHOWN on each track, and both banks in their canonical form. -/
def Subtitles.lawful (x : Subtitles) : Prop :=
  (∀ t, (x.shown.filter (fun q => q.cue.track = t)).length ≤ 8) ∧
    Memory.wf x.bank0 = true ∧ Memory.wf x.bank1 = true

/-- The laws of both channels' schedulers. -/
def SubtitlesLawful (s : State) : Prop := ∀ ch, (s.chan ch).subs.lawful

theorem subtitlesLawful_iff {s : State} : SubtitlesLawful s ↔ ShownLaw s ∧ BankLaw s := forall_and

/-! ### The operations of the scheduler -/

/-- The banks as they were, and no cue SHOWN that was not. -/
theorem Subtitles.lawful.of_sublist {x y : Subtitles} (hx : x.lawful) (h : y.shown.Sublist x.shown)
    (h0 : y.bank0 = x.bank0) (h1 : y.bank1 = x.bank1) : y.lawful := by
  obtain ⟨hshown, hbanks⟩ := hx
  exact ⟨fun t => ((h.filter _).length_le).trans (hshown t), by rwa [h0, h1]⟩

theorem Subtitles.lawful.bank {x : Subtitles} (hx : x.lawful) (n : Nat) : Memory.wf (x.bank n) = true := by
  obtain ⟨-, h0, h1⟩ := hx
  unfold Subtitles.bank
  split
  · exact h0
  · exact h1

theorem Subtitles.lawful.setBank {x : Subtitles} (hx : x.lawful) (n : Nat) {m : List Host.Cell}
    (hm : Memory.wf m = true) : (x.setBank n m).lawful := by
  obtain ⟨hshown, h0, h1⟩ := hx
  unfold Subtitles.setBank
  split
  · exact ⟨hshown, hm, h1⟩
  · exact ⟨hshown, h0, hm⟩

theorem Subtitles.lawful.release {x : Subtitles} (hx : x.lawful) (c : Context) : (x.release c).lawful :=
  hx.of_sublist List.filter_sublist rfl rfl

theorem Subtitles.lawful.clearWhere {x : Subtitles} (hx : x.lawful) (ch : ChannelId)
    (test : ShownCue → Bool) : (x.clearWhere ch test).subs.lawful :=
  hx.of_sublist List.filter_sublist rfl rfl

/-- A new context's bank is filled with 0 (R154). -/
theorem Subtitles.lawful.create {x : Subtitles} (hx : x.lawful) (item reel bank turn : Nat) :
    (x.create item reel bank turn).lawful := by
  unfold Subtitles.create
  refine Subtitles.lawful.setBank ?_ bank rfl
  exact hx.of_sublist (List.Sublist.refl _) rfl rfl

theorem Subtitles.lawful.openContext {x : Subtitles} (hx : x.lawful) (item reel : Nat) :
    (x.openContext item reel).subs.lawful := by
  unfold Subtitles.openContext
  split
  · exact hx
  · iterate 3 (split; · exact hx.create ..)
    split
    · exact (hx.release _).create ..
    · exact hx

theorem Subtitles.lawful.takeCues {x : Subtitles} (hx : x.lawful) (comp : Composition) (item reel : Nat)
    (plain : List Byte) : (x.takeCues comp item reel plain).subs.lawful := by
  simp only [Subtitles.takeCues]
  split
  · exact hx
  · refine List.foldlRecOn (motive := fun y : SubsResult => y.subs.lawful) _ _ (hx.openContext ..) fun y hy r _ => ?_
    obtain ⟨reason, h⟩ | ⟨c, -, -, h⟩ := takeCue_cases comp item reel y r
    · exact h ▸ hy
    · exact h ▸ hy.of_sublist (List.Sublist.refl _) rfl rfl

theorem Subtitles.lawful.takeResource {x : Subtitles} (hx : x.lawful) (comp : Composition)
    (item reel offset : Nat) (plain : List Byte) : (x.takeResource comp item reel offset plain).subs.lawful := by
  have hopen := hx.openContext item reel
  simp only [Subtitles.takeResource]
  split
  · exact hx
  · split
    · exact hopen
    · split
      · exact hopen
      · exact hopen.setBank _ (Memory.writeAll_wf _ _ _ (hopen.bank _))

theorem Subtitles.lawful.handed {x : Subtitles} (hx : x.lawful) (comp : Composition) (g : Segment)
    (plain : List Byte) : (x.handed comp g plain).subs.lawful := by
  unfold Subtitles.handed
  split
  · exact hx.takeResource ..
  · exact hx.takeCues ..

/-- A test that all of the first `n` fail passes at most the others. -/
theorem length_filter_le_of_take {α : Type} {test : α → Bool} (n : Nat) (l : List α)
    (h : ∀ k ∈ l.take n, test k = false) : (l.filter test).length ≤ l.length - n := by
  calc (l.filter test).length
      = ((l.take n).filter test).length + ((l.drop n).filter test).length := by
        rw [← List.length_append, ← List.filter_append, List.take_append_drop]
    _ = ((l.drop n).filter test).length := by
        rw [List.filter_eq_nil_iff.mpr (by simpa using h), List.length_nil, Nat.zero_add]
    _ ≤ (l.drop n).length := List.length_filter_le ..
    _ = l.length - n := List.length_drop

/-- After its cuts at most 7 cues are SHOWN on the track of a cue that is to be shown (R161, step 2). -/
theorem Subtitles.cutsFor_leave (x : Subtitles) (q : Cue) :
    ((x.shown.filter (fun k => !(x.cutsFor q).contains k)).filter
      (fun k => k.cue.track = q.track)).length ≤ 7 := by
  obtain ⟨track, htrack⟩ : ∃ track, track = x.shown.filter (fun k => k.cue.track = q.track) := ⟨_, rfl⟩
  obtain ⟨rest, hrest⟩ : ∃ rest, rest = track.filter (fun k => k.cue.number ≠ q.number) := ⟨_, rfl⟩
  have hcuts : x.cutsFor q =
      track.filter (fun k => k.cue.number = q.number) ++ rest.take (rest.length - 7) := by
    rw [hrest, htrack]
    rfl
  have hsame : (x.shown.filter (fun k => !(x.cutsFor q).contains k)).filter
      (fun k => k.cue.track = q.track) = rest.filter (fun k => !(x.cutsFor q).contains k) := by
    rw [hrest, htrack, List.filter_filter, List.filter_filter, List.filter_filter]
    refine List.filter_congr fun k hk => ?_
    by_cases hnumber : k.cue.number = q.number
    · by_cases ht : k.cue.track = q.track
      · have hcut : k ∈ x.cutsFor q := by simp [hcuts, htrack, hk, ht, hnumber]
        simp [hcut, hnumber]
      · simp [ht]
    · simp [hnumber, Bool.and_comm]
  have hleft := length_filter_le_of_take (test := fun k => !(x.cutsFor q).contains k) (rest.length - 7) rest
    fun k hk => by simp [hcuts, hk]
  rw [hsame]
  omega

theorem SubsResult.showCue_lawful {x : SubsResult} (hx : x.subs.lawful) (ch : ChannelId) (comp : Composition)
    (c : Context) (q : Cue) (ei eo p : Nat) (stretched : Bool) :
    (x.showCue ch comp c q ei eo p stretched).subs.lawful := by
  obtain ⟨hshown, hbanks⟩ := hx
  refine ⟨fun t => ?_, hbanks⟩
  simp only [SubsResult.showCue, Subtitles.unpend, List.filter_append, List.length_append]
  by_cases ht : q.track = t
  · subst ht
    have hseven := x.subs.cutsFor_leave q
    simp only [List.filter_cons, decide_true, if_true, List.filter_nil, List.length_singleton]
    omega
  · have hkept := ((List.filter_sublist (l := x.subs.shown)
      (p := fun k => !(x.subs.cutsFor q).contains k)).filter (fun k => k.cue.track = t)).length_le
    simp only [List.filter_cons, ht, decide_false, Bool.false_eq_true, if_false, List.filter_nil,
      List.length_nil, Nat.add_zero]
    exact hkept.trans (hshown t)

theorem stepPending_lawful {x : SubsResult} (hx : x.subs.lawful) (ch : ChannelId) (comp : Composition)
    (c : Context) (p : Nat) (q : Cue) : (stepPending ch comp c p x q).subs.lawful := by
  obtain ⟨reason, h⟩ | h | ⟨ei, eo, stretched, -, h⟩ := stepPending_cases ch comp c p x q
  · rw [h]
    exact hx.of_sublist (List.Sublist.refl _) rfl rfl
  · rwa [h]
  · rw [h]
    exact SubsResult.showCue_lawful hx ..

theorem Subtitles.lawful.schedule {x : Subtitles} (hx : x.lawful) (ch : ChannelId) (comp : Composition)
    (item reel p : Nat) : (x.schedule ch comp item reel p).subs.lawful := by
  have hcleared := hx.clearWhere ch (fun q => q.eo ≤ p)
  cases h : x.matching item reel with
  | none => exact x.schedule_of_none ch comp p h ▸ hcleared
  | some c =>
    rw [x.schedule_of_matching ch comp p h]
    exact List.foldlRecOn (motive := fun y : SubsResult => y.subs.lawful) _ _ hcleared
      fun y hy q _ => stepPending_lawful hy ch comp c p q

theorem Subtitles.lawful.reachTarget {x : Subtitles} (hx : x.lawful) (ch : ChannelId) :
    (x.reachTarget ch).subs.lawful := by
  simp only [Subtitles.reachTarget, Subtitles.foldl_release]
  exact hx.of_sublist (List.filter_sublist.trans List.filter_sublist) rfl rfl

theorem Subtitles.lawful.endReel {x : Subtitles} (hx : x.lawful) (ch : ChannelId)
    (previous : Option (Nat × Nat)) (item reel : Nat) : (x.endReel ch previous item reel).subs.lawful := by
  simp only [Subtitles.endReel]
  split
  · exact hx
  · split
    · exact hx
    · split
      · exact hx
      · exact (hx.clearWhere ..).release _

theorem Subtitles.lawful.present {x : Subtitles} (hx : x.lawful) (ch : ChannelId) (comp : Composition)
    (previous : Option (Nat × Nat)) (pos : Position) (target : Bool) :
    (x.present ch comp previous pos target).subs.lawful := by
  have hpassed : (if target then x.reachTarget ch else x.endReel ch previous pos.item pos.reel).subs.lawful := by
    split
    · exact hx.reachTarget ch
    · exact hx.endReel ..
  exact (hpassed.schedule ch comp pos.item pos.reel pos.frame).of_sublist (List.Sublist.refl _) rfl rfl

theorem Subtitles.lawful.released {x : Subtitles} (hx : x.lawful) : x.released.lawful :=
  hx.of_sublist (List.nil_sublist _) rfl rfl

end Sys2Proof.Machine

/-! ### The rest of the part -/

namespace Sys2Proof.Machine

theorem Channel.Counts.subs {c d : Channel} (h : c.Counts d) : d.subs = c.subs := (congrArg Channel.subs h :)

theorem Channel.Drops.subs {c d : Channel} (h : c.Drops d) : d.subs = c.subs := (congrArg Channel.subs h.1 :)

section
variable (s : State) (ch : ChannelId)

theorem State.arrive_subs (g : Segment) : ((s.arrive ch g).chan ch).subs = (s.chan ch).subs := by
  simp only [State.arrive, State.arriveStale]
  (repeat' split) <;> simp

theorem State.finishHead_subs : ((s.finishHead ch).chan ch).subs = (s.chan ch).subs := by
  unfold State.finishHead
  split <;> simp

theorem State.discardOrder_subs : ((s.discardOrder ch).chan ch).subs = (s.chan ch).subs := by
  rw [State.discardOrder, State.finishHead_subs, State.chan_modChan_same]
  rfl

theorem State.serve_subs : ((s.serve ch).chan ch).subs = (s.chan ch).subs := by
  have hserved (w : Option Work) : ({ s with lastServed := ch, work := w } : State).chan ch = s.chan ch :=
    State.chan_of_stage rfl ch
  simp only [State.serve]
  split
  · rfl
  · split
    · exact congrArg Channel.subs (hserved _)
    · exact (State.discardOrder_subs _ ch).trans (congrArg Channel.subs (hserved s.work))

theorem State.judgePriming_subs (completed : Bool) :
    ((s.judgePriming ch completed).chan ch).subs = (s.chan ch).subs := by
  rw [State.judgePriming_chan]

/-- Credit, completion, priming and next item are not the scheduler's (R44, R66, R94, R118). -/
theorem State.afterPlacement_subs (completed readied : Bool) :
    ((s.afterPlacement ch completed readied).chan ch).subs = (s.chan ch).subs := by
  have hreported : ((s.reported ch completed).chan ch).subs = (s.chan ch).subs := by
    cases completed with
    | false => exact s.finishHead_subs ch
    | true =>
      simp only [State.reported, if_true, State.reportComplete, State.chan_modChan_same]
      exact s.finishHead_subs ch
  have hsettled : ((s.settleHead ch completed readied).chan ch).subs = (s.chan ch).subs := by
    unfold State.settleHead
    split
    · exact (State.judgePriming_subs ..).trans hreported
    · exact hreported
  have hafter : s.afterPlacement ch completed readied = if completed then
      (s.settleHead ch completed readied).nextItemOccasion ch else s.settleHead ch completed readied := rfl
  rw [hafter]
  split
  · exact (State.nextItemOccasion_counts _ ch).subs.trans hsettled
  · exact hsettled

end

section
variable {s : State} {ch : ChannelId}

theorem State.placeSegment_subsLawful (h : (s.chan ch).subs.lawful) (comp : Composition) (record : Nat)
    (g : Segment) (p : Payload) : ((s.placeSegment ch comp record g p).chan ch).subs.lawful := by
  cases hg : g.isFragment with
  | true =>
    rw [State.placeSegment_of_fragment s ch comp record hg, State.chan_modChan_same, State.countPayload_chan,
      Channel.placeFragment_eq]
    exact h
  | false =>
    rw [State.placeSegment_of_prologue s ch comp record hg]
    cases p with
    | good plain =>
      rw [State.placePrologue_of_good, State.putSubs_chan_same, State.countPayload_chan]
      exact Subtitles.lawful.handed h comp g plain
    | bad cause =>
      rw [State.placePrologue_of_bad, State.chan_modChan_same, State.countPayload_chan]
      exact h

theorem State.unpack_subsLawful (h : (s.chan ch).subs.lawful) (comp : Composition) (record : Nat)
    (key : KeyChoice) (g : Segment) : ((s.unpack ch comp record key g).chan ch).subs.lawful := by
  have hclosed : ((s.modChan ch (fun c => c.closeBefore comp record g)).chan ch).subs.lawful := by
    rw [State.chan_modChan_same, (congrArg Channel.subs ((s.chan ch).closeBefore_closes comp record g) :)]
    exact h
  simp only [State.unpack]
  split
  · split
    · rwa [State.judgePriming_subs]
    · exact hclosed
  · rw [State.afterPlacement_subs]
    exact State.placeSegment_subsLawful hclosed ..

/-! #### Deadlines and edges -/

theorem State.pausedDeadline_subs : ((s.pausedDeadline ch).chan ch).subs = (s.chan ch).subs := by
  simp only [State.pausedDeadline, State.keepPeriod, State.chan_modChan_same]
  rfl

theorem State.suspendedDeadline_subs : ((s.suspendedDeadline ch).chan ch).subs = (s.chan ch).subs := by
  simp only [State.suspendedDeadline, State.keepPeriod, State.chan_modChan_same]
  rfl

theorem State.heldDeadline_subs : ((s.heldDeadline ch).chan ch).subs = (s.chan ch).subs :=
  State.countHeld_counts.subs.trans s.pausedDeadline_subs

theorem State.suspend_subs : ((s.suspend ch).chan ch).subs = { (s.chan ch).subs with shown := [] } := by
  have hemit : (((s.suspend ch).modChan ch (fun c => c.emit 0)).chan ch).subs =
      ((s.suspend ch).chan ch).subs := by
    rw [State.chan_modChan_same]
    rfl
  rw [← hemit, State.suspend_emit_chan]
  rfl

/-- A stalled channel goes on held, or suspends (R144, R145, R147). -/
theorem State.stalls_subsLawful (h : (s.chan ch).subs.lawful) (limit : Prop) [Decidable limit] :
    (State.chan (if limit then s.suspend ch else s.heldDeadline ch) ch).subs.lawful := by
  split
  · rw [State.suspend_subs]
    exact h.of_sublist (List.nil_sublist _) rfl rfl
  · rwa [State.heldDeadline_subs]

theorem State.present_subsLawful (h : (s.chan ch).subs.lawful) (f : Frame) (target committed knownEnd : Bool) :
    ((s.present ch f target committed knownEnd).chan ch).subs.lawful := by
  cases hcomp : s.itemComposition ch f.pos.item with
  | none => simpa only [State.present, hcomp] using h
  | some comp =>
    rw [State.present_eq _ _ _ _ _ hcomp, ((State.countPresentation_counts _ ch _ _).trans
      (State.closeAtFrame_counts _ ch _ _ _ _)).subs, State.handed_chan]
    exact h.present ..

theorem State.presentNext_subsLawful (h : (s.chan ch).subs.lawful) (f : Frame) :
    ((s.presentNext ch f).chan ch).subs.lawful := by
  refine State.present_subsLawful ?_ f _ _ _
  rwa [State.chan_modChan_same]

theorem State.playingDeadline_subsLawful (h : (s.chan ch).subs.lawful) (presented : Bool) :
    ((s.playingDeadline ch presented).chan ch).subs.lawful := by
  simp only [State.playingDeadline]
  split
  · rwa [State.pausedDeadline_subs, State.chan_modChan_same]
  · split
    · rw [State.endShow_chan]
      exact h.released
    · split
      · exact State.presentNext_subsLawful h _
      · refine State.stalls_subsLawful ?_ _
        rwa [State.chan_modChan_same, State.raise_chan]

theorem State.holdingDeadline_subsLawful (h : (s.chan ch).subs.lawful) :
    ((s.holdingDeadline ch).chan ch).subs.lawful := by
  have hholdOn : ((s.holdOn ch).chan ch).subs.lawful := by
    refine State.stalls_subsLawful ?_ _
    rwa [State.chan_modChan_same]
  simp only [State.holdingDeadline]
  split
  · split
    · refine State.presentNext_subsLawful ?_ _
      rwa [State.chan_modChan_same]
    · exact hholdOn
  · exact hholdOn

theorem State.deadlineEdge_subsLawful (h : (s.chan ch).subs.lawful) :
    ((s.deadlineEdge ch).chan ch).subs.lawful := by
  have hfreed : ((s.freePresenting ch).chan ch).subs.lawful := by
    rwa [State.freePresenting, State.chan_modChan_same]
  have hdeadline : ((s.deadline ch).chan ch).subs.lawful := by
    simp only [State.deadline]
    split
    · exact State.playingDeadline_subsLawful hfreed _
    · rwa [State.pausedDeadline_subs]
    · exact State.holdingDeadline_subsLawful hfreed
    · rwa [State.suspendedDeadline_subs]
    all_goals exact h
  rwa [State.deadlineEdge, State.chan_modChan_same]

theorem State.reachDeadline_subsLawful (h : (s.chan ch).subs.lawful) :
    ((s.reachDeadline ch).chan ch).subs.lawful := by
  unfold State.reachDeadline
  split
  · exact h
  · exact State.deadlineEdge_subsLawful h
  · refine State.deadlineEdge_subsLawful ?_
    rwa [State.chan_modChan_same]

theorem State.sampleEdge_subsLawful (h : (s.chan ch).subs.lawful) :
    ((s.sampleEdge ch).chan ch).subs.lawful := by
  have hedge (f : Channel → Channel) (hf : (f (s.chan ch)).subs = (s.chan ch).subs) :
      ((s.modChan ch f).chan ch).subs.lawful := by
    rwa [State.chan_modChan_same, hf]
  simp only [State.sampleEdge]
  split
  · exact hedge _ rfl
  · exact State.deadlineEdge_subsLawful h
  · split
    · exact State.deadlineEdge_subsLawful h
    · exact hedge _ rfl

/-! #### JUMP (R134 to R138) -/

variable (s ch)

theorem State.discardFetching_subs : ((s.discardFetching ch).chan ch).subs = (s.chan ch).subs :=
  (foldl_removeRecord_drops (fun t r => t.discardRecord_chan ch r) _ s).subs

theorem State.jumpReleases_subs (n : Nat) : ((s.jumpReleases ch n).chan ch).subs = (s.chan ch).subs := by
  have hdiscarded := s.discardFetching_subs ch
  simp only [State.jumpReleases]
  split
  · exact hdiscarded
  · rename_i r _
    have hfreed : (((s.discardFetching ch).uncharge ch r).chan ch).subs = (s.chan ch).subs := by
      simpa [State.uncharge, State.modRecord] using hdiscarded
    split
    · rw [State.discardRecord_chan]
      exact hfreed
    · exact hfreed

theorem State.closeLeft_subs (n : Nat) : ((s.closeLeft ch n).chan ch).subs = (s.chan ch).subs := by
  unfold State.closeLeft
  split
  · split
    · rw [State.closeRecord_chan]
      rfl
    · rfl
  · rfl

variable {s ch}

theorem State.jumpAway_subs {t : State} {comp : Composition} {item slot reel n : Nat}
    (h : s.jumpAway ch comp item slot reel n = .ok t) : (t.chan ch).subs = (s.chan ch).subs := by
  simp only [State.jumpAway] at h
  split at h
  · cases h
  · cases h
    rw [State.admitAndFetch_chan, State.jumpFlush_chan]
    exact (State.closeLeft_subs ..).trans (s.jumpReleases_subs ch n)

theorem State.jumpWithin_subs (r : AdmissionRecord) (reel n : Nat) :
    ((s.jumpWithin ch r reel n).chan ch).subs = (s.chan ch).subs := by
  rw [State.jumpWithin, State.beginFetch_chan, State.jumpFlush_chan]
  exact s.discardFetching_subs ch

/-- An accepted jump marks the contexts LEFT (R164). -/
theorem State.jump_subs {t : State} {comp : Composition} {slot item reel : Nat}
    (h : s.jump ch comp slot item reel = .ok t) : (t.chan ch).subs = (s.chan ch).subs.jumpPoint := by
  have hfinish {u : State} (n : Nat) (hu : (u.chan ch).subs = (s.chan ch).subs) :
      ((u.modChan ch (fun k => k.jumped item reel n)).chan ch).subs = (s.chan ch).subs.jumpPoint := by
    rw [State.chan_modChan_same, ← hu]
    rfl
  have haway (n : Nat) (hn : (s.jumpAway ch comp item slot reel n).map
      (fun st => st.modChan ch (fun k => k.jumped item reel n)) = .ok t) :
      (t.chan ch).subs = (s.chan ch).subs.jumpPoint := by
    cases hj : s.jumpAway ch comp item slot reel n with
    | error st => simp [hj, Except.map] at hn
    | ok u =>
      simp only [hj, Except.map, Except.ok.injEq] at hn
      exact hn ▸ hfinish n (State.jumpAway_subs hj)
  simp only [State.jump] at h
  split at h
  · split at h
    · cases h
      exact hfinish _ (State.jumpWithin_subs ..)
    · exact haway _ h
  · exact haway _ h

/-! #### Requests and steps -/

/-- An operation that leaves the other channel keeps the laws when it keeps them on its own. -/
theorem SubtitlesLawful.of_other {t : State} (hs : SubtitlesLawful s)
    (h : t.chan ch.other = s.chan ch.other) (hch : (t.chan ch).subs.lawful) : SubtitlesLawful t := fun c => by
  by_cases hc : ch = c
  · exact hc ▸ hch
  · obtain rfl := eq_other_of_ne hc
    exact h ▸ hs _

theorem SubtitlesLawful.of_beside {t : State} (hs : SubtitlesLawful s) (h : t.beside ch = s.beside ch)
    (hch : (t.chan ch).subs.lawful) : SubtitlesLawful t :=
  hs.of_other (State.chan_other_of_beside h) hch

theorem SubtitlesLawful.of_chan {t : State} (hs : SubtitlesLawful s) (h : ∀ c, t.chan c = s.chan c) :
    SubtitlesLawful t := fun c => h c ▸ hs c

theorem SubtitlesLawful.of_modChan {f : Channel → Channel} (hs : SubtitlesLawful s)
    (h : (f (s.chan ch)).subs.lawful) : SubtitlesLawful (s.modChan ch f) := fun c => by
  rw [State.chan_modChan]
  split
  · exact h
  · exact hs c

theorem State.finishSegment_subtitlesLawful (hs : SubtitlesLawful s) : SubtitlesLawful s.finishSegment := by
  have hfreed : SubtitlesLawful { s with work := none } := hs.of_chan (State.chan_of_stage rfl)
  have hdiscard (c : ChannelId) : SubtitlesLawful (State.discardOrder { s with work := none } c) :=
    hfreed.of_beside (State.discardOrder_beside _ c) (by rw [State.discardOrder_subs]; exact hfreed c)
  simp only [State.finishSegment]
  split
  · exact hs
  · split
    · exact hfreed
    · split
      · exact hdiscard _
      · split
        · exact hfreed.of_beside (State.unpack_beside ..) (State.unpack_subsLawful (hfreed _) ..)
        · exact hdiscard _

/-- Of the requests only CUE, STOP and JUMP reach contexts, cues and banks (R163, R164, R166). -/
theorem perform_subtitlesLawful (r : Request) (hs : SubtitlesLawful s) : SubtitlesLawful (perform r s).1 := by
  have hset {c : ChannelId} {f : Channel → Channel} (h : (f (s.chan c)).subs = (s.chan c).subs) :
      SubtitlesLawful (s.modChan c f) := hs.of_modChan (h ▸ hs c)
  cases r with
  | identify | status | softReset | clearResetCause | loadComposition | dropComposition
  | readComposition | loadLicence | revokeLicence | deleteLicence | readLicence | counterOp | setTime
  | adjustTime | readTime | readLog | releaseLog | readNotices | clearNotices | maskNotices =>
    exact hs.of_chan (perform_chan_of_none s rfl)
  | channelReport n => exact onChannel_induction (P := SubtitlesLawful) hs fun _ _ => hs
  | loadShow n items =>
    simp only [perform]
    obtain h | ⟨c, -, -, h⟩ := doLoadShow_cases n items s
    · rwa [h]
    · rw [h]
      exact hs.of_other (ch := c) (by cases c <;> rfl) (by cases c; exacts [hs .a, hs .b])
  | clearShow n =>
    simp only [perform]
    obtain h | ⟨c, -, h⟩ := doClearShow_cases n s
    · rwa [h]
    · rw [h]
      exact hs.of_other (ch := c) (by cases c <;> rfl) (by cases c; exacts [hs .a, hs .b])
  | setRoute n lanes =>
    simp only [perform, doSetRoute]
    split
    · exact hs
    · refine onChannel_induction (P := SubtitlesLawful) hs fun c _ => ?_
      split
      · exact hs
      · exact hset rfl
  | configureChannel =>
    refine onChannel_induction (P := SubtitlesLawful) hs fun c _ => ?_
    iterate 2 (split; · exact hs)
    exact hset rfl
  | setTracks | setStyle | setSubtitleOffset =>
    refine onChannel_induction (P := SubtitlesLawful) hs fun c _ => ?_
    split
    · exact hs
    · exact hs.of_modChan (hs c)
  | start | acknowledgeSuspension =>
    refine onChannel_induction (P := SubtitlesLawful) hs fun c _ => ?_
    split
    · exact hset rfl
    · exact hs
  | pause =>
    refine onChannel_induction (P := SubtitlesLawful) hs fun c _ => ?_
    split
    iterate 2 · exact hset rfl
    · exact hs
  | resume =>
    refine onChannel_induction (P := SubtitlesLawful) hs fun c _ => ?_
    dsimp only
    split
    · split <;> exact hset rfl
    · iterate 2 (split; · exact hs)
      exact hset rfl
    · exact hs
  | stop n =>
    refine onChannel_induction (P := SubtitlesLawful) hs fun c _ => ?_
    split
    · obtain ⟨lastGood, hchan⟩ := s.stop_chan c
      exact hs.of_beside (s.stop_beside c) (hchan ▸ (hs c).released)
    · exact hs
  | cue n item reel =>
    refine onChannel_induction (P := SubtitlesLawful) hs fun c _ => ?_
    dsimp only
    split
    iterate 2
      · iterate 2 (split; · exact hs)
        refine hs.of_beside (State.cue_beside ..) ?_
        rw [State.cue_chan]
        exact (hs c).released
    · exact hs
  | jump n item reel =>
    refine onChannel_induction (P := SubtitlesLawful) hs fun c _ => ?_
    dsimp only
    iterate 5 (split; · exact hs)
    rename_i hjump
    refine hs.of_beside (State.jump_beside hjump) ?_
    rw [State.jump_subs hjump]
    exact hs c

/-- The ways by which commands reach the schedulers keep their laws. -/
theorem subtitlesLawful_stageInvariant : StageInvariant SubtitlesLawful where
  of_stage hs h := hs.of_chan (State.chan_of_stage h)
  of_reset {s} h ch := by
    have hchan : s.chan ch = Channel.reset := by
      cases ch
      · exact congrArg (·.2.1) h
      · exact congrArg (·.2.2) h
    rw [hchan]
    exact ⟨fun _ => Nat.zero_le 8, rfl, rfl⟩
  perform r _ hs := perform_subtitlesLawful r hs
  arrive ch g s hs := hs.of_beside (s.arrive_beside ch g) (s.arrive_subs ch g ▸ hs ch)
  serve ch s hs := hs.of_beside (s.serve_beside ch) (s.serve_subs ch ▸ hs ch)
  finishSegment hs := State.finishSegment_subtitlesLawful hs
  reachDeadline ch s hs := hs.of_beside (s.reachDeadline_beside ch) (State.reachDeadline_subsLawful (hs ch))
  sampleEdge ch s hs := hs.of_beside (s.sampleEdge_beside ch) (State.sampleEdge_subsLawful (hs ch))

end

/-- Settles O57: the scheduler's own operations keep its laws, before a ninth cue of a track the earliest is cut
(`Subtitles.cutsFor_leave`), and no other operation of the part touches cues or banks. -/
theorem subtitleLawsAreKept : Obligations.SubtitleLawsAreKept := fun _ _ hs h =>
  subtitlesLawful_iff.mp (subtitlesLawful_stageInvariant.step (subtitlesLawful_iff.mpr hs) h)

end Sys2Proof.Machine

/-! ## The settings of subtitles and route (R157 to R159, R169) -/

namespace Sys2Proof.Machine

/-- A set of tracks with the members of a mask replaced (R158). -/
theorem getLsbD_masked (old : BitVec 4) (value mask : Byte) {t : Nat} (ht : t < 4) :
    ((old &&& ~~~(mask.setWidth 4)) ||| (value.setWidth 4 &&& mask.setWidth 4)).getLsbD t =
      if mask.getLsbD t then value.getLsbD t else old.getLsbD t := by
  cases hm : mask.getLsbD t <;> simp [ht, hm]

theorem Subtitles.styleOf_of_getElem {x : Subtitles} {n : Nat} {old : Style} (hn : n ≤ 15)
    (h : x.styles[n]? = some old) : x.styleOf n = old := by
  simp [Subtitles.styleOf, hn, List.getD_eq_getElem?_getD, h]

/-- A lane entry in the range of R169. -/
theorem LaneEntry.ok_of_range {e : LaneEntry} (hsource : e.source.toNat ≤ 15 ∨ e.source = 255)
    (hgain : e.gain.toNat ≤ 120 ∨ e.gain = 255) : LaneEntry.ok e = true := by
  simpa [LaneEntry.ok] using And.intro hsource hgain

/-- Settles O25: each request passes its range check and stores its one setting. -/
theorem settingsAreStored : Obligations.SettingsAreStored := by
  intro s tag ch ht
  refine ⟨fun value mask hvalue hmask => ⟨_, fun t => getLsbD_masked (s.chan ch).subs.enabled value mask, ?_⟩,
    fun style handle minimum hstyle hminimum old hold => ?_, fun track offset htrack => ?_,
    fun lanes hlength hrange => ⟨_, rfl, ?_⟩⟩
  · have hok : ¬(15 < value.toNat ∨ 15 < mask.toNat) := by omega
    rw [exec_of_takes ht rfl]
    simp only [perform, doSetTracks, onChannel_number, if_neg hok]
    rfl
  · have hok : ¬(15 < style.toNat ∨ 48 < minimum.toNat) := by omega
    rw [exec_of_takes ht rfl]
    simp only [perform, doSetStyle, onChannel_number, if_neg hok, Subtitles.styleOf_of_getElem hstyle hold]
    rfl
  · rw [exec_of_takes ht rfl]
    simp only [perform, doSetSubtitleOffset, onChannel_number, if_neg (Nat.not_lt.mpr htrack)]
    rfl
  · have hok : lanes.all LaneEntry.ok = true :=
      List.all_eq_true.mpr fun e he => LaneEntry.ok_of_range (hrange e he).1 (hrange e he).2
    rw [exec_of_takes ht rfl]
    simp only [perform, doSetRoute, onChannel_number, hlength, hok, ne_eq, not_true_eq_false, Bool.not_true,
      Bool.false_eq_true, if_false]
    rfl

end Sys2Proof.Machine

/-! ## Contexts, banks and frames presented (R140, R152, R154, R156, R160, R164) -/

namespace Sys2Proof.Machine

/-! ### RESOURCE (R156) -/

@[simp] theorem Subtitles.bank_setBank (x : Subtitles) (n : Nat) (m : List Host.Cell) :
    (x.setBank n m).bank n = m := by
  by_cases h : n = 0 <;> simp [Subtitles.setBank, Subtitles.bank, h]

section
variable {x : Subtitles} {comp : Composition} {item reel offset : Nat} {plain : List Byte} {c : Context}

/-- An item and reel that have their context need no new one (R154, step 2). -/
theorem Subtitles.openContext_of_unmarked (h : x.unmarked item reel = some c) :
    x.openContext item reel = ⟨x, [], []⟩ := by
  simp [Subtitles.openContext, h]

variable (htracks : comp.tracks ≠ []) (h : x.unmarked item reel = some c)
include htracks h

theorem Subtitles.takeResource_of_le (hroom : offset + plain.length ≤ Config.bankBytes) :
    x.takeResource comp item reel offset plain =
      ⟨x.setBank c.bank (Memory.writeAll (x.bank c.bank) offset plain), [], []⟩ := by
  simp [Subtitles.takeResource, htracks, Subtitles.openContext_of_unmarked h, h, Nat.not_lt.mpr hroom]

theorem Subtitles.takeResource_of_lt (hover : Config.bankBytes < offset + plain.length) :
    x.takeResource comp item reel offset plain = ⟨x, [], [resourceFault .resourceRange item reel]⟩ := by
  simp [Subtitles.takeResource, htracks, Subtitles.openContext_of_unmarked h, h, hover]

end

/-! ### The PENDING cues of the matching context (R161) -/

section
variable {x : Subtitles} (ch : ChannelId) (comp : Composition) {item reel p : Nat} {c : Context} {q : Cue}
  (hm : x.matching item reel = some c) (hc : q.context = c.serial) (ht : q.track ≤ 3)
include hm hc ht

/-- How many copies of a PENDING cue a schedule leaves: all while it waits, and otherwise none. -/
theorem Subtitles.count_schedule : (x.schedule ch comp item reel p).subs.pendingCues.count q =
    if x.waits comp c p q then x.pendingCues.count q else 0 := by
  rw [x.schedule_of_matching ch comp p hm, foldl_stepPending_pendingCues, List.count_diff,
    (x.clearWhere_shows ch _).waits]
  cases h : x.waits comp c p q with
  | true =>
    have hnone : ((x.dueOrder c).filter (fun q => !x.waits comp c p q)).count q = 0 :=
      List.count_eq_zero.mpr (by simp [h])
    rw [hnone]
    rfl
  | false =>
    rw [List.count_filter (by simp [h]), Subtitles.count_dueOrder hc ht]
    exact Nat.sub_self _

theorem Subtitles.notMem_schedule (h : x.waits comp c p q = false) :
    q ∉ (x.schedule ch comp item reel p).subs.pendingCues :=
  List.count_eq_zero.mp (by rw [Subtitles.count_schedule ch comp hm hc ht, h]; rfl)

variable (hq : q ∈ x.pendingCues)
include hq

theorem Subtitles.mem_schedule (h : x.waits comp c p q = true) :
    q ∈ (x.schedule ch comp item reel p).subs.pendingCues := by
  refine List.count_pos_iff.mp ?_
  rw [Subtitles.count_schedule ch comp hm hc ht, h]
  exact List.count_pos_iff.mpr hq

/-- What the deadline makes of a PENDING cue, under the settings of the scheduler that it found, is in its
result. -/
theorem Subtitles.schedule_turn : ∃ z : SubsResult, x.Shows z.subs ∧
    (stepPending ch comp c p z q).Grows (x.schedule ch comp item reel p) := by
  obtain ⟨z, hz, hturn⟩ := foldl_stepPending_turn ch comp c p (x.clearWhere ch (fun q => q.eo ≤ p))
    (Subtitles.mem_dueOrder.mpr ⟨hq, hc, ht⟩)
  exact ⟨z, (x.clearWhere_shows ch _).trans hz.subs, x.schedule_of_matching ch comp p hm ▸ hturn⟩

theorem Subtitles.schedule_of_beyondReel (h : x.intervalOf comp c q = .beyondReel) :
    q ∉ (x.schedule ch comp item reel p).subs.pendingCues ∧
      q.fault .beyondReel c.item c.reel ∈ (x.schedule ch comp item reel p).drops := by
  obtain ⟨z, hz, hturn⟩ := Subtitles.schedule_turn ch comp (p := p) hm hc ht hq
  refine ⟨Subtitles.notMem_schedule ch comp hm hc ht (by simp only [Subtitles.waits, h]), hturn.drops ?_⟩
  rw [stepPending_of_beyondReel ch ((hz.intervalOf comp c q).trans h)]
  simp

variable {ei eo : Nat} {stretched : Bool} (h : x.intervalOf comp c q = .span ei eo stretched)
include h

theorem Subtitles.schedule_of_missed (hp : eo ≤ p) :
    q ∉ (x.schedule ch comp item reel p).subs.pendingCues ∧
      q.fault .missed c.item c.reel ∈ (x.schedule ch comp item reel p).drops := by
  have hlt := Subtitles.intervalOf_lt h
  obtain ⟨z, hz, hturn⟩ := Subtitles.schedule_turn ch comp (p := p) hm hc ht hq
  refine ⟨Subtitles.notMem_schedule ch comp hm hc ht (by simp [Subtitles.waits, h]; omega), hturn.drops ?_⟩
  rw [stepPending_of_missed ch ((hz.intervalOf comp c q).trans h) hp]
  simp

theorem Subtitles.schedule_of_early (hp : p < ei) : q ∈ (x.schedule ch comp item reel p).subs.pendingCues :=
  Subtitles.mem_schedule ch comp hm hc ht hq (by simp [Subtitles.waits, h, hp])

theorem Subtitles.schedule_of_due (hei : ei ≤ p) (heo : p < eo) :
    q ∉ (x.schedule ch comp item reel p).subs.pendingCues ∧
      showEvent x ch comp c q ei eo p ∈ (x.schedule ch comp item reel p).events := by
  obtain ⟨z, hz, hturn⟩ := Subtitles.schedule_turn ch comp (p := p) hm hc ht hq
  refine ⟨Subtitles.notMem_schedule ch comp hm hc ht (by simp [Subtitles.waits, h, hei]), hturn.events ?_⟩
  rw [stepPending_of_due ch ((hz.intervalOf comp c q).trans h) hei heo]
  simp [SubsResult.showCue, hz.showEvent]

end

/-! ### A target's first frame, and a new reel (R140, R160, R164) -/

section
variable (x : Subtitles) (ch : ChannelId) (comp : Composition) (previous : Option (Nat × Nat)) (pos : Position)

theorem Subtitles.reachTarget_contexts :
    (x.reachTarget ch).subs.jumpMark = false ∧ ∀ c ∈ (x.reachTarget ch).subs.contexts, c.left = false := by
  simp only [Subtitles.reachTarget, Subtitles.foldl_release]
  refine ⟨trivial, fun c hc => Bool.eq_false_iff.mpr fun hleft => ?_⟩
  simp only [List.mem_filter, List.all_eq_true, decide_eq_true_eq] at hc
  exact hc.2 c ⟨hc.1, hleft⟩ rfl

/-- The frame's schedule keeps contexts and jump mark of what the target's arrival or the reel's end left. -/
theorem Subtitles.present_eq (target : Bool) : ∃ z : SubsResult,
    z = (if target then x.reachTarget ch else x.endReel ch previous pos.item pos.reel) ∧
    x.present ch comp previous pos target = ⟨{ (z.subs.schedule ch comp pos.item pos.reel pos.frame).subs with
      served := (z.subs.matching pos.item pos.reel).map (·.serial) },
      z.events ++ (z.subs.schedule ch comp pos.item pos.reel pos.frame).events,
      z.drops ++ (z.subs.schedule ch comp pos.item pos.reel pos.frame).drops⟩ :=
  ⟨_, rfl, rfl⟩

/-- The matching context of a presented frame is remembered (R154, R160). -/
theorem Subtitles.present_served (target : Bool) : (x.present ch comp previous pos target).subs.served =
    ((x.present ch comp previous pos target).subs.matching pos.item pos.reel).map (·.serial) := by
  obtain ⟨z, -, h⟩ := x.present_eq ch comp previous pos target
  rw [h, ← (z.subs.schedule_shows ch comp pos.item pos.reel pos.frame).matching]
  rfl

theorem Subtitles.present_target_contexts : (x.present ch comp previous pos true).subs.jumpMark = false ∧
    ∀ c ∈ (x.present ch comp previous pos true).subs.contexts, c.left = false := by
  obtain ⟨hmark, hcontexts⟩ := x.reachTarget_contexts ch
  obtain ⟨z, rfl, h⟩ := x.present_eq ch comp previous pos true
  have hshows := (x.reachTarget ch).subs.schedule_shows ch comp pos.item pos.reel pos.frame
  rw [h]
  exact ⟨hshows.jumpMark.trans hmark, fun c hc => hcontexts c (hshows.contexts ▸ hc)⟩

variable {x} in
theorem Subtitles.present_target_events {q : ShownCue} (hq : q ∈ x.shown) (ht : q.cue.track ≤ 3) :
    .clear ch q.cue.track q.cue.number false ∈ (x.present ch comp previous pos true).events :=
  List.mem_append_left _ (Subtitles.clearWhere_events ch hq rfl ht)

end

section
variable {x : Subtitles} (ch : ChannelId) (comp : Composition) {p : Nat × Nat} {pos : Position} {c : Context}
  (hp : p ≠ (pos.item, pos.reel)) (hc : x.servedContext = some c)
include hp hc

/-- A new reel ends the context that served the previous frame (R160). -/
theorem Subtitles.endReel_of_served : x.endReel ch (some p) pos.item pos.reel =
    ⟨(x.clearWhere ch (fun q => q.cue.context = c.serial)).subs.release c,
      (x.clearWhere ch (fun q => q.cue.context = c.serial)).events, x.lostCues c .missed⟩ := by
  have hne : ¬(p.1 = pos.item ∧ p.2 = pos.reel) := fun h => hp (Prod.ext h.1 h.2)
  simp only [Subtitles.endReel, if_neg hne, hc]

/-- The context that ends leaves no cue behind, and none of its cues goes unsaid. -/
theorem Subtitles.present_newReel {y : Subtitles} {events : List PortEvent} {drops : List DropFault}
    (h : x.present ch comp (some p) pos false = ⟨y, events, drops⟩) :
    (∀ k ∈ y.contexts, k.serial ≠ c.serial) ∧ (∀ q ∈ y.shown, q.cue.context ≠ c.serial) ∧
      (∀ q ∈ y.pendingCues, q.context ≠ c.serial) ∧
      (∀ q ∈ x.shown, q.cue.context = c.serial → q.cue.track ≤ 3 →
        PortEvent.clear ch q.cue.track q.cue.number false ∈ events) ∧
      ∀ q ∈ x.pendingCues, q.context = c.serial → q.fault .missed c.item c.reel ∈ drops := by
  obtain ⟨z, hz, heq⟩ := x.present_eq ch comp (some p) pos false
  have hended := hz.trans (Subtitles.endReel_of_served ch hp hc)
  have hcontexts : ∀ k ∈ z.subs.contexts, k.serial ≠ c.serial := by
    rw [hended]
    exact fun k hk => of_decide_eq_true (List.mem_filter.mp hk).2
  obtain ⟨rfl, rfl, rfl⟩ := SubsResult.mk.inj (h.symm.trans heq)
  have hshows := z.subs.schedule_shows ch comp pos.item pos.reel pos.frame
  refine ⟨fun k hk => hcontexts k (hshows.contexts ▸ hk), fun q hq => ?_, fun q hq => ?_, fun q hq hqc ht => ?_,
    fun q hq hqc => ?_⟩
  · obtain ⟨-, hold | ⟨k, hk, hqk⟩⟩ := Subtitles.schedule_shown ch comp pos.frame hq
    · rw [hended] at hold
      exact of_decide_eq_true (List.mem_filter.mp hold).2
    · rw [hqk]
      exact hcontexts k (List.mem_reverse.mp (List.mem_of_find?_eq_some hk))
  · have hold := Subtitles.schedule_pendingCues ch comp pos.frame hq
    rw [hended] at hold
    exact of_decide_eq_true (List.mem_filter.mp hold).2
  · refine List.mem_append_left _ ?_
    rw [hended]
    exact Subtitles.clearWhere_events ch hq (decide_eq_true hqc) ht
  · refine List.mem_append_left _ ?_
    rw [hended]
    exact List.mem_map.mpr ⟨q, List.mem_filter.mpr ⟨hq, decide_eq_true hqc⟩, rfl⟩

end

/-! ### The context of a hand-off (R154) -/

section
variable {x : Subtitles} {item reel : Nat} (h : x.unmarked item reel = none)
include h

/-- A new context on a free bank, the bank of the turn when both are free (R154, step 3). -/
theorem Subtitles.openContext_of_free {bank turn : Nat}
    (hfree : x.bankFree 0 = true ∧ x.bankFree 1 = true ∧ bank = x.turn ∧ turn = otherBank x.turn ∨
      x.bankFree 0 = true ∧ x.bankFree 1 = false ∧ bank = 0 ∧ turn = 1 ∨
      x.bankFree 0 = false ∧ x.bankFree 1 = true ∧ bank = 1 ∧ turn = 0) :
    x.openContext item reel = ⟨x.create item reel bank turn, [], []⟩ := by
  obtain ⟨h0, h1, rfl, rfl⟩ | ⟨h0, h1, rfl, rfl⟩ | ⟨h0, h1, rfl, rfl⟩ := hfree <;>
    simp [Subtitles.openContext, h, h0, h1]

variable (h0 : x.bankFree 0 = false) (h1 : x.bankFree 1 = false)
include h0 h1

theorem Subtitles.openContext_of_takeable {c : Context} (hc : x.takeable = some c) :
    x.openContext item reel =
      ⟨(x.release c).create item reel c.bank x.turn, [], x.lostCues c .bankBusy⟩ := by
  simp [Subtitles.openContext, h, h0, h1, hc]

theorem Subtitles.openContext_of_none (hc : x.takeable = none) : x.openContext item reel = ⟨x, [], []⟩ := by
  simp [Subtitles.openContext, h, h0, h1, hc]

end

section
variable {x : Subtitles} {free : Context → Prop} (hfree : ∀ c, free c ↔ c.left = true ∧
  (∀ q ∈ x.shown, q.cue.context ≠ c.serial) ∧ x.served ≠ some c.serial)
include hfree

/-- The context taken is the oldest that may be (R154, step 4). -/
theorem Subtitles.takeable_of_oldest {c : Context} {older younger : List Context}
    (hx : x.contexts = older ++ c :: younger) (holder : ∀ k ∈ older, ¬free k) (hc : free c) :
    x.takeable = some c := by
  refine List.find?_eq_some_iff_append.mpr ⟨?_, older, younger, hx, fun k hk => ?_⟩
  · obtain ⟨hleft, hshown, hserved⟩ := (hfree c).mp hc
    simpa [hleft, hserved] using hshown
  · have hnot := (hfree k).not.mp (holder k hk)
    simp only [Bool.not_eq_true', Bool.eq_false_iff, ne_eq, Bool.and_eq_true, decide_eq_true_eq,
      List.all_eq_true]
    exact fun ⟨⟨hleft, hserved⟩, hshown⟩ => hnot ⟨hleft, hshown, hserved⟩

theorem Subtitles.takeable_of_none (hx : ∀ c ∈ x.contexts, ¬free c) : x.takeable = none := by
  refine List.find?_eq_none.mpr fun c hc hp => hx c hc ((hfree c).mpr ?_)
  simp only [Bool.and_eq_true, decide_eq_true_eq, List.all_eq_true] at hp
  exact ⟨hp.1.1, hp.2, hp.1.2⟩

end

/-- The context that step 4 takes has no SHOWN cue, and its release leaves those of the others. -/
theorem Subtitles.release_of_takeable {x : Subtitles} {c : Context} (h : x.takeable = some c) :
    x.release c = { x with
      contexts := x.contexts.filter (fun k => k.serial ≠ c.serial)
      pendingCues := x.pendingCues.filter (fun q => q.context ≠ c.serial) } := by
  obtain ⟨-, -, -, hshown⟩ := Subtitles.of_takeable h
  have hkept : x.shown.filter (fun q => q.cue.context ≠ c.serial) = x.shown :=
    List.filter_eq_self.mpr fun q hq => decide_eq_true (hshown q hq)
  simp only [Subtitles.release, hkept]

end Sys2Proof.Machine

/-! ## CUES records stored or dropped (R153 to R155) -/

namespace Sys2Proof.Machine

/-! ### The records of a plaintext (R153) -/

theorem length_cueRecords (plain : List Byte) : (cueRecords plain).length = plain.length / 28 := by
  simp [cueRecords, entriesAt]

theorem exists_of_mem_cueRecords {plain : List Byte} {r : CueRecord} (h : r ∈ cueRecords plain) :
    ∃ n < plain.length / 28, r = readCueRecord ((plain.drop (28 * n)).take 28) := by
  obtain ⟨n, hn, rfl⟩ := List.mem_map.mp h
  exact ⟨n, List.mem_range.mp hn, by rw [Nat.zero_add]⟩

theorem length_trailingFault (plain : List Byte) (item reel : Nat) :
    (trailingFault plain item reel).length = if plain.length % 28 = 0 then 0 else 1 := by
  have hlength : (trailingBytes plain).length = plain.length % 28 := by
    rw [trailingBytes, List.length_drop]
    omega
  unfold trailingFault
  rw [← hlength]
  cases trailingBytes plain <;> rfl

theorem reason_of_mem_trailingFault {plain : List Byte} {item reel : Nat} {d : DropFault}
    (h : d ∈ trailingFault plain item reel) : d.reason = .malformed := by
  unfold trailingFault at h
  split at h
  · cases h
  · rw [List.mem_singleton.mp h]

/-- A plaintext of one record. -/
theorem cueRecords_of_length {plain : List Byte} (h : plain.length = 28) (item reel : Nat) :
    cueRecords plain = [readCueRecord plain] ∧ trailingFault plain item reel = [] := by
  constructor
  · have hwhole : plain.take 28 = plain := List.take_of_length_le h.le
    simp [cueRecords, entriesAt, h, hwhole]
  · exact List.length_eq_zero_iff.mp (by rw [length_trailingFault, h]; rfl)

theorem Subtitles.takeCues_eq {comp : Composition} (htracks : comp.tracks ≠ []) (x : Subtitles)
    (item reel : Nat) (plain : List Byte) : x.takeCues comp item reel plain =
      { (cueRecords plain).foldl (takeCue comp item reel) (x.openContext item reel) with
        drops := ((cueRecords plain).foldl (takeCue comp item reel) (x.openContext item reel)).drops ++
          trailingFault plain item reel } := by
  simp [Subtitles.takeCues, htracks]

/-! ### The checks of a record (R155) -/

section
variable {x : Subtitles} {c : Context} {comp : Composition} {r : CueRecord}

theorem judgeCue_of_malformed (h : r.number = 0 ∨ 3 < r.region.toNat) :
    judgeCue x c comp r = some .malformed := if_pos h

section
variable (hform : ¬(r.number = 0 ∨ 3 < r.region.toNat))
include hform

theorem judgeCue_of_track (h : comp.tracks.length ≤ r.track.toNat) :
    judgeCue x c comp r = some .track := by
  simp only [judgeCue, if_neg hform, if_pos h]

variable (htrack : r.track.toNat < comp.tracks.length)
include htrack

theorem judgeCue_of_disabled (h : x.enabled.getLsbD r.track.toNat = false) :
    judgeCue x c comp r = some .disabled := by
  simp only [judgeCue, if_neg hform, if_neg (Nat.not_le.mpr htrack), h, Bool.not_false, if_true]

variable (henabled : x.enabled.getLsbD r.track.toNat = true)
include henabled

theorem judgeCue_of_beyondReel
    (h : comp.duration c.reel ≤ frameOfTick r.tickIn comp.rate (trackRate comp r.track.toNat)) :
    judgeCue x c comp r = some .beyondReel := by
  simp only [judgeCue, if_neg hform, if_neg (Nat.not_le.mpr htrack), henabled, Bool.not_true,
    Bool.false_eq_true, if_false, if_pos h]

variable (hstart : frameOfTick r.tickIn comp.rate (trackRate comp r.track.toNat) < comp.duration c.reel)
include hstart

theorem judgeCue_of_badReference (h : Config.bankBytes < r.contentOffset + r.contentLength) :
    judgeCue x c comp r = some .badReference := by
  simp only [judgeCue, if_neg hform, if_neg (Nat.not_le.mpr htrack), henabled, Bool.not_true,
    Bool.false_eq_true, if_false, if_neg (Nat.not_le.mpr hstart), if_pos h]

variable (hcontent : r.contentOffset + r.contentLength ≤ Config.bankBytes)
include hcontent

theorem judgeCue_of_order {k : Nat} (hlast : c.lastTick[r.track.toNat]? = some (some k)) (h : r.tickIn < k) :
    judgeCue x c comp r = some .order := by
  simp only [judgeCue, if_neg hform, if_neg (Nat.not_le.mpr htrack), henabled, Bool.not_true,
    Bool.false_eq_true, if_false, if_neg (Nat.not_le.mpr hstart), if_neg (Nat.not_lt.mpr hcontent), hlast,
    Option.join_some, Option.any_some, decide_eq_true h, if_true]

/-- With the order kept the room in the store decides. -/
theorem judgeCue_of_ordered (hlast : ∀ k, c.lastTick[r.track.toNat]? = some (some k) → k ≤ r.tickIn) :
    judgeCue x c comp r =
      if 1024 ≤ x.pendingCues.length + x.shown.length then some .storeFull else none := by
  have hordered : ((c.lastTick[r.track.toNat]?).join).any (fun last => r.tickIn < last) = false := by
    match h : c.lastTick[r.track.toNat]? with
    | none => rfl
    | some none => rfl
    | some (some k) => simpa using hlast k h
  simp only [judgeCue, if_neg hform, if_neg (Nat.not_le.mpr htrack), henabled, Bool.not_true,
    Bool.false_eq_true, if_false, if_neg (Nat.not_le.mpr hstart), if_neg (Nat.not_lt.mpr hcontent), hordered]

end

/-- A record that passes every check of R155 but those of order and room. -/
structure CueRecord.Passes (r : CueRecord) (enabled : BitVec 4) (comp : Composition) (reel : Nat) : Prop where
  number : r.number ≠ 0
  region : r.region.toNat ≤ 3
  track : r.track.toNat < comp.tracks.length
  enabled : enabled.getLsbD r.track.toNat = true
  start : frameOfTick r.tickIn comp.rate (trackRate comp r.track.toNat) < comp.duration reel
  content : r.contentOffset + r.contentLength ≤ Config.bankBytes

theorem passes_of_judgeCue (h : judgeCue x c comp r = none) :
    r.Passes x.enabled comp c.reel ∧ x.pendingCues.length + x.shown.length < 1024 := by
  simp only [judgeCue] at h
  split at h
  · cases h
  · rename_i hform
    obtain ⟨hnumber, hregion⟩ := not_or.mp hform
    iterate 6 (split at h; · cases h)
    exact ⟨⟨hnumber, by omega, by omega, by simp_all, by omega, by omega⟩, by omega⟩

end

/-! ### A plaintext's records one after another (R155) -/

/-- What of a context the cues it takes do not change. -/
def Context.face (k : Context) : Nat × Nat × Nat × Nat × Bool := (k.serial, k.item, k.reel, k.bank, k.left)

theorem Context.face_inj {k c : Context} (h : k.face = c.face) :
    k.serial = c.serial ∧ k.item = c.item ∧ k.reel = c.reel ∧ k.bank = c.bank ∧ k.left = c.left := by
  simpa [Context.face] using h

/-- The unmarked context of an item and reel is found by its face. -/
theorem Subtitles.unmarked_face (x : Subtitles) (item reel : Nat) : (x.unmarked item reel).map Context.face =
    (x.contexts.map Context.face).find? (fun f => !f.2.2.2.2 && (f.2.1 = item && f.2.2.1 = reel)) := by
  rw [List.find?_map]
  rfl

theorem Subtitles.unmarked_of_faces {x y : Subtitles} {item reel : Nat} {c : Context}
    (h : y.contexts.map Context.face = x.contexts.map Context.face) (hc : x.unmarked item reel = some c) :
    ∃ k, y.unmarked item reel = some k ∧ k.face = c.face :=
  Option.map_eq_some_iff.mp (by rw [y.unmarked_face, h, ← x.unmarked_face, hc]; rfl)

/-- The cue that a record stores depends on its context's name and reel alone. -/
theorem CueRecord.cue_of_face {k c : Context} (h : k.face = c.face) (r : CueRecord) (comp : Composition) :
    r.cue k comp = r.cue c comp := by
  obtain ⟨hserial, -, hreel, -⟩ := Context.face_inj h
  simp only [CueRecord.cue, hserial, hreel]

/-- What the records `rs`, handed to the context `c`, make of `x`: each is stored at the end of the store or
dropped, in order, and the store does not outgrow its 1 024 cues. -/
def SubsResult.Takes (comp : Composition) (c : Context) (rs : List CueRecord) (x y : SubsResult) : Prop :=
  ∃ (stored : List Cue) (faults : List DropFault),
    y.subs = { x.subs with
      pendingCues := x.subs.pendingCues ++ stored, contexts := y.subs.contexts } ∧
    y.subs.contexts.map Context.face = x.subs.contexts.map Context.face ∧
    y.drops = x.drops ++ faults ∧ stored.length + faults.length = rs.length ∧
    (x.subs.pendingCues.length + x.subs.shown.length ≤ 1024 →
      y.subs.pendingCues.length + y.subs.shown.length ≤ 1024) ∧
    ∀ q ∈ stored, ∃ r ∈ rs, q = r.cue c comp ∧ r.Passes x.subs.enabled comp c.reel

section
variable {comp : Composition} {item reel : Nat} {c k : Context} {x y z : SubsResult} {rs rs' : List CueRecord}

theorem SubsResult.Takes.refl (x : SubsResult) : x.Takes comp c [] x :=
  ⟨[], [], by simp, rfl, by simp, rfl, id, nofun⟩

theorem SubsResult.Takes.trans (h : x.Takes comp c rs y) (h' : y.Takes comp c rs' z) :
    x.Takes comp c (rs ++ rs') z := by
  obtain ⟨stored, faults, hsubs, hfaces, hdrops, hlength, hroom, hstored⟩ := h
  obtain ⟨stored', faults', hsubs', hfaces', hdrops', hlength', hroom', hstored'⟩ := h'
  have henabled : y.subs.enabled = x.subs.enabled := (congrArg Subtitles.enabled hsubs :)
  refine ⟨stored ++ stored', faults ++ faults', ?_, hfaces'.trans hfaces, ?_, ?_, hroom' ∘ hroom, ?_⟩
  · rw [hsubs'.trans (by rw [hsubs]), List.append_assoc]
  · rw [hdrops', hdrops, List.append_assoc]
  · simp only [List.length_append]
    omega
  · intro q hq
    obtain hq | hq := List.mem_append.mp hq
    · obtain ⟨r, hr, hcue⟩ := hstored q hq
      exact ⟨r, List.mem_append_left _ hr, hcue⟩
    · obtain ⟨r, hr, hcue⟩ := hstored' q hq
      exact ⟨r, List.mem_append_right _ hr, henabled ▸ hcue⟩

/-- One record, handed to the context (R155). -/
theorem takeCue_takes (hk : x.subs.unmarked item reel = some k) (hface : k.face = c.face) (r : CueRecord) :
    x.Takes comp c [r] (takeCue comp item reel x r) := by
  obtain ⟨reason, h⟩ | ⟨k', hk', hjudged, h⟩ := takeCue_cases comp item reel x r
  · rw [h]
    exact ⟨[], [r.fault reason item reel], by simp, rfl, rfl, rfl, id, nofun⟩
  · obtain rfl : k' = k := Option.some.inj (hk'.symm.trans hk)
    obtain ⟨hpasses, hroom⟩ := passes_of_judgeCue hjudged
    obtain ⟨-, -, hreel, -⟩ := Context.face_inj hface
    rw [h]
    refine ⟨[r.cue k' comp], [], rfl, ?_, (List.append_nil _).symm, rfl, fun _ => ?_, fun q hq => ?_⟩
    · rw [List.map_map]
      refine List.map_congr_left fun m _ => ?_
      simp only [Function.comp]
      split <;> rfl
    · simp only [List.length_append, List.length_singleton]
      omega
    · rw [List.mem_singleton.mp hq]
      exact ⟨r, List.mem_singleton.mpr rfl, CueRecord.cue_of_face hface r comp, hreel ▸ hpasses⟩

/-- All records of a plaintext, handed to the context. -/
theorem foldl_takeCue_takes (hk : x.subs.unmarked item reel = some k) (hface : k.face = c.face)
    (rs : List CueRecord) : x.Takes comp c rs (rs.foldl (takeCue comp item reel) x) := by
  induction rs generalizing x k with
  | nil => exact .refl x
  | cons r rest ih =>
    have hfirst := takeCue_takes (comp := comp) hk hface r
    obtain ⟨-, -, -, hfaces, -⟩ := id hfirst
    obtain ⟨k', hk', hface'⟩ := Subtitles.unmarked_of_faces hfaces hk
    exact hfirst.trans (ih hk' (hface'.trans hface))

/-- Without a context every record is dropped BANK-BUSY (R154, step 5). -/
theorem foldl_takeCue_of_none (h : x.subs.unmarked item reel = none) (rs : List CueRecord) :
    rs.foldl (takeCue comp item reel) x =
      { x with drops := x.drops ++ rs.map (fun r => r.fault .bankBusy item reel) } := by
  induction rs generalizing x with
  | nil => simp
  | cons r rest ih =>
    have hfirst : takeCue comp item reel x r = { x with drops := x.drops ++ [r.fault .bankBusy item reel] } := by
      simp only [takeCue, h]
    rw [List.foldl_cons, hfirst]
    refine (ih ?_).trans ?_
    · exact h
    · simp

end

/-! ### A plaintext of one record -/

section
variable {x : Subtitles} {comp : Composition} {item reel : Nat} {plain : List Byte} {c : Context}
  {r : CueRecord} (htracks : comp.tracks ≠ []) (hc : x.unmarked item reel = some c)
  (hlength : plain.length = 28) (hr : r = readCueRecord plain)
include htracks hc hlength hr

theorem Subtitles.takeCues_of_single :
    x.takeCues comp item reel plain = takeCue comp item reel ⟨x, [], []⟩ r := by
  obtain ⟨hrecords, htrailing⟩ := cueRecords_of_length hlength item reel
  rw [Subtitles.takeCues_eq htracks, Subtitles.openContext_of_unmarked hc, hrecords, htrailing, hr]
  simp

theorem Subtitles.takeCues_of_dropped {reason : DropReason} (h : judgeCue x c comp r = some reason) :
    x.takeCues comp item reel plain = ⟨x, [], [r.fault reason item reel]⟩ := by
  rw [Subtitles.takeCues_of_single htracks hc hlength hr]
  simp [takeCue, hc, h]

theorem Subtitles.takeCues_of_stored (h : judgeCue x c comp r = none) :
    x.takeCues comp item reel plain = ⟨{ x with
      pendingCues := x.pendingCues ++ [r.cue c comp]
      contexts := x.contexts.map (fun k =>
        if k.serial = c.serial then { k with lastTick := k.lastTick.set r.track.toNat (some r.tickIn) }
        else k) }, [], []⟩ := by
  rw [Subtitles.takeCues_of_single htracks hc hlength hr]
  simp [takeCue, hc, h]

end

end Sys2Proof.Machine

/-! ## The statement on resources, cues and contexts -/

namespace Sys2Proof.Machine

/-- What a taken CUES plaintext leaves where no context could be made (R154, step 5). -/
theorem Subtitles.takeCues_of_none {x z y : Subtitles} {comp : Composition} {item reel : Nat}
    {plain : List Byte} {ev0 ev : List PortEvent} {drops0 drops : List DropFault} (htracks : comp.tracks ≠ [])
    (hz : x.openContext item reel = ⟨z, ev0, drops0⟩)
    (hy : x.takeCues comp item reel plain = ⟨y, ev, drops⟩) (hnone : z.unmarked item reel = none) :
    y = z ∧ drops = drops0 ++ (cueRecords plain).map (fun r => r.fault .bankBusy item reel) ++
      trailingFault plain item reel := by
  rw [Subtitles.takeCues_eq htracks, hz, foldl_takeCue_of_none hnone] at hy
  obtain ⟨rfl, -, rfl⟩ := SubsResult.mk.inj hy
  exact ⟨rfl, rfl⟩

/-- What a taken CUES plaintext does to the context that it finds or makes (R155). -/
theorem Subtitles.takeCues_takes {x z y : Subtitles} {comp : Composition} {item reel : Nat}
    {plain : List Byte} {c : Context} {ev0 ev : List PortEvent} {drops0 drops : List DropFault}
    (htracks : comp.tracks ≠ []) (hz : x.openContext item reel = ⟨z, ev0, drops0⟩)
    (hy : x.takeCues comp item reel plain = ⟨y, ev, drops⟩) (hc : z.unmarked item reel = some c) :
    ∃ done : SubsResult, SubsResult.Takes comp c (cueRecords plain) ⟨z, ev0, drops0⟩ done ∧ done.subs = y ∧
      drops = done.drops ++ trailingFault plain item reel := by
  rw [Subtitles.takeCues_eq htracks, hz] at hy
  obtain ⟨hsubs, -, hdrops⟩ := SubsResult.mk.inj hy
  exact ⟨_, foldl_takeCue_takes hc rfl _, hsubs, hdrops.symm⟩

/-- Settles O58: a hand-off by the context it finds (`Subtitles.openContext_of_free`,
`Subtitles.openContext_of_takeable`), its bytes as writes of the bank (`Memory.read_writeAll`), its records one by
one (`SubsResult.Takes`), and a deadline by the turn that each PENDING cue has (`Subtitles.schedule_turn`). -/
theorem resourceBytesLandAtTheirOffset : Obligations.ResourceBytesLandAtTheirOffset := by
  refine ⟨⟨?_, ?_, ?_⟩, ?_, ?_, ?_⟩
  · intro x comp item reel offset plain c htracks hc _ hwf
    refine ⟨fun hroom => ?_, fun hover => ?_⟩
    · rw [Subtitles.takeResource_of_le htracks hc hroom]
      refine ⟨rfl, rfl, fun a => ?_, ?_⟩
      · rw [Subtitles.bank_setBank]
        exact Memory.read_writeAll _ _ _ _ hwf
      · rw [Subtitles.bank_setBank]
    · rw [Subtitles.takeResource_of_lt htracks hc hover]
      exact ⟨rfl, rfl⟩
  · intro x y ch comp item reel p c events drops hm hy
    obtain ⟨hsubs, hevents, hdrops⟩ : (x.schedule ch comp item reel p).subs = y ∧
        (x.schedule ch comp item reel p).events = events ∧ (x.schedule ch comp item reel p).drops = drops := by
      rw [hy]
      exact ⟨rfl, rfl, rfl⟩
    subst hsubs hevents hdrops
    refine ⟨fun q hq => (Subtitles.schedule_shown ch comp p hq).1, fun q hq ht heo => ?_, fun q hq hc ht =>
      ⟨Subtitles.schedule_of_beyondReel ch comp hm hc ht hq, fun ei eo stretched h =>
        ⟨Subtitles.schedule_of_missed ch comp hm hc ht hq h, Subtitles.schedule_of_early ch comp hm hc ht hq h,
          Subtitles.schedule_of_due ch comp hm hc ht hq h⟩⟩⟩
    exact (x.schedule_grows ch comp item reel p).events
      (Subtitles.clearWhere_events ch hq (decide_eq_true heo) ht)
  · intro x ch comp previous pos
    obtain ⟨hmark, hcontexts⟩ := x.present_target_contexts ch comp previous pos
    refine ⟨fun q hq ht => Subtitles.present_target_events ch comp previous pos hq ht, hmark, hcontexts, ?_,
      x.present_served ch comp previous pos⟩
    rintro p c y events drops rfl hp hc hy
    exact Subtitles.present_newReel ch comp hp hc hy
  · refine fun x item reel => ⟨fun c hc => Subtitles.openContext_of_unmarked hc,
      fun bank turn hnone hfree => Subtitles.openContext_of_free hnone hfree,
      fun free hnone h0 h1 hfree => ⟨fun c older younger hx holder hc => ?_, fun hx =>
        Subtitles.openContext_of_none hnone h0 h1 (Subtitles.takeable_of_none hfree hx)⟩⟩
    have htake := Subtitles.takeable_of_oldest hfree hx holder hc
    rw [Subtitles.openContext_of_takeable hnone h0 h1 htake, Subtitles.release_of_takeable htake]
    rfl
  · intro x y z comp item reel plain c ev0 ev drops0 drops htracks hz hy
    refine ⟨fun hnone => ?_, fun hc => ?_⟩
    · obtain ⟨rfl, rfl⟩ := Subtitles.takeCues_of_none htracks hz hy hnone
      refine ⟨rfl, fun d hd => ?_, ?_⟩
      · obtain hd | hd := List.mem_append.mp hd
        · refine (List.mem_append.mp hd).imp_right fun hd => ?_
          obtain ⟨r, -, rfl⟩ := List.mem_map.mp hd
          exact .inl rfl
        · exact .inr (.inr (reason_of_mem_trailingFault hd))
      · rw [List.length_append, List.length_append, List.length_map, length_cueRecords, length_trailingFault]
    · obtain ⟨done, ⟨stored, faults, hsubs, hfaces, hdrops, hlength, hroom, hstored⟩, rfl, rfl⟩ :=
        Subtitles.takeCues_takes htracks hz hy hc
      refine ⟨stored, faults ++ trailingFault plain item reel, hsubs, hfaces, ?_, ?_, hroom, fun q hq => ?_⟩
      · rw [hdrops, List.append_assoc]
      · rw [List.length_append, length_trailingFault, ← Nat.add_assoc, hlength, length_cueRecords]
      · obtain ⟨r, hr, rfl, hpasses⟩ := hstored q hq
        obtain ⟨n, hn, hread⟩ := exists_of_mem_cueRecords hr
        exact ⟨n, r, _, hn, hread, rfl, rfl, hpasses.number, hpasses.region, hpasses.track, hpasses.enabled,
          hpasses.start, hpasses.content⟩
  · intro x y comp item reel plain c r t ev drops htracks hc hlength hr ht hy
    subst ht
    have hdrop {reason : DropReason} (h : judgeCue x c comp r = some reason) :
        y = x ∧ drops = [r.fault reason item reel] := by
      rw [Subtitles.takeCues_of_dropped htracks hc hlength hr h] at hy
      obtain ⟨rfl, -, rfl⟩ := SubsResult.mk.inj hy
      exact ⟨rfl, rfl⟩
    refine ⟨fun h => hdrop (judgeCue_of_malformed h), fun hnumber hregion => ?_⟩
    have hform : ¬(r.number = 0 ∨ 3 < r.region.toNat) := not_or.mpr ⟨hnumber, Nat.not_lt.mpr hregion⟩
    refine ⟨fun h => hdrop (judgeCue_of_track hform h), fun htrack =>
      ⟨fun h => hdrop (judgeCue_of_disabled hform htrack h), fun henabled =>
      ⟨fun h => hdrop (judgeCue_of_beyondReel hform htrack henabled h), fun hstart =>
      ⟨fun h => hdrop (judgeCue_of_badReference hform htrack henabled hstart h), fun hcontent =>
      ⟨fun k hlast h => hdrop (judgeCue_of_order hform htrack henabled hstart hcontent hlast h), fun hlast => ?_⟩⟩⟩⟩⟩
    have hjudged := judgeCue_of_ordered hform htrack henabled hstart hcontent hlast
    refine ⟨fun hfull => hdrop (hjudged.trans (if_pos hfull)), fun hroom => ?_⟩
    rw [Subtitles.takeCues_of_stored htracks hc hlength hr
      (hjudged.trans (if_neg (Nat.not_le.mpr hroom)))] at hy
    obtain ⟨rfl, -, rfl⟩ := SubsResult.mk.inj hy
    exact ⟨rfl, ⟨_, rfl⟩, rfl⟩

end Sys2Proof.Machine

/-! ## The acts that a command's meaning is made of (R78 to R92, R179 to R186)

`Act s t`: one part of a command's meaning takes the state from `s` to `t`. Every command is a run of such acts
(`exec_acts`), so a law that each act keeps is kept by every command. Of the link an act says precisely what it
changes. -/

namespace Sys2Proof.Machine

/-- One part of a command's meaning. -/
inductive Act : State → State → Prop where
  /-- The receiver's own state changes (R180). -/
  | receive (s : State) (rx : LinkState) (held : List Byte) (stray : StrayRun) :
    Act s (s.setReceiver rx held stray)
  /-- A frame waits behind the request in execution (R182). -/
  | wait {s : State} (f : CommandFrame) (h : s.link.executing.isSome = true) :
    Act s (s.modLink (fun l => { l with waiting := some f }))
  /-- A BUSY reply or FRAME-FAULT report that finds room waits to be sent (R184). -/
  | send {s : State} (tag kind : Byte) (body : List Byte) (h : s.link.waitingMessages < 16) :
    Act s (s.modLink (fun l =>
      { l with outgoing := l.outgoing ++ [{ isReply := false, tag := tag, kind := kind, body := body }] }))
  /-- LINK-FAULT is raised (R184). -/
  | fault (s : State) (reason : LinkFaultReason) : Act s (s.raiseLinkFault reason)
  /-- A request in execution answers, or begins its unwrap (R182, R78). -/
  | answer (s : State) (tag kind : Byte) (a : Answer) : Act s (s.answer tag kind a)
  /-- A frame of an unknown kind, or an unwrap that has ended, is answered (R183, R78). -/
  | reply (s : State) (tag kind replyKind : Byte) (stage : ExecStage) (body : List Byte) :
    Act s (s.reply tag kind replyKind stage body)
  /-- A message is wholly sent (R184). -/
  | sent (s : State) : Act s s.popOutgoing
  /-- The execution place empties, and the waiting frame, if any, is on its way into it (R182). -/
  | empty (s : State) : Act s (s.modLink (fun l => { l with executing := none, waiting := none }))
  | perform (s : State) (r : Request) : Act s (perform r s).1
  | unwrapped (s : State) (l : LicenceLoad) (results : List (Option Material)) :
    Act s (completeLicence l results s).1
  | startUp (s : State) (kind : ResetKind) : Act s (s.startUp kind)
  | powerDown (s : State) : Act s s.powerDown
  | clockTick (s : State) : Act s s.clockTick
  | takePathByte (s : State) (b : Byte) : Act s (s.takePathByte b)
  | sendNextReturn (s : State) : Act s s.sendNextReturn
  | portSent (s : State) : Act s s.portSent
  | takeSegment (s : State) : Act s s.takeSegment
  | finishSegment (s : State) : Act s s.finishSegment
  | reachDeadline (s : State) (ch : ChannelId) : Act s (s.reachDeadline ch)
  | sampleEdge (s : State) (ch : ChannelId) : Act s (s.sampleEdge ch)

/-- A run of acts. -/
abbrev Acts : State → State → Prop := Relation.ReflTransGen Act

theorem Act.acts {s t : State} (h : Act s t) : Acts s t := .single h

/-- A law that every act keeps is kept by a run of acts. -/
theorem Acts.keep {P : State → Prop} (hP : ∀ {s t : State}, Act s t → P s → P t) {s t : State}
    (h : Acts s t) (hs : P s) : P t := by
  induction h with
  | refl => exact hs
  | tail _ hact ih => exact hP hact ih

section
variable (s : State)

/-! ### Frames and requests -/

theorem State.sendMessage_acts (tag kind : Byte) (body : List Byte) :
    Acts s (s.sendMessage tag kind body) := by
  unfold State.sendMessage
  split
  · exact (Act.send tag kind body ‹_›).acts
  · exact (Act.fault s _).acts

theorem State.linkFault_acts (reason : LinkFaultReason) : Acts s (s.linkFault reason) :=
  (Act.fault s reason).acts.trans (State.sendMessage_acts ..)

theorem enterRequest_acts (tag : Byte) (r : Request) : Acts s (enterRequest tag r s) := by
  simp only [enterRequest]
  split
  · exact (Act.answer ..).acts
  · exact (Act.perform s r).acts.tail (.answer ..)

theorem executeFrame_acts (f : CommandFrame) : Acts s (executeFrame f s) := by
  unfold executeFrame
  split
  · exact (Act.reply ..).acts
  · split
    · exact (Act.answer ..).acts
    · split
      · exact (Act.answer ..).acts
      · exact enterRequest_acts s ..

theorem holdFrame_acts (f : CommandFrame) (h : s.link.executing.isSome = true) :
    Acts s (holdFrame f s) := by
  unfold holdFrame
  split
  · exact (Act.wait f h).acts
  · exact s.sendMessage_acts ..

theorem placeFrame_acts (f : CommandFrame) : Acts s (placeFrame f s) := by
  unfold placeFrame
  split
  · exact executeFrame_acts s f
  · rename_i e he
    exact holdFrame_acts s f (by rw [he]; rfl)

theorem submit_acts (tag : Byte) (r : Request) : Acts s (submit tag r s) := by
  unfold submit
  split
  · exact enterRequest_acts s tag r
  · rename_i e he
    exact holdFrame_acts s _ (by rw [he]; rfl)

/-! ### Bytes and silence -/

theorem State.huntByte_acts (b : Byte) : Acts s (s.huntByte b) := by
  simp only [State.huntByte]
  split
  · split
    · exact (Act.receive ..).acts.trans (State.linkFault_acts ..)
    · exact (Act.receive ..).acts
  · exact (Act.receive ..).acts

theorem State.searchLength_acts (b0 b1 : Byte) : Acts s (s.searchLength b0 b1) := by
  unfold State.searchLength
  split
  · exact (Act.receive ..).acts
  · split <;> exact (Act.receive ..).acts

theorem State.lengthByte_acts (b : Byte) : Acts s (s.lengthByte b) := by
  simp only [State.lengthByte]
  split
  · exact (Act.receive ..).acts
  · split
    · exact (s.linkFault_acts _).trans (State.searchLength_acts ..)
    · exact (Act.receive ..).acts

theorem State.frameByte_acts (b : Byte) : Acts s (s.frameByte b) := by
  simp only [State.frameByte]
  split
  · exact (Act.receive ..).acts
  · split
    · exact (Act.receive ..).acts.trans (placeFrame_acts ..)
    · exact (Act.receive ..).acts.trans (State.linkFault_acts ..)

theorem State.takeLinkByte_acts (b : Byte) : Acts s (s.takeLinkByte b) := by
  unfold State.takeLinkByte
  split
  · exact s.huntByte_acts b
  · exact s.lengthByte_acts b
  · exact s.frameByte_acts b

theorem State.takeLinkBytes_acts (bytes : List Byte) : Acts s (s.takeLinkBytes bytes) :=
  List.foldlRecOn bytes _ .refl fun t ht b _ => ht.trans (t.takeLinkByte_acts b)

theorem State.takePathBytes_acts (bytes : List Byte) : Acts s (s.takePathBytes bytes) :=
  List.foldlRecOn bytes _ .refl fun t ht b _ => ht.tail (.takePathByte t b)

theorem State.linkSilence_acts : Acts s s.linkSilence := by
  unfold State.linkSilence
  split
  iterate 2 · exact (Act.receive ..).acts.trans (State.linkFault_acts ..)
  · split
    · exact (Act.receive ..).acts.trans (State.linkFault_acts ..)
    · exact (Act.receive ..).acts
    all_goals exact .refl

/-! ### Sent messages and the unwrap -/

theorem State.emptyPlace_acts : Acts s s.emptyPlace := by
  unfold State.emptyPlace
  split
  · exact (Act.empty s).acts.trans (executeFrame_acts ..)
  · exact (Act.empty s).acts

theorem State.replySent_acts : Acts s s.replySent := by
  unfold State.replySent
  split
  · split
    · split
      · exact (Act.sent s).acts.trans (State.emptyPlace_acts _)
      · exact (Act.startUp ..).acts
      · exact .refl
    · exact .refl
  · exact .refl

theorem State.messageSent_acts : Acts s s.messageSent := by
  unfold State.messageSent
  split
  · split
    · exact .refl
    · exact (Act.sent s).acts
  · exact .refl

theorem State.unwrapComplete_acts (passes : List Bool) : Acts s (s.unwrapComplete passes) := by
  unfold State.unwrapComplete
  split
  · split
    · exact (Act.unwrapped ..).acts.tail (.reply ..)
    all_goals exact .refl
  · exact .refl

end

/-- Every command is a run of acts. -/
theorem exec_acts (c : Instr) (s : State) : ∃ t, exec c s = .next t ∧ Acts s t := by
  have hwhen {after : State} (h : Acts s after) : ∃ t, whenPowered s after = .next t ∧ Acts s t := by
    refine ⟨_, rfl, ?_⟩
    split
    · exact h
    · exact .refl
  cases hc : requestOf c with
  | some p =>
    rw [exec_of_requestOf s hc]
    exact hwhen (submit_acts s p.1 p.2)
  | none =>
    cases c with
    | commandFrameCompleted bytes | frameFault bytes | syncFound bytes =>
      exact hwhen (s.takeLinkBytes_acts bytes)
    | segmentHeader bytes | segmentArrival bytes | markerFound bytes =>
      exact hwhen (s.takePathBytes_acts bytes)
    | replySent => exact hwhen s.replySent_acts
    | partialFrameTimeout => exact hwhen s.linkSilence_acts
    | retainedLoss | mainPowerUp => exact ⟨_, rfl, (Act.startUp ..).acts⟩
    | pin => exact hwhen (Act.startUp ..).acts
    | mainPowerDown => exact ⟨_, rfl, (Act.powerDown s).acts⟩
    | returnMessageSend => exact hwhen (Act.sendNextReturn s).acts
    | segmentTake => exact hwhen (Act.takeSegment s).acts
    | segmentFinish => exact hwhen (Act.finishSegment s).acts
    | deadline ch => exact hwhen (Act.reachDeadline s ch).acts
    | boothClockTick => exact ⟨_, rfl, (Act.clockTick s).acts⟩
    | licenceUnwrapComplete passes => exact hwhen (s.unwrapComplete_acts passes)
    | sampleClockEdge ch => exact hwhen (Act.sampleEdge s ch).acts
    | outgoingMessageSent => exact hwhen s.messageSent_acts
    | subtitlePortSend => exact hwhen (Act.portSent s).acts
    | _ => simp [requestOf] at hc

/-- A law of the state but for its queue that every act keeps is kept by every step. -/
theorem step_keeps {P : State → Prop} (hqueue : ∀ (rest : List Instr) {s : State}, P s → P { s with pending := rest })
    (hP : ∀ {s t : State}, Act s t → P s → P t) {s t : State} (hs : P s) (h : step s = .next t) : P t := by
  unfold step at h
  split at h
  · cases h
    exact hs
  · rename_i c rest _
    obtain ⟨u, hu, hacts⟩ := exec_acts c { s with pending := rest }
    obtain rfl : u = t := by simpa [hu] using h
    exact hacts.keep hP (hqueue rest hs)

end Sys2Proof.Machine

/-! ## What the action of a request does (R183)

`Deed s t`: an accepted request makes `t` of `s`. Every request's action changes nothing, or is a deed with the
reply OK (`perform_performs`). -/

namespace Sys2Proof.Machine

/-- What accepted requests make of the state. -/
inductive Deed (s : State) : State → Prop where
  /-- The requests on one channel but for CUE, STOP and JUMP (R14, R119, R124, R125, R149, R157 to R159, R169). -/
  | channel (ch : ChannelId) (f : Channel → Channel) : Deed s (s.modChan ch f)
  /-- LOAD-COMPOSITION and DROP-COMPOSITION (R4, R5). -/
  | table (table : List (Option CompositionSlot)) : Deed s { s with compositions := table }
  | loadShow (ch : ChannelId) (items : List ShowItem) : Deed s (installShow ch items s)
  | clearShow (ch : ChannelId) : Deed s (removeShow ch s)
  | cue (ch : ChannelId) (comp : Composition) (item slot reel : Nat) (licence : Option Nat) :
    Deed s (s.cue ch comp item slot reel licence)
  | stop (ch : ChannelId) : Deed s (s.stop ch)
  | jump {ch : ChannelId} {comp : Composition} {slot item reel : Nat} {t : State}
    (h : s.jump ch comp slot item reel = .ok t) : Deed s t
  /-- REVOKE-LICENCE and COUNTER-OP (R80, R84). -/
  | licence (i : Nat) (f : Licence → Licence) : Deed s (s.modLicence i f)
  | revoke (i : Nat) : Deed s (s.revokeNow i)
  | delete (licences : List (Option Licence)) (keys : List (Option KeyRecord)) :
    Deed s { s with licences := licences, keys := keys }
  | setTime (time : Nat) :
    Deed s { s with clock := { s.clock with set := true, time := time, phase := 0 } }.evaluateWindows.refreshClockUnset
  | adjustTime (start used : Nat) (d : Int) :
    Deed s { s with clock := s.clock.adjusted start used d }.evaluateWindows
  | releaseLog (n : Nat) : Deed s (s.releasedLog n)
  | clearResetCause (cause : ResetCause) : Deed s { s with cause := cause }
  | clearNotices (test : Notice → Bool) : Deed s (s.clearLatched test).1
  | maskNotices (masks : BitVec 15) : Deed s (s.setMasks masks)

/-- The action of a request leaves the state as it is, or is a deed that replies OK. -/
def Performs (s : State) (done : State × Answer) : Prop :=
  done.1 = s ∨ (∃ fields, done.2 = okReply fields) ∧ Deed s done.1

namespace Performs

variable {s t : State}

theorem still (a : Answer) : Performs s (s, a) := .inl rfl

theorem ok {fields : List Byte} (h : Deed s t) : Performs s (t, okReply fields) := .inr ⟨⟨fields, rfl⟩, h⟩

theorem onChannel {n : Byte} {k : Nat} {act : ChannelId → State × Answer}
    (h : ∀ ch, Performs s (act ch)) : Performs s (onChannel n k s act) := by
  unfold Machine.onChannel
  split
  · exact h _
  · exact still _

/-! ### Requests on channels and lists -/

theorem configureChannel (n : Byte) (rate : Word) (priming resume stall : Half) :
    Performs s (doConfigureChannel n rate priming resume stall s) := by
  refine onChannel fun ch => ?_
  iterate 2 (split; · exact still _)
  exact ok (.channel ..)

theorem setTracks (n value mask : Byte) : Performs s (doSetTracks n value mask s) := by
  refine onChannel fun ch => ?_
  split
  · exact still _
  · exact ok (.channel ..)

theorem setRoute (n : Byte) (lanes : List LaneEntry) : Performs s (doSetRoute n lanes s) := by
  unfold doSetRoute
  split
  · exact still _
  · refine onChannel fun ch => ?_
    split
    · exact still _
    · exact ok (.channel ..)

theorem setStyle (n style : Byte) (handle : Half) (minimum : Byte) :
    Performs s (doSetStyle n style handle minimum s) := by
  refine onChannel fun ch => ?_
  split
  · exact still _
  · exact ok (.channel ..)

theorem setSubtitleOffset (n track : Byte) (offset : Half) :
    Performs s (doSetSubtitleOffset n track offset s) := by
  refine onChannel fun ch => ?_
  split
  · exact still _
  · exact ok (.channel ..)

theorem loadComposition (c : Composition) : Performs s (doLoadComposition c s) := by
  unfold doLoadComposition
  iterate 3 (split; · exact still _)
  exact ok (.table _)

theorem dropComposition (slot : Byte) : Performs s (doDropComposition slot s) := by
  unfold doDropComposition
  iterate 3 (split; · exact still _)
  exact ok (.table _)

theorem loadShow (n : Byte) (items : List ShowItem) : Performs s (doLoadShow n items s) := by
  unfold doLoadShow
  iterate 4 (split; · exact still _)
  exact ok (.loadShow ..)

theorem clearShow (n : Byte) : Performs s (doClearShow n s) := by
  refine onChannel fun ch => ?_
  split
  iterate 2 · exact ok (.clearShow ch)
  · exact still _

/-! ### Requests on a show -/

theorem cue (n item reel : Byte) : Performs s (doCue n item reel s) := by
  refine onChannel fun ch => ?_
  split
  iterate 2
    · iterate 2 (split; · exact still _)
      exact ok (.cue ..)
  · exact still _

theorem start (n : Byte) : Performs s (doStart n s) := by
  refine onChannel fun ch => ?_
  split
  · exact ok (.channel ..)
  · exact still _

theorem pause (n : Byte) : Performs s (doPause n s) := by
  refine onChannel fun ch => ?_
  split
  iterate 2 · exact ok (.channel ..)
  · exact still _

theorem resume (n : Byte) : Performs s (doResume n s) := by
  refine onChannel fun ch => ?_
  dsimp only
  split
  · split <;> exact ok (.channel ..)
  · iterate 2 (split; · exact still _)
    exact ok (.channel ..)
  · exact still _

theorem stop (n : Byte) : Performs s (doStop n s) := by
  refine onChannel fun ch => ?_
  split
  · exact ok (.stop ch)
  · exact still _

theorem jump (n item reel : Byte) : Performs s (doJump n item reel s) := by
  refine onChannel fun ch => ?_
  dsimp only
  iterate 5 (split; · exact still _)
  exact ok (.jump ‹_›)

theorem acknowledge (n : Byte) : Performs s (doAcknowledge n s) := by
  refine onChannel fun ch => ?_
  split
  · exact ok (.channel ..)
  · exact still _

/-! ### Requests on licences, clock and log -/

theorem revokeLicence (i : Byte) : Performs s (doRevokeLicence i s) := by
  unfold doRevokeLicence
  split
  · exact still _
  · dsimp only
    split
    iterate 2 · exact ok (.revoke _)
    · split
      · exact ok (.revoke _)
      · exact ok (.licence ..)
    · exact ok (.licence ..)
    iterate 2 · exact still _

theorem deleteLicence (i : Byte) : Performs s (doDeleteLicence i s) := by
  unfold doDeleteLicence
  split
  · exact still _
  · split
    iterate 3 · exact still _
    iterate 3 · exact ok (.delete ..)

theorem counterOp (i op : Byte) (value : Half) : Performs s (doCounterOp i op value s) := by
  unfold doCounterOp
  iterate 2 (split; · exact still _)
  split
  iterate 3 · exact ok (.licence ..)
  iterate 3 · exact still _

theorem setTime (time : Word) : Performs s (doSetTime time s) := by
  unfold doSetTime
  split
  · exact still _
  · exact ok (.setTime _)

theorem adjustTime (amount : Half) : Performs s (doAdjustTime amount s) := by
  unfold doAdjustTime
  dsimp only
  iterate 2 (split; · exact still _)
  generalize (if s.clock.startsPeriod then 0 else s.clock.used) = used
  generalize (if s.clock.startsPeriod then s.clock.time else s.clock.periodStart.getD s.clock.time) = start
  iterate 2 (split; · exact still _)
  exact ok (.adjustTime ..)

theorem releaseLog (n : Byte) (oldest : Word) : Performs s (doReleaseLog n oldest s) := by
  unfold doReleaseLog
  dsimp only
  iterate 3 (split; · exact still _)
  exact ok (.releaseLog _)

/-! ### Requests of file 12 -/

theorem clearResetCause (mask : Byte) : Performs s (doClearResetCause mask s) := by
  unfold doClearResetCause
  split
  · exact still _
  · exact ok (.clearResetCause _)

theorem clearLatched (test : Notice → Bool) : Performs s (s.clearLatched test) :=
  .inr ⟨⟨_, rfl⟩, .clearNotices test⟩

theorem clearNotices (mode : Byte) (pairs : List NoticePair) : Performs s (doClearNotices mode pairs s) := by
  unfold doClearNotices
  split
  · split
    · exact clearLatched _
    · exact still _
  · split
    · split
      · exact still _
      · exact clearLatched _
    · exact still _

theorem maskNotices (value change : Half) : Performs s (doMaskNotices value change s) := by
  unfold doMaskNotices
  split
  · exact still _
  · exact ok (.maskNotices _)

end Performs

/-- What the action of every request does. -/
theorem perform_performs (r : Request) (s : State) : Performs s (perform r s) := by
  cases r with
  | identify | status | softReset | readTime | readLog | readNotices => exact .inl rfl
  | readComposition slot => exact .inl (doReadComposition_fst slot s)
  | loadLicence l => exact .inl (doLoadLicence_fst l s)
  | readLicence i => exact .inl (doReadLicence_fst i s)
  | channelReport n => exact .onChannel fun _ => .still _
  | clearResetCause mask => exact .clearResetCause mask
  | configureChannel n rate priming resume stall => exact .configureChannel n rate priming resume stall
  | setTracks n value mask => exact .setTracks n value mask
  | setRoute n lanes => exact .setRoute n lanes
  | setStyle n style handle minimum => exact .setStyle n style handle minimum
  | setSubtitleOffset n track offset => exact .setSubtitleOffset n track offset
  | loadComposition c => exact .loadComposition c
  | dropComposition slot => exact .dropComposition slot
  | loadShow n items => exact .loadShow n items
  | clearShow n => exact .clearShow n
  | cue n item reel => exact .cue n item reel
  | start n => exact .start n
  | pause n => exact .pause n
  | resume n => exact .resume n
  | stop n => exact .stop n
  | jump n item reel => exact .jump n item reel
  | acknowledgeSuspension n => exact .acknowledge n
  | revokeLicence i => exact .revokeLicence i
  | deleteLicence i => exact .deleteLicence i
  | counterOp i op value => exact .counterOp i op value
  | setTime t => exact .setTime t
  | adjustTime d => exact .adjustTime d
  | releaseLog n oldest => exact .releaseLog n oldest
  | clearNotices mode pairs => exact .clearNotices mode pairs
  | maskNotices value change => exact .maskNotices value change

/-- A law that deeds keep is kept by the action of every request. -/
theorem perform_keeps {P : State → Prop} {s : State} (hP : ∀ {t : State}, Deed s t → P t) (hs : P s)
    (r : Request) : P (perform r s).1 := by
  obtain hstill | ⟨-, hdeed⟩ := perform_performs r s
  · exact hstill.symm ▸ hs
  · exact hP hdeed

/-- Settles O3: what is no deed leaves the state as it is, and a deed replies OK. -/
theorem refusedRequestsChangeNothing : Obligations.RefusedRequestsChangeNothing := by
  intro r s t a hdone
  have hperforms := perform_performs r s
  rw [hdone] at hperforms
  obtain hstill | ⟨⟨fields, rfl⟩, -⟩ := hperforms
  · exact ⟨fun _ _ _ _ => hstill, fun _ _ => hstill, fun _ _ => hstill⟩
  · refine ⟨fun b rest hreply hb => ?_, nofun, nofun⟩
    obtain ⟨rfl, -⟩ := List.cons.inj (Answer.reply.inj hreply)
    exact absurd rfl hb

/-! ### Main power, the link and the queue -/

/-- Main power, the command link and the waiting commands: what no request's action changes. -/
def State.outside (s : State) : Bool × CommandLink × List Instr := (s.powered, s.link, s.pending)

theorem State.outside_eq_iff {s t : State} : t.outside = s.outside ↔
    t.powered = s.powered ∧ t.link = s.link ∧ t.pending = s.pending := by
  simp [State.outside]

theorem State.outside_of_steady {s t : State} (h : t.steady = s.steady) : t.outside = s.outside :=
  State.outside_eq_iff.mpr ⟨State.powered_of_steady h, State.link_of_steady h, State.pending_of_steady h⟩

theorem State.jump_steady {s t : State} {ch : ChannelId} {comp : Composition} {slot item reel : Nat}
    (h : s.jump ch comp slot item reel = .ok t) : t.steady = s.steady := by
  have haway {n : Nat} {u : State} (hu : (s.jumpAway ch comp item slot reel n).map
      (fun st => st.modChan ch (fun k => k.jumped item reel n)) = .ok u) : u.steady = s.steady := by
    simp only [State.jumpAway] at hu
    split at hu
    · cases hu
    · cases hu
      simp
  simp only [State.jump] at h
  split at h
  · split at h
    · cases h
      simp
    · exact haway h
  · exact haway h

theorem State.evaluateWindows_outside (s : State) : s.evaluateWindows.outside = s.outside :=
  State.outside_of_steady s.evaluateWindows_steady

theorem Deed.outside {s t : State} (h : Deed s t) : t.outside = s.outside := by
  cases h with
  | channel | cue | stop | licence | revoke => exact State.outside_of_steady (by simp)
  | loadShow | clearShow => exact (State.outside_of_steady (State.modChan_steady ..)).trans rfl
  | jump h => exact State.outside_of_steady (State.jump_steady h)
  | setTime time => exact (State.evaluateWindows_outside _).trans rfl
  | adjustTime start used d => exact (State.evaluateWindows_outside _).trans rfl
  | table | delete | releaseLog | clearResetCause | clearNotices | maskNotices => rfl

/-- A request's action changes neither main power, nor the link, nor the queue: its answer does what it does to
the link (R182, R183). -/
theorem perform_outside (r : Request) (s : State) : (perform r s).1.outside = s.outside :=
  perform_keeps (P := fun t => t.outside = s.outside) Deed.outside rfl r

theorem completeLicence_outside (l : LicenceLoad) (results : List (Option Material)) (s : State) :
    (completeLicence l results s).1.outside = s.outside := by
  unfold completeLicence
  iterate 3 (split; · rfl)
  rfl

theorem State.clockTick_outside (s : State) : s.clockTick.outside = s.outside := by
  simp only [State.clockTick]
  split
  · split
    · exact (State.evaluateWindows_outside _).trans rfl
    · rfl
  · rfl

/-- Start-up keeps the queue alone, and empties the link (R185). -/
theorem State.startUp_outside (s : State) (kind : ResetKind) :
    (s.startUp kind).outside = (true, CommandLink.reset, s.pending) := by
  by_cases hkind : kind = .retainedLoss
  · subst hkind
    rw [s.startUp_retainedLoss]
    rfl
  · obtain ⟨hstart, -⟩ := s.startUp_settled hkind
    rw [hstart]
    rfl

end Sys2Proof.Machine

/-! ## The queue and the link law (R182, R184) -/

namespace Sys2Proof.Machine

theorem State.link_of_outside {s t : State} (h : t.outside = s.outside) : t.link = s.link :=
  (State.outside_eq_iff.mp h).2.1

theorem State.pending_of_outside {s t : State} (h : t.outside = s.outside) : t.pending = s.pending :=
  (State.outside_eq_iff.mp h).2.2

/-- No act touches the waiting commands. -/
theorem Act.pending {s t : State} (h : Act s t) : t.pending = s.pending := by
  cases h with
  | answer tag kind a => cases a <;> rfl
  | perform r => exact State.pending_of_outside (perform_outside r s)
  | unwrapped l results => exact State.pending_of_outside (completeLicence_outside l results s)
  | clockTick => exact State.pending_of_outside s.clockTick_outside
  | startUp kind => exact congrArg (·.2.2) (s.startUp_outside kind)
  | takePathByte | sendNextReturn | takeSegment | finishSegment | reachDeadline | sampleEdge =>
    exact State.pending_of_steady (by simp)
  | receive | wait | send | fault | reply | sent | empty | powerDown | portSent => rfl

/-- Settles O2: every command is a run of acts, and no act touches the queue. -/
theorem everyCommandActsAndKeepsTheQueue : Obligations.EveryCommandActsAndKeepsTheQueue := by
  intro c s
  obtain ⟨t, hexec, hacts⟩ := exec_acts c s
  exact ⟨t, hexec, hacts.keep (P := fun t => t.pending = s.pending) (fun hact h => hact.pending.trans h) rfl⟩

/-! ### At most 16 messages, and a frame only behind another -/

theorem LinkLaw.of_link {s t : State} (hs : LinkLaw s) (h : t.link = s.link) : LinkLaw t := by
  unfold LinkLaw
  rwa [h]

theorem LinkLaw.of_reset {t : State} (h : t.link = CommandLink.reset) : LinkLaw t := by
  unfold LinkLaw
  rw [h]
  exact ⟨Nat.zero_le _, nofun⟩

/-- A request that answers or begins its unwrap holds the execution place, and its reply is none of the 16
(R182, R184). -/
theorem LinkLaw.answer {s : State} (hs : LinkLaw s) (tag kind : Byte) (a : Answer) :
    LinkLaw (s.answer tag kind a) := by
  obtain ⟨hroom, -⟩ := hs
  refine ⟨?_, fun _ => by cases a <;> rfl⟩
  cases a <;> simpa [State.answer, State.reply, CommandLink.waitingMessages] using hroom

theorem Act.linkLaw {s t : State} (h : Act s t) (hs : LinkLaw s) : LinkLaw t := by
  obtain ⟨hroom, hbehind⟩ := hs
  cases h with
  | receive | fault | portSent => exact ⟨hroom, hbehind⟩
  | powerDown => exact .of_reset rfl
  | wait f h => exact ⟨hroom, fun _ => h⟩
  | send tag kind body h =>
    refine ⟨?_, hbehind⟩
    simpa [CommandLink.waitingMessages] using h
  | answer tag kind a => exact LinkLaw.answer ⟨hroom, hbehind⟩ tag kind a
  | reply =>
    refine ⟨?_, fun _ => rfl⟩
    simpa [State.reply, CommandLink.waitingMessages] using hroom
  | sent => exact ⟨((List.drop_sublist ..).countP_le).trans hroom, hbehind⟩
  | empty => exact ⟨hroom, nofun⟩
  | perform r => exact LinkLaw.of_link ⟨hroom, hbehind⟩ (State.link_of_outside (perform_outside r s))
  | unwrapped l results =>
    exact LinkLaw.of_link ⟨hroom, hbehind⟩ (State.link_of_outside (completeLicence_outside l results s))
  | clockTick => exact LinkLaw.of_link ⟨hroom, hbehind⟩ (State.link_of_outside s.clockTick_outside)
  | startUp kind => exact .of_reset (congrArg (·.2.1) (s.startUp_outside kind))
  | takePathByte | sendNextReturn | takeSegment | finishSegment | reachDeadline | sampleEdge =>
    exact LinkLaw.of_link ⟨hroom, hbehind⟩ (State.link_of_steady (by simp))

/-- Settles O16: every act keeps the law. -/
theorem linkLawIsKept : Obligations.LinkLawIsKept := fun _ _ hs h =>
  step_keeps (P := LinkLaw) (fun _ _ hs => hs) Act.linkLaw hs h

end Sys2Proof.Machine

/-! ## The notice laws are kept (R90, R107, R190, R191, R194)

`State.bulletin` is what the laws read. `State.Posts` gathers them with what the two conditions are said to be, so
that an action that moves clock or log before its condition follows can be taken step by step. -/

namespace Sys2Proof.Machine

/-! ### The pending set -/

/-- The notice law of a set: one entry per kind and channel, repeat counts of at most 255 (R190). -/
def NoticesApart (l : List Notice) : Prop :=
  l.Pairwise (fun a b => ¬(a.kind = b.kind ∧ a.channel = b.channel)) ∧ ∀ n ∈ l, n.repeats ≤ 255

theorem Notice.isOf_iff {n : Notice} {k : NoticeKind} {c : Option ChannelId} :
    n.isOf k c = true ↔ n.kind = k ∧ n.channel = c := by
  simp [Notice.isOf]

namespace NoticesApart

variable {l : List Notice}

theorem sublist {l' : List Notice} (h : NoticesApart l) (hsub : l'.Sublist l) : NoticesApart l' :=
  ⟨h.1.sublist hsub, fun n hn => h.2 n (hsub.subset hn)⟩

/-- A new entry of a kind and channel that has none. -/
theorem append (h : NoticesApart l) {n : Notice} (hnew : l.any (fun m => m.isOf n.kind n.channel) = false)
    (hn : n.repeats ≤ 255) : NoticesApart (l ++ [n]) := by
  obtain ⟨hapart, hrepeats⟩ := h
  refine ⟨List.pairwise_append.mpr ⟨hapart, List.pairwise_singleton .., fun a ha b hb => ?_⟩, fun m hm => ?_⟩
  · obtain rfl := List.mem_singleton.mp hb
    rw [← Notice.isOf_iff]
    exact List.any_eq_false.mp hnew a ha
  · obtain hm | hm := List.mem_append.mp hm
    · exact hrepeats m hm
    · obtain rfl := List.mem_singleton.mp hm
      exact hn

theorem raised (h : NoticesApart l) (k : NoticeKind) (c : Option ChannelId) (d : NoticeDetail) :
    NoticesApart (raised l k c d) := by
  unfold Machine.raised
  split
  · obtain ⟨hapart, hrepeats⟩ := h
    refine ⟨List.pairwise_map.mpr (hapart.imp fun {a b} hab => ?_), fun n hn => ?_⟩
    · split <;> split <;> exact hab
    · obtain ⟨m, hm, rfl⟩ := List.mem_map.mp hn
      split
      · exact Nat.min_le_left ..
      · exact hrepeats m hm
  · rename_i hnone
    exact h.append (n := ⟨k, c, 0, d⟩) (Bool.eq_false_iff.mpr hnone) (Nat.zero_le _)

theorem withCondition (h : NoticesApart l) (k : NoticeKind) (holds : Bool) :
    NoticesApart (withCondition l k holds) := by
  unfold Machine.withCondition
  split
  · split
    · exact h
    · rename_i hnone
      exact h.append (n := ⟨k, none, 0, .none⟩) (Bool.eq_false_iff.mpr hnone) (Nat.zero_le _)
  · exact h.sublist List.filter_sublist

end NoticesApart

/-! ### The laws together -/

/-- The laws of O19. -/
def NoticeLaws (s : State) : Prop := AttnLaw s ∧ NoticeLaw s ∧ ConditionLaw s

/-- The laws but that CLOCK-UNSET and LOG-LOW are pending as said here. -/
def State.Posts (s : State) (unset low : Bool) : Prop :=
  AttnLaw s ∧ NoticesApart s.notices ∧
    (s.powered = true → s.hasCondition .clockUnset = unset ∧ s.hasCondition .logLow = low)

/-- Main power, the masks, the pending set and ATTN. -/
def State.board (s : State) : Bool × BitVec 15 × List Notice × Bool :=
  (s.powered, s.masks, s.notices, s.attn)

/-- All that the laws read. -/
def State.bulletin (s : State) : (Bool × BitVec 15 × List Notice × Bool) × Bool × Nat :=
  (s.board, s.clock.set, s.log.length)

theorem noticeLaws_iff {s : State} : NoticeLaws s ↔ s.Posts (!s.clock.set) (decide (s.freeLog ≤ 16)) := .rfl

namespace State.Posts

variable {s : State} {unset low : Bool}

theorem of_board {t : State} (h : s.Posts unset low) (ht : t.board = s.board) : t.Posts unset low := by
  simp only [State.board, Prod.mk.injEq] at ht
  obtain ⟨hpowered, hmasks, hnotices, hattn⟩ := ht
  unfold State.Posts AttnLaw State.hasCondition
  rwa [hpowered, hmasks, hnotices, hattn]

/-- A raise of a latched kind touches no condition. -/
theorem raise (h : s.Posts unset low) {k : NoticeKind} (hk : k.latched = true) (c : Option ChannelId)
    (d : NoticeDetail) : (s.raise k c d).Posts unset low := by
  obtain ⟨-, hapart, hconditions⟩ := h
  refine ⟨rfl, hapart.raised k c d, fun hp => ?_⟩
  obtain ⟨hunset, hlow⟩ := hconditions hp
  have hkept (k' : NoticeKind) (hk' : k'.latched = false) :
      (s.raise k c d).hasCondition k' = s.hasCondition k' :=
    any_raised_of_ne s.notices c none d fun he => by simp [← he, hk'] at hk
  exact ⟨(hkept _ rfl).trans hunset, (hkept _ rfl).trans hlow⟩

theorem refreshLogLow (h : s.Posts unset low) :
    s.refreshLogLow.Posts unset (decide (s.freeLog ≤ 16)) := by
  obtain ⟨-, hapart, hconditions⟩ := h
  refine ⟨rfl, hapart.withCondition .., fun hp => ⟨?_, any_withCondition ..⟩⟩
  exact (any_withCondition_of_ne s.notices _ none (by decide)).trans (hconditions hp).1

theorem refreshClockUnset (h : s.Posts unset low) : s.refreshClockUnset.Posts (!s.clock.set) low := by
  obtain ⟨-, hapart, hconditions⟩ := h
  refine ⟨rfl, hapart.withCondition .., fun hp => ⟨any_withCondition .., ?_⟩⟩
  exact (any_withCondition_of_ne s.notices _ none (by decide)).trans (hconditions hp).2

theorem evaluateWindows (h : s.Posts unset low) : s.evaluateWindows.Posts unset low := by
  unfold State.evaluateWindows
  split
  · exact List.foldlRecOn (motive := fun t : State => t.Posts unset low) _ _ (h.of_board rfl)
      fun t ht x _ => ht.raise rfl _ _
  · exact h

end State.Posts

theorem State.evaluateWindows_clock (s : State) : s.evaluateWindows.clock = s.clock :=
  State.clock_of_steady s.evaluateWindows_steady

/-! ### What leaves the bulletin alone -/

section
variable (s : State) (ch : ChannelId)

@[simp] theorem State.modChan_bulletin (f : Channel → Channel) :
    (s.modChan ch f).bulletin = s.bulletin := by simp [State.bulletin, State.board]
@[simp] theorem State.modLicence_bulletin (i : Nat) (f : Licence → Licence) :
    (s.modLicence i f).bulletin = s.bulletin := by simp [State.bulletin, State.board]
@[simp] theorem State.modLog_bulletin (q : Option Nat) (f : LogRecord → LogRecord) :
    (s.modLog q f).bulletin = s.bulletin := by
  cases q <;> simp [State.bulletin, State.board, State.modLog]
@[simp] theorem State.sendCredit_bulletin (n : Nat) : (s.sendCredit ch n).bulletin = s.bulletin := rfl
@[simp] theorem State.sendReturn_bulletin (m : ReturnMessage) : (s.sendReturn m).bulletin = s.bulletin := rfl
@[simp] theorem State.sendFetch_bulletin (i n e : Nat) : (s.sendFetch ch i n e).bulletin = s.bulletin := rfl
@[simp] theorem State.setPath_bulletin (p : ForwardPath) : (s.setPath p).bulletin = s.bulletin := rfl
@[simp] theorem State.modLink_bulletin (f : CommandLink → CommandLink) :
    (s.modLink f).bulletin = s.bulletin := rfl
@[simp] theorem State.revokeNow_bulletin (i : Nat) : (s.revokeNow i).bulletin = s.bulletin := by
  unfold State.revokeNow; split <;> rfl
@[simp] theorem State.lastUnpin_bulletin (i : Nat) : (s.lastUnpin i).bulletin = s.bulletin := by
  unfold State.lastUnpin; (repeat' split) <;> simp
@[simp] theorem State.unpin_bulletin (i : Nat) : (s.unpin i).bulletin = s.bulletin := by
  simp only [State.unpin]; (repeat' split) <;> simp
@[simp] theorem State.releaseReservation_bulletin (r : AdmissionRecord) :
    (s.releaseReservation r).bulletin = s.bulletin := by
  unfold State.releaseReservation; (repeat' split) <;> simp
@[simp] theorem State.dropRecord_bulletin (r : AdmissionRecord) : (s.dropRecord ch r).bulletin = s.bulletin := by
  simp only [State.dropRecord]; split <;> simp
@[simp] theorem State.closeRecord_bulletin (r : AdmissionRecord) (o : LogOutcome) :
    (s.closeRecord ch r o).bulletin = s.bulletin := by simp [State.closeRecord]
@[simp] theorem State.modRecord_bulletin (n : Nat) (f : AdmissionRecord → AdmissionRecord) :
    (s.modRecord ch n f).bulletin = s.bulletin := by simp [State.modRecord]
@[simp] theorem State.uncharge_bulletin (r : AdmissionRecord) : (s.uncharge ch r).bulletin = s.bulletin := by
  simp [State.uncharge]
@[simp] theorem State.writeCounts_bulletin (r : AdmissionRecord) (a b c : Nat) :
    (s.writeCounts ch r a b c).bulletin = s.bulletin := by simp [State.writeCounts]
@[simp] theorem State.countHeld_bulletin : (s.countHeld ch).bulletin = s.bulletin := by
  unfold State.countHeld; split <;> simp
@[simp] theorem State.beginFetch_bulletin (r : AdmissionRecord) (e : Nat) :
    (s.beginFetch ch r e).bulletin = s.bulletin := by simp [State.beginFetch]
@[simp] theorem State.fetchNewest_bulletin (e : Nat) : (s.fetchNewest ch e).bulletin = s.bulletin := by
  unfold State.fetchNewest; split <;> simp
@[simp] theorem State.reportNoNext_bulletin : (s.reportNoNext ch).bulletin = s.bulletin := by
  simp [State.reportNoNext]
@[simp] theorem State.abandonWork_bulletin : (s.abandonWork ch).bulletin = s.bulletin := by
  unfold State.abandonWork; (repeat' split) <;> rfl
@[simp] theorem State.finishHead_bulletin : (s.finishHead ch).bulletin = s.bulletin := by
  unfold State.finishHead; split <;> simp
@[simp] theorem State.raiseEpoch_bulletin : (s.raiseEpoch ch).bulletin = s.bulletin := by
  simp only [State.raiseEpoch]; split <;> simp
@[simp] theorem State.restartIngest_bulletin : (s.restartIngest ch).bulletin = s.bulletin := by
  simp [State.restartIngest]
@[simp] theorem State.arriveStale_bulletin (g : Segment) : (s.arriveStale ch g).bulletin = s.bulletin := by
  simp only [State.arriveStale]; split <;> simp
@[simp] theorem State.sendNextReturn_bulletin : s.sendNextReturn.bulletin = s.bulletin := by
  unfold State.sendNextReturn; split <;> rfl
@[simp] theorem State.discardOrder_bulletin : (s.discardOrder ch).bulletin = s.bulletin := by
  simp [State.discardOrder]
@[simp] theorem State.serve_bulletin : (s.serve ch).bulletin = s.bulletin := by
  simp only [State.serve]
  split
  · rfl
  · split
    · rfl
    · exact State.discardOrder_bulletin _ ch
@[simp] theorem State.takeSegment_bulletin : s.takeSegment.bulletin = s.bulletin := by
  unfold State.takeSegment; (repeat' split) <;> simp
@[simp] theorem State.reportComplete_bulletin : (s.reportComplete ch).bulletin = s.bulletin := by
  simp [State.reportComplete]
@[simp] theorem State.keepPeriod_bulletin : (s.keepPeriod ch).bulletin = s.bulletin := by
  simp [State.keepPeriod]
@[simp] theorem State.pausedDeadline_bulletin : (s.pausedDeadline ch).bulletin = s.bulletin := by
  simp [State.pausedDeadline]
@[simp] theorem State.heldDeadline_bulletin : (s.heldDeadline ch).bulletin = s.bulletin := by
  simp [State.heldDeadline]
@[simp] theorem State.suspendedDeadline_bulletin : (s.suspendedDeadline ch).bulletin = s.bulletin := by
  simp [State.suspendedDeadline]
@[simp] theorem State.freePresenting_bulletin : (s.freePresenting ch).bulletin = s.bulletin := by
  simp [State.freePresenting]
@[simp] theorem State.jumpFlush_bulletin (n : Nat) : (s.jumpFlush ch n).bulletin = s.bulletin := by
  simp [State.jumpFlush]
@[simp] theorem State.closeLeft_bulletin (n : Nat) : (s.closeLeft ch n).bulletin = s.bulletin := by
  unfold State.closeLeft; (repeat' split) <;> simp

end

namespace NoticeLaws

variable {s : State} {ch : ChannelId}

theorem of_bulletin {t : State} (hs : NoticeLaws s) (h : t.bulletin = s.bulletin) : NoticeLaws t := by
  simp only [State.bulletin, Prod.mk.injEq] at h
  obtain ⟨hboard, hset, hlength⟩ := h
  have hposts := State.Posts.of_board (noticeLaws_iff.mp hs) hboard
  rw [noticeLaws_iff, State.freeLog, hset, hlength]
  exact hposts

theorem modChan (hs : NoticeLaws s) (f : Channel → Channel) : NoticeLaws (s.modChan ch f) :=
  hs.of_bulletin (by simp)

theorem raise (hs : NoticeLaws s) {k : NoticeKind} (hk : k.latched = true) (c : Option ChannelId)
    (d : NoticeDetail) : NoticeLaws (s.raise k c d) := State.Posts.raise hs hk c d

/-- LOG-LOW follows a change of the log (R107). -/
theorem relog (hs : NoticeLaws s) (log : List LogRecord) (next : Nat) :
    NoticeLaws { s with log := log, nextSeq := next }.refreshLogLow :=
  State.Posts.refreshLogLow (s := { s with log := log, nextSeq := next })
    (State.Posts.of_board (s := s) hs rfl)

theorem evaluateWindows (hs : NoticeLaws s) : NoticeLaws s.evaluateWindows := by
  have hposts := State.Posts.evaluateWindows (noticeLaws_iff.mp hs)
  rw [noticeLaws_iff, State.freeLog, s.evaluateWindows_clock, s.evaluateWindows_log]
  exact hposts

/-! ### Ingest port and subtitles (files 03, 10) -/

theorem arrive (hs : NoticeLaws s) (g : Segment) : NoticeLaws (s.arrive ch g) := by
  unfold State.arrive
  split
  · exact hs.of_bulletin (by simp)
  · split
    · exact hs.raise rfl _ _
    · exact hs.modChan _

theorem takePathByte (hs : NoticeLaws s) (b : Byte) : NoticeLaws (s.takePathByte b) := by
  have hpath (p : ForwardPath) : NoticeLaws (s.setPath p) := hs.of_bulletin (by simp)
  simp only [State.takePathByte]
  split
  · exact hpath _
  · split
    · exact hpath _
    · split
      · exact (hpath _).raise rfl _ _
      · split
        · exact (hpath _).arrive _
        · exact hpath _
  · split
    · exact hpath _
    · exact (hpath _).arrive _

theorem putSubs (hs : NoticeLaws s) (x : SubsResult) : NoticeLaws (s.putSubs ch x) := by
  have hplaced (events : List PortEvent) : NoticeLaws { s.modChan ch (fun c => { c with subs := x.subs }) with
      subtitlePort := events } := of_bulletin (hs.modChan _) rfl
  exact List.foldlRecOn _ _ (hplaced _) fun t ht fault _ => ht.raise rfl _ _

/-! ### Admission and log (file 06) -/

theorem discardRecord (hs : NoticeLaws s) (r : AdmissionRecord) : NoticeLaws (s.discardRecord ch r) := by
  unfold State.discardRecord
  split
  · exact (hs.relog _ s.nextSeq).of_bulletin (State.dropRecord_bulletin ..)
  · exact hs.of_bulletin (by simp)

theorem endRecord (hs : NoticeLaws s) (o : LogOutcome) (r : AdmissionRecord) :
    NoticeLaws (s.endRecord ch o r) := by
  unfold State.endRecord
  split
  · exact hs.discardRecord r
  · exact hs.of_bulletin (by simp)

theorem admitAndFetch (hs : NoticeLaws s) (c : Composition) (item slot reel : Nat) (licence : Option Nat) :
    NoticeLaws (s.admitAndFetch ch c item slot reel licence) := by
  have hlogged : NoticeLaws (if needsLog c reel then s.takeLog (freshLogRecord s ch c reel licence) else s) := by
    split
    · exact hs.relog ..
    · exact hs
  refine hlogged.of_bulletin ?_
  cases licence <;> simp [State.admitAndFetch, State.openAdmission]

theorem nextItemOccasion (hs : NoticeLaws s) : NoticeLaws (s.nextItemOccasion ch) := by
  have hquiet : NoticeLaws (s.reportNoNext ch) := hs.of_bulletin (by simp)
  simp only [State.nextItemOccasion]
  split
  · split
    · simp only [State.admitNext]
      iterate 3 (split; · exact hquiet)
      split
      · exact (hs.modChan _).raise rfl _ _
      · exact hs.admitAndFetch ..
    · exact hs
  · exact hs

theorem reachCountPoint (hs : NoticeLaws s) (r : AdmissionRecord) : NoticeLaws (s.reachCountPoint ch r) := by
  refine raise (of_bulletin hs ?_) rfl _ _
  rw [State.modLog_bulletin]
  split
  · split <;> simp
  · rfl

theorem countPresentation (hs : NoticeLaws s) (n : Nat) (damaged : Bool) :
    NoticeLaws (s.countPresentation ch n damaged) := by
  simp only [State.countPresentation]
  split
  · exact hs
  · rename_i r _
    have htimed : NoticeLaws (if r.presented = 0 then
          (s.writeCounts ch r (bump32 r.presented) r.held
            (if damaged = true then bump32 r.damaged else r.damaged)).modLog r.logSeq
              (fun g => { g with firstFrame := some s.clock.time })
        else s.writeCounts ch r (bump32 r.presented) r.held
          (if damaged = true then bump32 r.damaged else r.damaged)) := by
      split <;> exact hs.of_bulletin (by simp)
    split
    · exact htimed.reachCountPoint r
    · exact htimed

/-! ### The unpacker (file 04) -/

theorem handOff (hs : NoticeLaws s) (comp : Composition) (g : Segment) (plain : List Byte) :
    NoticeLaws (s.handOff ch comp g plain) := by
  simp only [State.handOff]
  split <;> exact hs.putSubs _

theorem placeSegment (hs : NoticeLaws s) (comp : Composition) (record : Nat) (g : Segment)
    (payload : Payload) : NoticeLaws (s.placeSegment ch comp record g payload) := by
  have hcounted : NoticeLaws ((s.modChan ch (fun c => c.modCounts (·.withPayload payload))).raiseUnusable ch g
      payload) := by
    unfold State.raiseUnusable
    split
    · exact (hs.modChan _).raise rfl _ _
    · exact hs.modChan _
  simp only [State.placeSegment]
  split
  · exact hcounted.modChan _
  · simp only [State.placePrologue]
    split
    · exact (hcounted.modChan _).handOff ..
    · exact hcounted.modChan _

theorem judgePriming (hs : NoticeLaws s) (completed : Bool) : NoticeLaws (s.judgePriming ch completed) := by
  simp only [State.judgePriming]
  split
  · exact (hs.modChan _).raise rfl _ _
  · exact hs

theorem afterPlacement (hs : NoticeLaws s) (completed readied : Bool) :
    NoticeLaws (s.afterPlacement ch completed readied) := by
  have hreturned : NoticeLaws (s.finishHead ch) := hs.of_bulletin (by simp)
  have hjudged (u : State) (hu : NoticeLaws u) :
      NoticeLaws (if readied || completed then u.judgePriming ch completed else u) := by
    split
    · exact hu.judgePriming completed
    · exact hu
  simp only [State.afterPlacement]
  split
  · exact (hjudged _ (hreturned.modChan _)).nextItemOccasion
  · exact hjudged _ hreturned

theorem unpack (hs : NoticeLaws s) (comp : Composition) (record : Nat) (key : KeyChoice) (g : Segment) :
    NoticeLaws (s.unpack ch comp record key g) := by
  simp only [State.unpack]
  split
  · split
    · exact (hs.modChan _).judgePriming false
    · exact hs.modChan _
  · exact ((hs.modChan _).placeSegment ..).afterPlacement ..

theorem finishSegment (hs : NoticeLaws s) : NoticeLaws s.finishSegment := by
  have hfreed : NoticeLaws { s with work := none } := hs
  have hdiscard (c : ChannelId) : NoticeLaws (State.discardOrder { s with work := none } c) :=
    hfreed.of_bulletin (by simp)
  simp only [State.finishSegment]
  split
  · exact hs
  · split
    · exact hfreed
    · split
      · exact hdiscard _
      · split
        · exact hfreed.unpack ..
        · exact hdiscard _

/-! ### Deadlines and edges (files 02, 07, 09) -/

theorem closeAtFrame (hs : NoticeLaws s) (f : Frame) (lastFrame committed knownEnd : Bool) :
    NoticeLaws (s.closeAtFrame ch f lastFrame committed knownEnd) := by
  have hclosed (r : AdmissionRecord) (o : LogOutcome) :
      NoticeLaws ((s.closeRecord ch r o).nextItemOccasion ch) :=
    nextItemOccasion (hs.of_bulletin (by simp))
  unfold State.closeAtFrame
  split
  · exact hs
  · split
    · exact hclosed ..
    · split
      · exact hclosed ..
      · exact hs

theorem raiseDamage (hs : NoticeLaws s) (f : Frame) : NoticeLaws (s.raiseDamage ch f) := by
  unfold State.raiseDamage
  split
  · exact hs.raise rfl _ _
  · exact hs

theorem present (hs : NoticeLaws s) (f : Frame) (target committed knownEnd : Bool) :
    NoticeLaws (s.present ch f target committed knownEnd) := by
  simp only [State.present]
  split
  · exact hs
  · exact (((((hs.modChan _).putSubs _).modChan _).raiseDamage f).countPresentation _ _).closeAtFrame f _ _ _

theorem presentNext (hs : NoticeLaws s) (f : Frame) : NoticeLaws (s.presentNext ch f) :=
  (hs.modChan _).present f _ _ _

theorem suspend (hs : NoticeLaws s) : NoticeLaws (s.suspend ch) := by
  have hkept : NoticeLaws (s.keepPeriod ch) := hs.of_bulletin (by simp)
  exact ((hkept.modChan _).putSubs _).raise rfl _ _

theorem underrun (hs : NoticeLaws s) : NoticeLaws (s.underrun ch) := by
  have hraised (d : NoticeDetail) : NoticeLaws (s.raise .underrun (some ch) d) := hs.raise rfl _ _
  simp only [State.underrun]
  split
  · exact ((hraised _).modChan _).suspend
  · exact ((hraised _).modChan _).of_bulletin (State.heldDeadline_bulletin ..)

theorem endShow (hs : NoticeLaws s) : NoticeLaws (s.endShow ch) :=
  ((hs.modChan _).putSubs _).raise rfl _ _

theorem playingDeadline (hs : NoticeLaws s) (presented : Bool) :
    NoticeLaws (s.playingDeadline ch presented) := by
  simp only [State.playingDeadline]
  split
  · exact hs.of_bulletin (by simp)
  · split
    · exact hs.endShow
    · split
      · exact hs.presentNext _
      · exact hs.underrun

theorem holdOn (hs : NoticeLaws s) : NoticeLaws (s.holdOn ch) := by
  simp only [State.holdOn]
  split
  · exact (hs.modChan _).suspend
  · exact hs.of_bulletin (by simp)

theorem holdingDeadline (hs : NoticeLaws s) : NoticeLaws (s.holdingDeadline ch) := by
  unfold State.holdingDeadline
  split
  · split
    · exact (hs.modChan _).presentNext _
    · exact hs.holdOn
  · exact hs.holdOn

theorem deadlineEdge (hs : NoticeLaws s) : NoticeLaws (s.deadlineEdge ch) := by
  have hfreed : NoticeLaws (s.freePresenting ch) := hs.of_bulletin (by simp)
  refine modChan ?_ _
  simp only [State.deadline]
  split
  · exact hfreed.playingDeadline _
  · exact hfreed.of_bulletin (by simp)
  · exact hfreed.holdingDeadline
  · exact hfreed.of_bulletin (by simp)
  all_goals exact hs

theorem reachDeadline (hs : NoticeLaws s) : NoticeLaws (s.reachDeadline ch) := by
  unfold State.reachDeadline
  split
  · exact hs
  · exact hs.deadlineEdge
  · exact (hs.modChan _).deadlineEdge

theorem sampleEdge (hs : NoticeLaws s) : NoticeLaws (s.sampleEdge ch) := by
  simp only [State.sampleEdge]
  split
  · exact hs.modChan _
  · exact hs.deadlineEdge
  · split
    · exact hs.deadlineEdge
    · exact hs.modChan _

/-! ### CUE, STOP and JUMP (R117, R129, R134 to R138) -/

theorem cue (hs : NoticeLaws s) (comp : Composition) (item slot reel : Nat) (licence : Option Nat) :
    NoticeLaws (s.cue ch comp item slot reel licence) := by
  have hrestarted : NoticeLaws ((s.modChan ch (fun c => c.fullFlush)).restartIngest ch) :=
    hs.of_bulletin (by simp)
  exact (hrestarted.admitAndFetch ..).modChan _

theorem stop (hs : NoticeLaws s) : NoticeLaws (s.stop ch) := by
  have hended : NoticeLaws ((s.chan ch).records.foldl
      (fun st r => st.endRecord ch (s.chan ch).state.stopOutcome r) s) :=
    List.foldlRecOn _ _ hs fun t ht r _ => ht.endRecord _ r
  have hdark (m : ReturnMessage) : NoticeLaws ((((((s.chan ch).records.foldl
      (fun st r => st.endRecord ch (s.chan ch).state.stopOutcome r) s).raiseEpoch ch).sendReturn m).modChan ch
        (fun c => c.stopped))) := hended.of_bulletin (by simp)
  exact ((hdark _).putSubs _).raise rfl _ _

theorem discardFetching (hs : NoticeLaws s) : NoticeLaws (s.discardFetching ch) :=
  List.foldlRecOn _ _ hs fun _ ht r _ => ht.discardRecord r

theorem jumpReleases (hs : NoticeLaws s) (n : Nat) : NoticeLaws (s.jumpReleases ch n) := by
  have hfreed (r : AdmissionRecord) : NoticeLaws ((s.discardFetching ch).uncharge ch r) :=
    hs.discardFetching.of_bulletin (State.uncharge_bulletin ..)
  simp only [State.jumpReleases]
  split
  · exact hs.discardFetching
  · split
    · exact (hfreed _).discardRecord _
    · exact hfreed _

theorem jumpAway (hs : NoticeLaws s) {comp : Composition} {item slot reel n : Nat} {t : State}
    (h : s.jumpAway ch comp item slot reel n = .ok t) : NoticeLaws t := by
  simp only [State.jumpAway] at h
  split at h
  · cases h
  · cases h
    have hleft := (hs.jumpReleases (ch := ch) n).of_bulletin (State.closeLeft_bulletin _ ch n)
    exact (hleft.of_bulletin (State.jumpFlush_bulletin _ ch n)).admitAndFetch ..

theorem jump (hs : NoticeLaws s) {comp : Composition} {slot item reel : Nat} {t : State}
    (h : s.jump ch comp slot item reel = .ok t) : NoticeLaws t := by
  have haway (n : Nat) (hn : (s.jumpAway ch comp item slot reel n).map
      (fun st => st.modChan ch (fun k => k.jumped item reel n)) = .ok t) : NoticeLaws t := by
    cases hj : s.jumpAway ch comp item slot reel n with
    | error st => simp [hj, Except.map] at hn
    | ok u =>
      simp only [hj, Except.map, Except.ok.injEq] at hn
      exact hn ▸ (hs.jumpAway hj).modChan _
  simp only [State.jump] at h
  split at h
  · split at h
    · cases h
      have hflushed (n : Nat) := (hs.discardFetching (ch := ch)).of_bulletin (State.jumpFlush_bulletin _ ch n)
      exact ((hflushed _).of_bulletin (State.beginFetch_bulletin ..)).modChan _
    · exact haway _ h
  · exact haway _ h

/-! ### Deeds and acts -/

/-- A clear removes latched entries, so both conditions stay (R193). -/
theorem clearLatched (hs : NoticeLaws s) (test : Notice → Bool) : NoticeLaws (s.clearLatched test).1 := by
  obtain ⟨-, hapart, hconditions⟩ := hs
  have hkept (k : NoticeKind) (hk : k.latched = false) :
      (s.clearLatched test).1.hasCondition k = s.hasCondition k := by
    show (s.notices.filter _).any _ = s.notices.any _
    rw [List.any_filter]
    congr 1
    funext n
    by_cases hn : n.kind = k
    · simp [Notice.isOf, hn, hk]
    · simp [Notice.isOf, hn]
  refine ⟨rfl, NoticesApart.sublist hapart List.filter_sublist, fun hp => ?_⟩
  obtain ⟨hunset, hlow⟩ := hconditions hp
  exact ⟨(hkept _ rfl).trans hunset, (hkept _ rfl).trans hlow⟩

theorem deed {t : State} (hs : NoticeLaws s) (h : Deed s t) : NoticeLaws t := by
  cases h with
  | channel ch f => exact hs.modChan f
  | loadShow | clearShow => exact hs.of_bulletin ((State.modChan_bulletin ..).trans rfl)
  | cue => exact hs.cue ..
  | stop ch => exact hs.stop
  | jump h => exact hs.jump h
  | licence | revoke => exact hs.of_bulletin (by simp)
  | setTime time =>
    have hjudged := State.Posts.evaluateWindows
      (s := { s with clock := { s.clock with set := true, time := time, phase := 0 } })
      (State.Posts.of_board (noticeLaws_iff.mp hs) rfl)
    have hposts := hjudged.refreshClockUnset
    refine noticeLaws_iff.mpr ?_
    rw [State.freeLog, State.refreshClockUnset_log, State.evaluateWindows_log]
    exact hposts
  | adjustTime start used d => exact evaluateWindows (of_bulletin hs rfl)
  | releaseLog n => exact hs.relog _ s.nextSeq
  | clearNotices test => exact hs.clearLatched test
  | maskNotices masks => exact ⟨rfl, hs.2⟩
  | table | delete | clearResetCause => exact hs

theorem clockTick (hs : NoticeLaws s) : NoticeLaws s.clockTick := by
  simp only [State.clockTick]
  split
  · split
    · exact evaluateWindows (of_bulletin hs rfl)
    · exact of_bulletin hs rfl
  · exact hs

theorem completeLicence (hs : NoticeLaws s) (l : LicenceLoad) (results : List (Option Material)) :
    NoticeLaws (completeLicence l results s).1 := by
  unfold Machine.completeLicence
  iterate 3 (split; · exact hs)
  exact of_bulletin hs rfl

/-- The set of start-up meets the laws (R194). -/
theorem of_startNotices {t : State} {kind : ResetKind} (hnotices : t.notices = startNotices t kind)
    (hmasks : t.masks = 0) (hattn : t.attn = true) : NoticeLaws t := by
  have hattnOf : attnOf 0 (startNotices t kind) = true := by simp [attnOf, startNotices, maskedBy]
  refine ⟨by rw [AttnLaw, hattn, hmasks, hnotices, hattnOf], ?_, fun _ => ?_⟩
  · rw [NoticeLaw, hnotices, startNotices]
    cases t.clock.set <;> by_cases hlow : t.freeLog ≤ 16 <;> simp [hlow]
  · rw [State.hasCondition, State.hasCondition, hnotices, startNotices]
    cases t.clock.set <;> by_cases hlow : t.freeLog ≤ 16 <;> simp [hlow, Notice.isOf]

theorem startUp (s : State) (kind : ResetKind) : NoticeLaws (s.startUp kind) := by
  by_cases hkind : kind = .retainedLoss
  · subst hkind
    rw [s.startUp_retainedLoss]
    exact of_startNotices (kind := .retainedLoss) rfl rfl rfl
  · obtain ⟨hstart, -⟩ := s.startUp_settled hkind
    refine of_startNotices (kind := kind) ?_ ?_ ?_
    · exact congrArg State.notices hstart
    · exact congrArg State.masks hstart
    · exact congrArg State.attn hstart

/-- Without main power no entry is pending, and the conditions are not judged (R91). -/
theorem powerDown (s : State) : NoticeLaws s.powerDown := by
  have hapart : NoticesApart [] := ⟨.nil, fun n hn => absurd hn List.not_mem_nil⟩
  have hpowered : s.powerDown.powered = false := rfl
  exact ⟨rfl, hapart, fun h => absurd (hpowered.symm.trans h) Bool.false_ne_true⟩

/-- Every act keeps the laws. -/
theorem act {t : State} (h : Act s t) (hs : NoticeLaws s) : NoticeLaws t := by
  cases h with
  | fault reason => exact hs.raise rfl _ _
  | answer tag kind a => exact hs.of_bulletin (by cases a <;> rfl)
  | perform r => exact perform_keeps hs.deed hs r
  | unwrapped l results => exact hs.completeLicence l results
  | startUp kind => exact startUp s kind
  | powerDown => exact powerDown s
  | clockTick => exact hs.clockTick
  | takePathByte b => exact hs.takePathByte b
  | finishSegment => exact hs.finishSegment
  | reachDeadline ch => exact hs.reachDeadline
  | sampleEdge ch => exact hs.sampleEdge
  | sendNextReturn | takeSegment => exact hs.of_bulletin (by simp)
  | receive | wait | send | reply | sent | empty => exact hs.of_bulletin (State.modLink_bulletin ..)
  | portSent => exact hs.of_bulletin rfl

end NoticeLaws

/-- Settles O19: every act keeps the laws, raises being of latched kinds alone, and each change of log or clock
brings its condition with it. -/
theorem noticeLawsAreKept : Obligations.NoticeLawsAreKept := fun _ _ hs h =>
  step_keeps (P := NoticeLaws) (fun _ _ hs => hs) NoticeLaws.act hs h

end Sys2Proof.Machine

/-! ## Request rows that are not executed (R10, R13, R115, R182 to R184) -/

namespace Sys2Proof.Machine

section
variable {c : Instr} {tag : Byte} {r : Request} {s : State}

/-- A request row that finds the execution place full is held as its frame (R182). -/
theorem exec_of_executing (hc : requestOf c = some (tag, r)) (hp : s.powered = true)
    (he : s.link.executing.isSome = true) : exec c s = .next (holdFrame (requestFrame tag r) s) := by
  obtain ⟨e, he⟩ := Option.isSome_iff_exists.mp he
  simp only [exec_of_requestOf s hc, request, whenPowered, hp, if_true, submit, he]

/-- A request row that finds it empty enters execution (R182). -/
theorem exec_of_empty (hc : requestOf c = some (tag, r)) (hp : s.powered = true)
    (he : s.link.executing = none) : exec c s = .next (enterRequest tag r s) := by
  simp only [exec_of_requestOf s hc, request, whenPowered, hp, if_true, submit, he]

/-- The BUSY reply of a request has its kind plus 0x80 (R183). -/
theorem busyKind_code (r : Request) : busyKind (requestKind r).code = (requestKind r).code + 0x80 := by
  rw [busyKind, requestKindOf_code]
  rfl

theorem State.sendMessage_of_room (kind : Byte) (body : List Byte) (h : s.link.waitingMessages < 16) :
    s.sendMessage tag kind body = s.modLink (fun l => { l with
      outgoing := l.outgoing ++ [{ isReply := false, tag := tag, kind := kind, body := body }] }) := by
  rw [State.sendMessage, if_pos h]

theorem State.sendMessage_of_full (kind : Byte) (body : List Byte) (h : 16 ≤ s.link.waitingMessages) :
    s.sendMessage tag kind body = s.raiseLinkFault .reportDropped := by
  rw [State.sendMessage, if_neg (Nat.not_lt.mpr h)]

/-- A frame that finds the waiting place full too is answered BUSY (R182). -/
theorem holdFrame_of_waiting (f : CommandFrame) (h : s.link.waiting.isSome = true) :
    holdFrame f s = s.sendMessage f.tag (busyKind f.kind) [Status.busy.code] := by
  obtain ⟨g, hg⟩ := Option.isSome_iff_exists.mp h
  rw [holdFrame, hg]

/-- The command of a request row carries what its request carries. -/
theorem wellFormed_of_requestOf (hc : requestOf c = some (tag, r)) : c.wellFormed = r.wellFormed := by
  cases c <;> simp [requestOf] at hc <;> obtain ⟨rfl, rfl⟩ := hc <;> rfl

/-- A request on no channel's number is answered BAD-VALUE (R183). -/
theorem perform_badChannel_reply {n : Byte} (hr : r.wellFormed = true) (hn : channelByte r = some n)
    (hch : channelOf n = none) : ∃ fields, (perform r s).2 = .reply (0x04 :: fields) := by
  have hrefused (k : Nat) (act : ChannelId → State × Answer) :
      ∃ fields, (onChannel n k s act).2 = .reply (0x04 :: fields) := by
    simp only [onChannel, hch]
    exact ⟨_, rfl⟩
  cases r with
  | loadShow m items =>
    cases hn
    simp only [perform, doLoadShow, hch]
    exact ⟨_, rfl⟩
  | setRoute m lanes =>
    cases hn
    have hlanes : lanes.length = 16 := by simpa [Request.wellFormed, lanesFit] using hr
    simp only [perform, doSetRoute, hlanes, ne_eq, not_true_eq_false, if_false]
    exact hrefused ..
  | configureChannel | setTracks | setStyle | setSubtitleOffset | channelReport | clearShow | cue | start
  | pause | resume | stop | jump | acknowledgeSuspension =>
    cases hn
    exact hrefused ..
  | _ => cases hn

end

/-- Settles O4: a held frame waits, is answered BUSY, or its BUSY reply is dropped. -/
theorem requestsBehindAnotherWaitOrAreBusy : Obligations.RequestsBehindAnotherWaitOrAreBusy := by
  intro c tag r s hc hp he
  rw [exec_of_executing hc hp he]
  refine ⟨fun hw => ?_, fun hw hroom => ?_, fun hw hfull => ?_⟩
  · rw [holdFrame, hw]
    rfl
  · rw [holdFrame_of_waiting _ hw, State.sendMessage_of_room _ _ hroom, requestFrame, busyKind_code]
    rfl
  · rw [holdFrame_of_waiting _ hw, State.sendMessage_of_full _ _ hfull]
    rfl

/-- Settles O5: check 2 of R183 for the tag; a bad channel number leaves the state and answers BAD-VALUE. -/
theorem badTagsAndChannelsAreRefused : Obligations.BadTagsAndChannelsAreRefused := by
  intro c tag r s hc hp he
  refine ⟨?_, fun n htag hwf hn h0 h1 => ?_⟩
  · rintro rfl
    rw [exec_of_empty hc hp he]
    rfl
  · have hch := channelOf_eq_none h0 h1
    obtain ⟨fields, hreply⟩ :=
      perform_badChannel_reply (s := s) ((wellFormed_of_requestOf hc).symm.trans hwf) hn hch
    refine ⟨fields, ?_⟩
    rw [exec_of_takes ⟨hp, he, htag⟩ hc, hreply, perform_of_badChannel s hn hch]
    rfl

end Sys2Proof.Machine

/-! ## Requests and replies of file 12 (R186 to R188, R191 to R193) -/

namespace Sys2Proof.Machine

theorem State.unmaskedCount_eq (s : State) :
    s.unmaskedCount = s.notices.countP (fun n => !maskedBy s.masks n.kind) :=
  List.countP_eq_length_filter.symm

/-- Settles O6: each of the four replies from the state and keeps it. -/
theorem readingRequestsReplyWithTheState : Obligations.ReadingRequestsReplyWithTheState := by
  intro s tag h
  refine ⟨?_, ?_, fun ch => ?_, ?_⟩
  · rw [exec_of_takes h rfl]
    rfl
  · rw [exec_of_takes h rfl, ← s.unmaskedCount_eq]
    rfl
  · rw [exec_of_takes h rfl]
    simp only [perform, doChannelReport, onChannel_number]
    rfl
  · rw [exec_of_takes h rfl]
    rfl

/-- The part that sends a reply takes it off its list at the last byte. -/
theorem State.replySent_of_replying {s : State} {e : Executing} {m : LinkMessage} {rest : List LinkMessage}
    (he : s.link.executing = some e) (hstage : e.stage = .replying) (hout : s.link.outgoing = m :: rest)
    (hm : m.isReply = true) : s.replySent =
      State.emptyPlace { s with link := { s.link with outgoing := rest, sent := some m.bytes } } := by
  rw [← State.popOutgoing_of_cons hout]
  simp only [State.replySent, he, CommandLink.sending, hout, List.head?_cons, hm, if_true, hstage]

/-- Settles O11: the reply leaves the list, and the place is emptied. -/
theorem replySentFreesTheExecutionPlace : Obligations.ReplySentFreesTheExecutionPlace := by
  intro s e m rest hp he hstage hout hm
  have hexec : exec .replySent s = .next (State.emptyPlace
      { s with link := { s.link with outgoing := rest, sent := some m.bytes } }) := by
    simp only [exec, execReplySent, whenPowered, hp, if_true, State.replySent_of_replying he hstage hout hm]
  rw [hexec]
  refine ⟨fun hw => ?_, fun f hw => ?_⟩
  · simp only [State.emptyPlace, hw, State.modLink]
  · simp only [State.emptyPlace, hw, State.modLink]

/-- Settles O7: the reply holds the place, and its last byte starts the part up (`State.startUp_settled`). -/
theorem softResetActsAfterItsReply : Obligations.SoftResetActsAfterItsReply := by
  refine fun s => ⟨fun tag h => (exec_of_takes h rfl).trans rfl, fun e m rest hp he hstage hout hm =>
    ⟨s.startUp .softReset, ?_, s.startUp_settled nofun⟩⟩
  simp only [exec, execReplySent, whenPowered, hp, if_true, State.replySent, he, CommandLink.sending, hout,
    List.head?_cons, hm, hstage]

/-! ### Notices cleared and masked, flags cleared -/

/-- ATTN by the entries left unmasked (R191). -/
theorem attnOf_eq (masks : BitVec 15) (l : List Notice) :
    attnOf masks l = !(l.filter (fun n => !maskedBy masks n.kind)).isEmpty := by
  induction l with
  | nil => rfl
  | cons n rest ih =>
    rw [attnOf, List.any_cons, List.filter_cons]
    cases maskedBy masks n.kind with
    | true => exact ih
    | false => rfl

/-- The bits of the masks by a kind's code (R191). -/
theorem maskedBy_changedMasks (masks : BitVec 15) (value change : Half) (k : NoticeKind) :
    maskedBy (changedMasks masks value change) k =
      if change.getLsbD (k.code - 1) then value.getLsbD (k.code - 1) else maskedBy masks k := by
  have hk : k.code - 1 < 15 := by cases k <;> decide
  simp only [maskedBy, changedMasks, BitVec.getLsbD_or, BitVec.getLsbD_and, BitVec.getLsbD_not,
    BitVec.getLsbD_setWidth, hk, decide_true, Bool.true_and]
  cases change.getLsbD (k.code - 1) <;> simp

/-- A list of pairs that CLEAR-NOTICES accepts (R193, check 4). -/
theorem all_ok_iff (pairs : List NoticePair) : pairs.all NoticePair.ok = true ↔
    ∀ p ∈ pairs, 1 ≤ p.kind.toNat ∧ p.kind.toNat ≤ 15 ∧
      (p.channel = 0 ∨ p.channel = 1 ∨ p.channel = 255) := by
  simp only [List.all_eq_true, NoticePair.ok, Bool.and_eq_true, Bool.or_eq_true, decide_eq_true_eq, and_assoc,
    or_assoc]

/-- CLEAR-NOTICES in either mode clears by its test (R193). -/
theorem doClearNotices_of_accepted {mode : Byte} {pairs : List NoticePair} {test : Notice → Bool} (s : State)
    (h : mode = 0 ∧ pairs = [] ∧ test = (fun _ => true) ∨
      mode = 1 ∧ 1 ≤ pairs.length ∧ pairs.length ≤ 24 ∧
        (∀ p ∈ pairs, 1 ≤ p.kind.toNat ∧ p.kind.toNat ≤ 15 ∧
          (p.channel = 0 ∨ p.channel = 1 ∨ p.channel = 255)) ∧
        test = (fun n => pairs.any (fun p =>
          n.kind.code = p.kind.toNat && noticeChannelByte n.channel = p.channel))) :
    doClearNotices mode pairs s = s.clearLatched test := by
  obtain ⟨rfl, rfl, rfl⟩ | ⟨rfl, hmin, hmax, hok, rfl⟩ := h
  · rfl
  · have hrange : ¬(pairs.length < 1 ∨ 24 < pairs.length ∨ (!pairs.all NoticePair.ok) = true) := by
      rw [(all_ok_iff pairs).mpr hok]
      simp only [Bool.not_true, Bool.false_eq_true, or_false]
      omega
    rw [doClearNotices, if_neg (by decide), if_pos rfl, if_neg hrange]
    rfl

/-- Settles O17: the three actions, with what their replies count. -/
theorem noticeSetAndCauseFlagsChangeAsAsked : Obligations.NoticeSetAndCauseFlagsChangeAsAsked := by
  refine ⟨fun s tag h mode pairs test htest => ?_, fun s tag h => ⟨fun value change hvalue hchange => ?_,
    fun mask hmask => ⟨s.cause.clear mask, rfl, rfl, rfl, rfl, ?_⟩⟩⟩
  · rw [exec_of_takes h rfl]
    simp only [perform, doClearNotices_of_accepted s htest, ← attnOf_eq]
    rfl
  · refine ⟨changedMasks s.masks value change, maskedBy_changedMasks s.masks value change, ?_⟩
    rw [exec_of_takes h rfl]
    simp only [perform, doMaskNotices, hvalue, hchange, Bool.false_eq_true, or_self, if_false,
      State.unmaskedCount_eq]
    rfl
  · rw [exec_of_takes h rfl]
    simp only [perform, doClearResetCause, if_neg (Nat.not_lt.mpr hmask)]
    rfl

/-! ### The order of READ-NOTICES (R192) -/

/-- An entry does not come before another of no higher rank: by level, then kind code, then channel. -/
def Notice.precedes (a b : Notice) : Prop :=
  b.kind.level < a.kind.level ∨ a.kind.level = b.kind.level ∧
    (a.kind.code < b.kind.code ∨ a.kind.code = b.kind.code ∧ ¬(a.channel = some .b ∧ b.channel = some .a))

/-- The place of a channel in the rank of its entry: none, A, B. -/
def channelPlace : Option ChannelId → Nat
  | none => 0
  | some .a => 1
  | some .b => 2

theorem channelPlace_le (c : Option ChannelId) : channelPlace c ≤ 2 := by
  rcases c with _ | _ | _ <;> decide

theorem Notice.rank_eq (n : Notice) :
    n.rank = ((7 - n.kind.level) * 16 + n.kind.code) * 3 + channelPlace n.channel := by
  unfold Notice.rank
  rcases n.channel with _ | _ | _ <;> rfl

/-- The rank orders by level, then kind code, then channel: a level is at most 7 and a code at most 15. -/
theorem Notice.precedes_of_rank {a b : Notice} (h : a.rank ≤ b.rank) : a.precedes b := by
  have hlevel (k : NoticeKind) : k.level ≤ 7 := by cases k <;> decide
  have hcode (k : NoticeKind) : k.code ≤ 15 := by cases k <;> decide
  have hla := hlevel a.kind
  have hlb := hlevel b.kind
  have hca := hcode a.kind
  have hcb := hcode b.kind
  have hpb := channelPlace_le b.channel
  rw [Notice.rank_eq, Notice.rank_eq] at h
  obtain hlt | heq | hgt := Nat.lt_trichotomy b.kind.level a.kind.level
  · exact .inl hlt
  · refine .inr ⟨heq.symm, ?_⟩
    obtain hlt | hcode' | hgt := Nat.lt_trichotomy a.kind.code b.kind.code
    · exact .inl hlt
    · refine .inr ⟨hcode', fun ⟨ha, hb⟩ => ?_⟩
      rw [ha, hb, heq, hcode'] at h
      exact absurd (Nat.le_of_add_le_add_left h) (by decide)
    · omega
  · omega

theorem insertNotice_perm (n : Notice) (l : List Notice) : (insertNotice n l).Perm (n :: l) := by
  induction l with
  | nil => exact .refl _
  | cons m rest ih =>
    unfold insertNotice
    split
    · exact .refl _
    · exact (ih.cons m).trans (.swap n m rest)

theorem sortNotices_perm (l : List Notice) : (sortNotices l).Perm l := by
  induction l with
  | nil => exact .refl _
  | cons n rest ih => exact (insertNotice_perm n _).trans (ih.cons n)

theorem insertNotice_sorted (n : Notice) {l : List Notice} (h : l.Pairwise (fun a b => a.rank ≤ b.rank)) :
    (insertNotice n l).Pairwise (fun a b => a.rank ≤ b.rank) := by
  induction l with
  | nil => exact List.pairwise_singleton ..
  | cons m rest ih =>
    obtain ⟨hm, hrest⟩ := List.pairwise_cons.mp h
    unfold insertNotice
    split
    · rename_i hle
      exact List.pairwise_cons.mpr ⟨fun x hx => (List.mem_cons.mp hx).elim (fun he => he ▸ hle)
        fun hx => hle.trans (hm x hx), h⟩
    · rename_i hlt
      refine List.pairwise_cons.mpr ⟨fun x hx => ?_, ih hrest⟩
      obtain rfl | hx := List.mem_cons.mp ((insertNotice_perm n rest).subset hx)
      · exact (Nat.lt_of_not_le hlt).le
      · exact hm x hx

theorem sortNotices_sorted (l : List Notice) :
    (sortNotices l).Pairwise (fun a b => a.rank ≤ b.rank) := by
  induction l with
  | nil => exact .nil
  | cons n rest ih => exact insertNotice_sorted n ih

/-- Settles O18: the reply lists the set sorted by rank. -/
theorem readNoticesListsTheSetInOrder : Obligations.ReadNoticesListsTheSetInOrder := by
  refine fun s tag h => ⟨sortNotices s.notices, sortNotices_perm _,
    (sortNotices_sorted _).imp Notice.precedes_of_rank, ?_⟩
  rw [exec_of_takes h rfl, ← s.unmaskedCount_eq]
  rfl

end Sys2Proof.Machine

/-! ## Frames on the link, byte by byte (R179 to R181, R184, R196) -/

namespace Sys2Proof.Machine

/-! ### Fields of held bytes -/

/-- Bytes written again from the number that they spell. -/
theorem leBytes_leNat (l : List Byte) : leBytes l.length (leNat l) = l := by
  induction l with
  | nil => rfl
  | cons b rest ih =>
    have hbyte : BitVec.ofNat 8 (b.toNat + 256 * leNat rest) = b :=
      BitVec.eq_of_toNat_eq (by rw [BitVec.toNat_ofNat]; omega)
    have hrest : (b.toNat + 256 * leNat rest) / 256 = leNat rest := by omega
    rw [List.length_cons, leNat, leBytes, hbyte, hrest, ih]

/-- The LENGTH field of a frame (R179). -/
theorem fieldAt_length {inner : List Byte} (rest : List Byte) (h : inner.length ≤ 2050) :
    fieldAt (leBytes 2 inner.length ++ rest) 0 2 = inner.length := by
  rw [fieldAt_leBytes_append]
  omega

/-- The CHECK of a whole frame matches exactly when its bytes are those of the CRC-16 (R179, R195). -/
theorem checkMatches_iff {inner : List Byte} (h : inner.length ≤ 2050) (c0 c1 : Byte) :
    checkMatches (leBytes 2 inner.length ++ inner ++ [c0, c1]) = true ↔
      [c0, c1] = leBytes 2 (crc16 (leBytes 2 inner.length ++ inner)).toNat := by
  have hlen : (leBytes 2 inner.length ++ inner).length = 2 + inner.length := by simp
  have hfield : fieldAt (leBytes 2 inner.length ++ inner ++ [c0, c1]) 0 2 = inner.length := by
    rw [List.append_assoc, fieldAt_length _ h]
  have htake : (leBytes 2 inner.length ++ inner ++ [c0, c1]).take (2 + inner.length) =
      leBytes 2 inner.length ++ inner := List.take_left' hlen
  have hcheck : fieldAt (leBytes 2 inner.length ++ inner ++ [c0, c1]) (2 + inner.length) 2 = leNat [c0, c1] := by
    rw [← hlen]
    exact fieldAt_append_right _ [c0, c1] 0 2
  have hcrc : leNat (leBytes 2 (crc16 (leBytes 2 inner.length ++ inner)).toNat) =
      (crc16 (leBytes 2 inner.length ++ inner)).toNat := by
    rw [leNat_leBytes]
    exact Nat.mod_eq_of_lt (BitVec.isLt _)
  rw [checkMatches, hfield, htake, hcheck, decide_eq_true_eq]
  refine ⟨fun h => ?_, fun h => ?_⟩
  · rw [← h]
    exact (leBytes_leNat [c0, c1]).symm
  · rw [h, hcrc]

/-- TAG, KIND and BODY of a whole frame (R179). -/
theorem frameOf_whole {tag kind : Byte} {body : List Byte} (h : body.length ≤ 2048) (check : List Byte) :
    frameOf (leBytes 2 (tag :: kind :: body).length ++ (tag :: kind :: body) ++ check) =
      { tag := tag, kind := kind, body := body } := by
  have hfield : fieldAt (leBytes 2 (tag :: kind :: body).length ++ (tag :: kind :: body) ++ check) 0 2 - 2 =
      body.length := by
    rw [List.append_assoc, fieldAt_length _ (by simp only [List.length_cons]; omega)]
    rfl
  rw [frameOf, hfield]
  simp [leBytes, byteAt]

/-! ### The receiver, byte by byte -/

section
variable (s : State)

@[simp] theorem State.setReceiver_setReceiver (rx rx' : LinkState) (held held' : List Byte)
    (stray stray' : StrayRun) :
    (s.setReceiver rx held stray).setReceiver rx' held' stray' = s.setReceiver rx' held' stray' := rfl

/-- A receiver set as it stands. -/
theorem State.setReceiver_self {s : State} {rx : LinkState} {held : List Byte} {stray : StrayRun}
    (hrx : s.link.rx = rx) (hheld : s.link.held = held) (hstray : s.link.stray = stray) :
    s.setReceiver rx held stray = s := by
  subst hrx hheld hstray
  rfl

/-- A SYNC in HUNT opens a frame, and reports a stray run before it (R180). -/
theorem State.huntByte_sync : s.huntByte syncByte =
    if s.link.stray = .run then (s.setReceiver .length [] .none).linkFault .stray
    else s.setReceiver .length [] .none := rfl

/-- Any other byte in HUNT is discarded (R180). -/
theorem State.huntByte_of_ne {b : Byte} (hb : b ≠ syncByte) :
    s.huntByte b = s.setReceiver .hunt [] s.link.stray.discard := if_neg hb

/-- The two bytes of a LENGTH in range (R179, R180). -/
theorem State.takeLinkBytes_length {n : Nat} (hmin : 2 ≤ n) (hmax : n ≤ 2050) :
    (s.setReceiver .length [] .none).takeLinkBytes (leBytes 2 n) =
      s.setReceiver .frame (leBytes 2 n) .none := by
  have hvalue : leNat [BitVec.ofNat 8 n, BitVec.ofNat 8 (n / 256)] = n :=
    (leNat_leBytes 2 n).trans (Nat.mod_eq_of_lt (by omega))
  have hrange : ¬(n < 2 ∨ 2050 < n) := by omega
  show (s.setReceiver .length [BitVec.ofNat 8 n] .none).lengthByte (BitVec.ofNat 8 (n / 256)) = _
  simp only [State.lengthByte, State.setReceiver, State.modLink_link, hvalue, hrange, if_false]
  rfl

/-- Bytes of a frame that do not yet make it whole are held (R180). -/
theorem State.takeLinkBytes_held (bytes held : List Byte) (hlength : 2 ≤ held.length)
    (hshort : held.length + bytes.length < 4 + fieldAt held 0 2) :
    (s.setReceiver .frame held .none).takeLinkBytes bytes = s.setReceiver .frame (held ++ bytes) .none := by
  induction bytes generalizing held with
  | nil => rw [List.append_nil]; rfl
  | cons b rest ih =>
    have hfield : fieldAt (held ++ [b]) 0 2 = fieldAt held 0 2 := fieldAt_append_left hlength
    rw [List.length_cons] at hshort
    have hbyte : (s.setReceiver .frame held .none).takeLinkByte b = s.setReceiver .frame (held ++ [b]) .none := by
      show (s.setReceiver .frame held .none).frameByte b = _
      have hstill : (held ++ [b]).length < 4 + fieldAt held 0 2 := by
        rw [List.length_append, List.length_singleton]
        omega
      simp only [State.frameByte, State.setReceiver, State.modLink_link, hfield, hstill, if_true]
      rfl
    show ((s.setReceiver .frame held .none).takeLinkByte b).takeLinkBytes rest = _
    rw [hbyte, ih (held ++ [b]) (by simp; omega) (by rw [hfield, List.length_append, List.length_singleton]; omega),
      List.append_assoc]
    rfl

/-- The last byte of a whole frame has it placed, or reported (R180, R182, R184). -/
theorem State.frameByte_last {inner : List Byte} (hmax : inner.length ≤ 2050) (c0 c1 : Byte) :
    (s.setReceiver .frame (leBytes 2 inner.length ++ inner ++ [c0]) .none).frameByte c1 =
      if [c0, c1] = leBytes 2 (crc16 (leBytes 2 inner.length ++ inner)).toNat then
        placeFrame (frameOf (leBytes 2 inner.length ++ inner ++ [c0, c1])) (s.setReceiver .hunt [] .none)
      else (s.setReceiver .hunt [] .afterFault).linkFault .check := by
  have hheld : (s.setReceiver .frame (leBytes 2 inner.length ++ inner ++ [c0]) .none).link.held ++ [c1] =
      leBytes 2 inner.length ++ inner ++ [c0, c1] := by
    show _ ++ [c0] ++ [c1] = _
    rw [List.append_assoc]
    rfl
  have hwhole : ¬(leBytes 2 inner.length ++ inner ++ [c0, c1]).length <
      4 + fieldAt (leBytes 2 inner.length ++ inner ++ [c0, c1]) 0 2 := by
    rw [List.append_assoc, fieldAt_length _ hmax]
    simp
    omega
  rw [State.frameByte]
  simp only [hheld, if_neg hwhole, checkMatches_iff hmax, State.setReceiver_setReceiver]

end

/-- The bytes of a frame from SYNC to CHECK, taken in HUNT without a stray run to report (R179, R180). -/
theorem State.takeLinkBytes_frame {s : State} {inner : List Byte} (hrx : s.link.rx = .hunt)
    (hstray : s.link.stray ≠ .run) (hmin : 2 ≤ inner.length) (hmax : inner.length ≤ 2050) (c0 c1 : Byte) :
    s.takeLinkBytes (syncByte :: leBytes 2 inner.length ++ inner ++ [c0, c1]) =
      if [c0, c1] = leBytes 2 (crc16 (leBytes 2 inner.length ++ inner)).toNat then
        placeFrame (frameOf (leBytes 2 inner.length ++ inner ++ [c0, c1])) (s.setReceiver .hunt [] .none)
      else (s.setReceiver .hunt [] .afterFault).linkFault .check := by
  have hsync : s.takeLinkByte syncByte = s.setReceiver .length [] .none := by
    rw [State.takeLinkByte, hrx]
    exact s.huntByte_sync.trans (if_neg hstray)
  have hfield : fieldAt (leBytes 2 inner.length) 0 2 = inner.length := by
    simpa using fieldAt_length (inner := inner) [] hmax
  have hheld := s.takeLinkBytes_held (inner ++ [c0]) (leBytes 2 inner.length) (by simp)
    (by rw [hfield]; simp; omega)
  have hbytes : syncByte :: leBytes 2 inner.length ++ inner ++ [c0, c1] =
      syncByte :: (leBytes 2 inner.length ++ ((inner ++ [c0]) ++ [c1])) := by simp
  rw [← s.frameByte_last hmax, hbytes, State.takeLinkBytes, List.foldl_cons, hsync, List.foldl_append]
  change ((s.setReceiver .length [] .none).takeLinkBytes (leBytes 2 inner.length)).takeLinkBytes
    ((inner ++ [c0]) ++ [c1]) = _
  rw [s.takeLinkBytes_length hmin hmax, State.takeLinkBytes, List.foldl_append]
  change ((s.setReceiver .frame (leBytes 2 inner.length) .none).takeLinkBytes (inner ++ [c0])).takeLinkByte c1 = _
  rw [hheld, List.append_assoc]
  rfl

end Sys2Proof.Machine

/-! ## Faults of the receiver (R180, R181, R184) -/

namespace Sys2Proof.Machine

section
variable {s : State}

theorem exec_of_bytes {bytes : List Byte} {c : Instr} (hp : s.powered = true)
    (hc : c = .frameFault bytes ∨ c = .syncFound bytes ∨ c = .commandFrameCompleted bytes) :
    exec c s = .next (s.takeLinkBytes bytes) := by
  have hwhen : whenPowered s (s.takeLinkBytes bytes) = .next (s.takeLinkBytes bytes) := by
    rw [whenPowered, if_pos hp]
  obtain rfl | rfl | rfl := hc <;> exact hwhen

theorem exec_silence (hp : s.powered = true) : exec .partialFrameTimeout s = .next s.linkSilence := by
  simp only [exec, execPartialFrameTimeout, whenPowered, hp, if_true]

/-- One byte in HUNT (R180). -/
theorem State.takeLinkBytes_hunt (hrx : s.link.rx = .hunt) (b : Byte) : s.takeLinkBytes [b] = s.huntByte b := by
  simp only [State.takeLinkBytes, List.foldl_cons, List.foldl_nil, State.takeLinkByte, hrx]

/-- A SYNC in HUNT, as a row (R180). -/
theorem exec_syncFound_hunt (hp : s.powered = true) (hrx : s.link.rx = .hunt) :
    exec (.syncFound [0xC5]) s = .next (s.huntByte syncByte) :=
  (exec_of_bytes hp (.inr (.inl rfl))).trans (congrArg Host.Outcome.next (State.takeLinkBytes_hunt hrx syncByte))

/-- A fault that leaves the receiver in a new state and finds room for its report (R184). -/
theorem State.setReceiver_linkFault (h : s.link.waitingMessages < 16) (rx : LinkState) (held : List Byte)
    (stray : StrayRun) (reason : LinkFaultReason) : (s.setReceiver rx held stray).linkFault reason =
      State.raise { s with
        link := { s.link with
          rx := rx, held := held, stray := stray
          outgoing := s.link.outgoing ++
            [{ isReply := false, tag := 0, kind := 0xFF, body := [reason.code] }] } }
        .linkFault none (.linkFault reason) :=
  State.linkFault_of_room _ reason h

/-- The second byte of an impossible LENGTH (R180). -/
theorem State.lengthByte_of_bad {b0 b1 : Byte} (hheld : s.link.held = [b0])
    (hbad : b0.toNat + 256 * b1.toNat < 2 ∨ 2050 < b0.toNat + 256 * b1.toNat) :
    s.lengthByte b1 = (s.linkFault .length).searchLength b0 b1 := by
  have hvalue : leNat [b0, b1] = b0.toNat + 256 * b1.toNat := by simp [leNat]
  simp only [State.lengthByte, hheld, hvalue, if_pos hbad]

/-- The search among the two bytes of an impossible LENGTH (R180). -/
theorem State.searchLength_eq (b0 b1 : Byte) : s.searchLength b0 b1 =
    s.setReceiver (if b0 = 0xC5 ∨ b1 = 0xC5 then .length else .hunt) (if b0 = 0xC5 then [b1] else [])
      (if b0 = 0xC5 ∨ b1 = 0xC5 then .none else .faultRun) := by
  have hunfold : s.searchLength b0 b1 = if b0 = 0xC5 then s.setReceiver .length [b1] .none
      else if b1 = 0xC5 then s.setReceiver .length [] .none else s.setReceiver .hunt [] .faultRun := rfl
  rw [hunfold]
  by_cases h0 : b0 = 0xC5
  · simp only [h0, if_true, true_or]
  · by_cases h1 : b1 = 0xC5
    · simp only [h0, h1, if_true, if_false, or_true]
    · simp only [h0, h1, if_false, or_self]

end

/-- Settles O14: a whole frame by `State.takeLinkBytes_frame`, and each other byte or silence by the branch of the
receiver that takes it. -/
theorem theReceiverOpensFramesAndReportsFaults : Obligations.TheReceiverOpensFramesAndReportsFaults := by
  refine ⟨fun s hp hroom => ⟨?_, ?_⟩, fun s hp => ⟨?_, ?_, ?_⟩, fun s hp hrx => ⟨?_, ?_, ?_⟩⟩
  · intro inner c0 c1 hrx hstray hmin hmax hcheck
    have htake := State.takeLinkBytes_frame hrx (by simp [hstray]) hmin hmax c0 c1
    rw [if_neg hcheck, State.setReceiver_linkFault hroom] at htake
    exact (exec_of_bytes hp (.inl rfl)).trans (congrArg Host.Outcome.next htake)
  · intro b0 b1 hrx hheld hbad
    have htake : s.takeLinkBytes [b1] = (s.linkFault .length).searchLength b0 b1 := by
      rw [← State.lengthByte_of_bad hheld hbad]
      simp only [State.takeLinkBytes, List.foldl_cons, List.foldl_nil, State.takeLinkByte, hrx]
    rw [exec_of_bytes hp (.inl rfl), htake, State.searchLength_eq, State.linkFault_of_room _ _ hroom]
    rfl
  · intro hrx hstray
    rw [exec_syncFound_hunt hp hrx, State.huntByte_sync, if_neg (by simp [hstray])]
    rw [← hstray]
    rfl
  · intro hrx hroom
    have hsilence : s.linkSilence = (s.setReceiver .hunt [] .none).linkFault .timeout := by
      obtain hrx | hrx := hrx <;> simp only [State.linkSilence, hrx]
    rw [exec_silence hp, hsilence, State.setReceiver_linkFault hroom]
    rfl
  · intro hrx hstray
    simp only [exec_silence hp, State.linkSilence, hrx, hstray]
  · intro b hb
    have hdiscard : s.link.stray.discard =
        if s.link.stray = .none ∨ s.link.stray = .run then .run else .faultRun := by
      cases s.link.stray <;> rfl
    rw [exec_of_bytes hp (.inl rfl), State.takeLinkBytes_hunt hrx, State.huntByte_of_ne _ hb, hdiscard, ← hrx]
    rfl
  · rintro hstray hroom c rx (⟨rfl, rfl⟩ | ⟨rfl, rfl⟩)
    · rw [exec_syncFound_hunt hp hrx, State.huntByte_sync, if_pos hstray, State.setReceiver_linkFault hroom]
      rfl
    · have hsilence : s.linkSilence = (s.setReceiver .hunt [] .none).linkFault .stray := by
        simp only [State.linkSilence, hrx, hstray]
      rw [exec_silence hp, hsilence, State.setReceiver_linkFault hroom]
      rfl
  · intro hstray
    have hrun : s.link.stray ≠ .run := by obtain h | h := hstray <;> simp [h]
    rw [exec_syncFound_hunt hp hrx, State.huntByte_sync, if_neg hrun]
    rfl

end Sys2Proof.Machine

/-! ## Bodies written and read back (R195, R197) -/

namespace Sys2Proof.Machine

section
variable (b : Byte) (k v n w : Nat) (rest : List Byte)

@[simp] theorem byteAt_cons_zero : byteAt (b :: rest) 0 = b := rfl

@[simp] theorem byteAt_cons_succ : byteAt (b :: rest) (n + 1) = byteAt rest n := rfl

@[simp] theorem fieldAt_cons_succ : fieldAt (b :: rest) (n + 1) w = fieldAt rest n w := rfl

/-- A byte behind a field. -/
theorem byteAt_leBytes_append {k n : Nat} (h : k ≤ n) : byteAt (leBytes k v ++ rest) n = byteAt rest (n - k) := by
  simp [byteAt, List.getElem?_append_right, h]

/-- A field behind a field. -/
theorem fieldAt_leBytes_append_of_le {k n : Nat} (h : k ≤ n) :
    fieldAt (leBytes k v ++ rest) n w = fieldAt rest (n - k) w := by
  simpa [h] using fieldAt_append_right (leBytes k v) rest (n - k) w

/-- A word read back from its own field, in front of others. -/
theorem ofNat_fieldAt_append {w k : Nat} (x : BitVec w) (h : w ≤ 8 * k) :
    BitVec.ofNat w (fieldAt (leBytes k x.toNat ++ rest) 0 k) = x := by
  have hwidth : 2 ^ w ≤ 256 ^ k := by
    rw [show 256 = 2 ^ 8 from rfl, ← Nat.pow_mul]
    exact Nat.pow_le_pow_right (by decide) h
  rw [fieldAt_leBytes_append, Nat.mod_eq_of_lt (Nat.lt_of_lt_of_le x.isLt hwidth), BitVec.ofNat_toNat,
    BitVec.setWidth_eq]

/-- A word read back from its own field, the last one. -/
theorem ofNat_fieldAt {w k : Nat} (x : BitVec w) (h : w ≤ 8 * k) :
    BitVec.ofNat w (fieldAt (leBytes k x.toNat) 0 k) = x := by
  simpa using ofNat_fieldAt_append [] x h

/-- A count that one byte can hold. -/
theorem toNat_byteOf {n : Nat} (h : n ≤ 255) : (byteOf n).toNat = n := by
  rw [byteOf, BitVec.toNat_ofNat]
  omega

end

/-! ### Lists of equal entries -/

section
variable {α : Type} {f : α → List Byte} {read : List Byte → α} {width : Nat}

/-- The first of some entries, and the others. -/
theorem entriesAt_succ (body : List Byte) (offset n : Nat) :
    entriesAt body offset width (n + 1) read =
      read ((body.drop offset).take width) :: entriesAt body (offset + width) width n read := by
  simp only [entriesAt, List.range_succ_eq_map, List.map_cons, List.map_map, Nat.mul_zero, Nat.add_zero]
  congr 1
  refine List.map_congr_left fun i _ => ?_
  simp only [Function.comp, Nat.mul_succ]
  congr 3
  omega

/-- Entries written one after another are read back in order. -/
theorem entriesAt_map (hwidth : ∀ a, (f a).length = width) (hread : ∀ a, read (f a) = a) (l : List α)
    {front rest body : List Byte} {offset n : Nat} (hbody : body = front ++ (l.map f).flatten ++ rest)
    (hoffset : front.length = offset) (hn : n = l.length) : entriesAt body offset width n read = l := by
  subst hbody hoffset hn
  induction l generalizing front with
  | nil => rfl
  | cons a l ih =>
    have hrest := ih (front := front ++ f a)
    have hfirst : ((front ++ (f a ++ (l.map f).flatten) ++ rest).drop front.length).take width = f a := by
      rw [List.append_assoc, List.drop_left, List.append_assoc, ← hwidth a, List.take_left]
    rw [List.length_append, hwidth, List.append_assoc front] at hrest
    rw [List.length_cons, entriesAt_succ, List.map_cons, List.flatten_cons, hfirst, hread, hrest]

end

/-! ### Entries -/

theorem readTrack_trackBytes (t : TrackEntry) : readTrack (trackBytes t) = t := by
  simp [readTrack, trackBytes, fieldAt_leBytes_append_of_le, ofNat_fieldAt_append, ofNat_fieldAt]

theorem readReel_reelBytes (r : ReelEntry) : readReel (reelBytes r) = r := by
  simp [readReel, reelBytes, fieldAt_leBytes_append_of_le, ofNat_fieldAt_append, ofNat_fieldAt]

theorem readKeyEntry_keyEntryBytes (k : KeyEntry) : readKeyEntry (keyEntryBytes k) = k := by
  simp [readKeyEntry, keyEntryBytes, byteAt_leBytes_append, fieldAt_leBytes_append_of_le, ofNat_fieldAt_append,
    ofNat_fieldAt]

/-! ### Records with a list -/

theorem length_compositionBytes (c : Composition) :
    (compositionBytes c).length = 21 + 6 * c.tracks.length + 28 * c.reels.length := by
  rw [compositionBytes, List.length_append, List.length_append,
    Laws.length_flatten_map trackBytes 6 _ (fun a _ => by simp [trackBytes]),
    Laws.length_flatten_map reelBytes 28 _ (fun a _ => by simp [reelBytes])]
  simp

theorem byteAt_compositionBytes_tracks (c : Composition) :
    byteAt (compositionBytes c) 19 = byteOf c.tracks.length := by
  simp [compositionBytes, byteAt_leBytes_append]

theorem byteAt_compositionBytes_reels (c : Composition) :
    byteAt (compositionBytes c) 20 = byteOf c.reels.length := by
  simp [compositionBytes, byteAt_leBytes_append]

theorem readComposition_compositionBytes {c : Composition} (ht : c.tracks.length ≤ 255)
    (hr : c.reels.length ≤ 255) : readComposition (compositionBytes c) = c := by
  have htrackList : entriesAt (compositionBytes c) 21 6 c.tracks.length readTrack = c.tracks :=
    entriesAt_map (f := trackBytes) (fun a => by simp [trackBytes]) readTrack_trackBytes c.tracks rfl
      (by simp) rfl
  have hreelList : entriesAt (compositionBytes c) (21 + 6 * c.tracks.length) 28 c.reels.length readReel = c.reels :=
    entriesAt_map (f := reelBytes) (fun a => by simp [reelBytes]) readReel_reelBytes c.reels
      (List.append_nil _).symm
      (by
        rw [List.length_append, Laws.length_flatten_map trackBytes 6 _ (fun a _ => by simp [trackBytes])]
        simp)
      rfl
  rw [readComposition, byteAt_compositionBytes_tracks, byteAt_compositionBytes_reels, toNat_byteOf ht,
    toNat_byteOf hr, htrackList, hreelList]
  simp [compositionBytes, byteAt_leBytes_append, fieldAt_leBytes_append_of_le, ofNat_fieldAt_append]

theorem length_licenceLoadBytes (l : LicenceLoad) :
    (licenceLoadBytes l).length = 28 + 41 * l.keys.length := by
  rw [licenceLoadBytes, List.length_append,
    Laws.length_flatten_map keyEntryBytes 41 _ (fun a _ => by simp [keyEntryBytes])]
  simp

theorem byteAt_licenceLoadBytes_count (l : LicenceLoad) :
    byteAt (licenceLoadBytes l) 27 = byteOf l.keys.length := by
  simp [licenceLoadBytes, byteAt_leBytes_append]

theorem readLicenceLoad_licenceLoadBytes {l : LicenceLoad} (hkeys : l.keys.length ≤ 255) :
    readLicenceLoad (licenceLoadBytes l) = l := by
  have hlist : entriesAt (licenceLoadBytes l) 28 41 l.keys.length readKeyEntry = l.keys :=
    entriesAt_map (f := keyEntryBytes) (fun a => by simp [keyEntryBytes]) readKeyEntry_keyEntryBytes l.keys
      (List.append_nil _).symm (by simp) rfl
  rw [readLicenceLoad, byteAt_licenceLoadBytes_count, toNat_byteOf hkeys, hlist]
  simp [licenceLoadBytes, byteAt_leBytes_append, fieldAt_leBytes_append_of_le, ofNat_fieldAt_append]

/-! ### Judgments of length and count -/

/-- LOAD-COMPOSITION's body with counts in range (R3). -/
theorem parseComposition_compositionBytes {c : Composition} (h : countsInRange c = true) :
    parseComposition (compositionBytes c) = .request (.loadComposition c) := by
  obtain ⟨⟨hmin, hmax⟩, htracks⟩ : (1 ≤ c.reels.length ∧ c.reels.length ≤ 64) ∧ c.tracks.length ≤ 4 := by
    simpa [countsInRange] using h
  have hlength := length_compositionBytes c
  rw [parseComposition, if_neg (by omega), byteAt_compositionBytes_tracks, byteAt_compositionBytes_reels,
    toNat_byteOf (by omega), toNat_byteOf (by omega)]
  dsimp only
  rw [if_neg (by omega), if_neg (by omega), readComposition_compositionBytes (by omega) (by omega)]

/-- LOAD-SHOW's body (R8, check 1). -/
theorem parseShow_requestBody (ch : Byte) {items : List ShowItem} (h : items.length ≤ 255) :
    parseShow (requestBody (.loadShow ch items)) = .request (.loadShow ch items) := by
  have hlength : (requestBody (.loadShow ch items)).length = 2 + 3 * items.length := by
    rw [requestBody, List.length_append, Laws.length_flatten_map showItemBytes 3 _ (fun _ _ => rfl)]
    rfl
  have hchannel : byteAt (requestBody (.loadShow ch items)) 0 = ch := rfl
  have hcount : byteAt (requestBody (.loadShow ch items)) 1 = byteOf items.length := rfl
  have hlist : entriesAt (requestBody (.loadShow ch items)) 2 3 items.length
      (fun e => { slot := byteAt e 0, entryReel := byteAt e 1, pauseAfter := byteAt e 2 }) = items :=
    entriesAt_map (f := showItemBytes) (fun _ => rfl) (fun _ => rfl) items (List.append_nil _).symm rfl rfl
  rw [parseShow, hchannel, hcount, toNat_byteOf h, if_neg (by omega), hlist]

/-- LOAD-LICENCE's body with a key count in range (R76). -/
theorem parseLicence_licenceLoadBytes {l : LicenceLoad} (hmin : 1 ≤ l.keys.length)
    (hmax : l.keys.length ≤ 16) :
    parseLicence (licenceLoadBytes l) = .request (.loadLicence l) := by
  have hlength := length_licenceLoadBytes l
  rw [parseLicence, if_neg (by omega), byteAt_licenceLoadBytes_count, toNat_byteOf (by omega)]
  dsimp only
  rw [if_neg (by omega), if_neg (by omega), readLicenceLoad_licenceLoadBytes (by omega)]

/-- CLEAR-NOTICES's body with a list (R193). -/
theorem parseClearNotices_listed {pairs : List NoticePair} (h : pairs.length ≤ 255) :
    parseClearNotices (requestBody (.clearNotices 1 pairs)) = .request (.clearNotices 1 pairs) := by
  have hbody : requestBody (.clearNotices 1 pairs) =
      [1, byteOf pairs.length] ++ (pairs.map (fun p => [p.kind, p.channel])).flatten := rfl
  have hlength : (requestBody (.clearNotices 1 pairs)).length = 2 + 2 * pairs.length := by
    rw [hbody, List.length_append, Laws.length_flatten_map _ 2 pairs (fun _ _ => rfl)]
    rfl
  have hmode : byteAt (requestBody (.clearNotices 1 pairs)) 0 = 1 := rfl
  have hcount : byteAt (requestBody (.clearNotices 1 pairs)) 1 = byteOf pairs.length := rfl
  have hsome : (requestBody (.clearNotices 1 pairs)).isEmpty = false := rfl
  have hlist : entriesAt (requestBody (.clearNotices 1 pairs)) 2 2 pairs.length
      (fun e => { kind := byteAt e 0, channel := byteAt e 1 }) = pairs :=
    entriesAt_map (f := fun p : NoticePair => [p.kind, p.channel]) (fun _ => rfl) (fun _ => rfl) pairs
      (hbody.trans (List.append_nil _).symm) rfl rfl
  rw [parseClearNotices, hsome, hmode, hcount, toNat_byteOf h, if_neg (by decide), if_neg (by decide),
    if_pos rfl, if_neg (by omega), hlist]

/-- SET-ROUTE's body with 16 lanes (R169). -/
theorem parseFixed_setRoute (ch : Byte) {lanes : List LaneEntry} (h : lanes.length = 16) :
    parseFixed .setRoute (requestBody (.setRoute ch lanes)) = .request (.setRoute ch lanes) := by
  have hchannel : byteAt (requestBody (.setRoute ch lanes)) 0 = ch := rfl
  have hlist : entriesAt (requestBody (.setRoute ch lanes)) 1 4 16
      (fun e => { source := byteAt e 0, gain := byteAt e 1, delay := BitVec.ofNat 16 (fieldAt e 2 2) }) = lanes :=
    entriesAt_map (f := laneBytes) (fun _ => by simp [laneBytes]) (fun _ => by simp [laneBytes, ofNat_fieldAt]) lanes
      (front := [ch]) (List.append_nil _).symm rfl h.symm
  rw [parseFixed, hchannel, hlist]

/-- A body in range is read as the request that it was written from (R183, R197). -/
theorem parseBody_requestBody {r : Request} (hw : r.wellFormed = true) (hr : readsBack r = true) :
    parseBody (requestKind r) (requestBody r) = .request r := by
  cases r with
  | loadComposition c => exact parseComposition_compositionBytes hr
  | loadShow ch items => exact parseShow_requestBody ch (by simpa [Request.wellFormed, showFits] using hw)
  | loadLicence l =>
    obtain ⟨hmin, hmax⟩ : 1 ≤ l.keys.length ∧ l.keys.length ≤ 16 := by simpa [readsBack] using hr
    exact parseLicence_licenceLoadBytes hmin hmax
  | clearNotices mode pairs =>
    obtain ⟨hcount, hempty⟩ : pairs.length ≤ 255 ∧ (mode ≠ 0 ∨ pairs = []) := by
      simpa [Request.wellFormed, pairsFit] using hw
    have hmode : mode.toNat ≤ 1 := by simpa [readsBack] using hr
    obtain rfl | rfl : mode = 0 ∨ mode = 1 := by bv_omega
    · obtain rfl := hempty.resolve_left (by simp)
      rfl
    · exact parseClearNotices_listed hcount
  | setRoute ch lanes =>
    have hlanes : lanes.length = 16 := by simpa [Request.wellFormed, lanesFit] using hw
    have hlength : (requestBody (.setRoute ch lanes)).length = 65 := by
      rw [requestBody, List.length_cons, Laws.length_flatten_map laneBytes 4 _ (fun _ _ => by simp [laneBytes]),
        hlanes]
    exact (if_pos hlength).trans (parseFixed_setRoute ch hlanes)
  | _ =>
    simp [parseBody, requestKind, RequestKind.fixedSize, parseFixed, requestBody, fieldAt_leBytes_append_of_le,
      byteAt_leBytes_append, ofNat_fieldAt_append, ofNat_fieldAt]

/-- A body is at most the 2048 bytes that a frame carries (R179, R197). -/
theorem length_requestBody_le {r : Request} (hw : r.wellFormed = true) : (requestBody r).length ≤ 2048 := by
  cases r with
  | loadComposition c => exact ((Laws.Sized.loadComposition 0 c hw).1 0 _ rfl).2
  | loadShow ch items => exact ((Laws.Sized.loadShow 0 ch items hw).1 0 _ rfl).2
  | loadLicence l => exact ((Laws.Sized.loadLicence 0 l hw).1 0 _ rfl).2
  | clearNotices mode pairs => exact ((Laws.Sized.clearNotices 0 mode pairs hw).1 0 _ rfl).2
  | setRoute ch lanes => exact ((Laws.Sized.setRoute 0 ch lanes hw).1 0 _ rfl).2
  | _ => simp [requestBody]

/-! ### The frame of a request -/

/-- A request frame in the execution place is performed as its request (R183). -/
theorem executeFrame_requestFrame {r : Request} (hw : r.wellFormed = true) (hr : readsBack r = true) (tag : Byte)
    (s : State) : executeFrame (requestFrame tag r) s = enterRequest tag r s := by
  simp only [executeFrame, requestFrame, requestKindOf_code, parseBody_requestBody hw hr]
  by_cases htag : tag = 0
  · simp only [htag, enterRequest, if_true]
  · simp only [if_neg htag]

/-- A request frame is placed as its request is submitted (R182). -/
theorem placeFrame_requestFrame {r : Request} (hw : r.wellFormed = true) (hr : readsBack r = true) (tag : Byte)
    (s : State) : placeFrame (requestFrame tag r) s = submit tag r s := by
  cases he : s.link.executing with
  | none => simp only [placeFrame, submit, he, executeFrame_requestFrame hw hr]
  | some e => simp only [placeFrame, submit, he]

/-- The bytes of a frame whose CHECK is right place it (R179, R180). -/
theorem State.takeLinkBytes_goodFrame {s : State} {inner : List Byte} (hrx : s.link.rx = .hunt)
    (hstray : s.link.stray ≠ .run) (hmin : 2 ≤ inner.length) (hmax : inner.length ≤ 2050) :
    s.takeLinkBytes (syncByte :: leBytes 2 inner.length ++ inner ++
        leBytes 2 (crc16 (leBytes 2 inner.length ++ inner)).toNat) =
      placeFrame (frameOf (leBytes 2 inner.length ++ inner ++
        leBytes 2 (crc16 (leBytes 2 inner.length ++ inner)).toNat)) (s.setReceiver .hunt [] .none) :=
  (State.takeLinkBytes_frame hrx hstray hmin hmax _ _).trans (if_pos rfl)

/-- The bytes of a request frame place it (R179, R180). -/
theorem State.takeLinkBytes_frameBytes {s : State} {r : Request} (hw : r.wellFormed = true) (tag : Byte)
    (hrx : s.link.rx = .hunt) (hheld : s.link.held = []) (hstray : s.link.stray = .none) :
    s.takeLinkBytes (frameBytes tag r) = placeFrame (requestFrame tag r) s := by
  have hbody := length_requestBody_le hw
  have hlength : (tag :: (requestKind r).code :: requestBody r).length ≤ 2050 := by
    rw [List.length_cons, List.length_cons]
    omega
  have htake := State.takeLinkBytes_goodFrame hrx (by simp [hstray]) (by simp) hlength
  rw [frameOf_whole hbody, State.setReceiver_self hrx hheld hstray] at htake
  exact htake

/-- Settles O12: the frame's bytes place the frame (`State.takeLinkBytes_frameBytes`), and a placed request frame
acts as its request submitted (`placeFrame_requestFrame`). -/
theorem frameBytesActAsTheirRequest : Obligations.FrameBytesActAsTheirRequest := by
  intro c tag r s hc hw hr hrx hheld hstray
  have hsame : exec (.commandFrameCompleted (frameBytes tag r)) s = exec c s := by
    rw [exec_of_requestOf s hc]
    show whenPowered s (s.takeLinkBytes (frameBytes tag r)) = whenPowered s (submit tag r s)
    rw [State.takeLinkBytes_frameBytes hw tag hrx hheld hstray, placeFrame_requestFrame hw hr]
  obtain ⟨t, ht, -⟩ := everyCommandActsAndKeepsTheQueue c s
  exact ⟨t, hsame.trans ht, ht⟩

end Sys2Proof.Machine

/-! ## The round trip of bodies, and the queue (R197; log entry 26) -/

namespace Sys2Proof.Machine

/-- Settles O13, by the round trip of each body (`parseBody_requestBody`). -/
theorem bodiesReadBack : Obligations.BodiesReadBack :=
  fun _ => parseBody_requestBody

/-- A queue with a command in front: the command acts on the part with the rest of the queue. -/
theorem step_of_pending_cons {s : State} {c : Instr} {rest : List Instr} (h : s.pending = c :: rest) :
    step s = exec c { s with pending := rest } := by
  rw [step, h]

/-- An empty queue: the part idles. -/
theorem step_of_pending_nil {s : State} (h : s.pending = []) : step s = .next s := by
  rw [step, h]

/-- Settles O1, by the two forms of the queue (`step_of_pending_cons`, `step_of_pending_nil`). -/
theorem stepRunsTheFrontCommand : Obligations.StepRunsTheFrontCommand :=
  ⟨fun _ _ _ => step_of_pending_cons rfl, fun _ => step_of_pending_nil⟩

end Sys2Proof.Machine
